-- ==== Sys2Proof/Word.lean ====
section
/-! DEFINITION. The plain word and index types of the BD6 model. Words are bit vectors only where the manual
treats the thing as bytes or bits on the link; everything numbered from a fixed range is a Fin. -/

namespace Sys2Proof

/-- One byte of a frame. -/
abbrev Byte := BitVec 8
/-- A two-byte field, a flag word or a cause set. -/
abbrev Half := BitVec 16
/-- A four-byte field: a volume, a time, a reference, a sequence number as the link carries it. -/
abbrev Word := BitVec 32
/-- A 48-bit tag identity (Terms, "Tag ID"). -/
abbrev TagId := BitVec 48

/-- A node of a segment, 0 to 31 (R141). -/
abbrev Node := Fin 32
/-- A hose, 0 to 5 (R44). -/
abbrev HoseId := Fin 6
/-- A compartment, 0 to 3 (R87). -/
abbrev CompId := Fin 4
/-- A grade, 0 to 7. -/
abbrev Grade := Fin 8
/-- A machine class, 0 to 15. -/
abbrev ClassId := Fin 16
/-- A cost centre, 0 to 63. -/
abbrev CentreId := Fin 64
/-- An entry of the Machine Table, 0 to 511 (R1). -/
abbrev EntryId := Fin 512
/-- A bucket of the Machine Table, 0 to 63 (R3). -/
abbrev Bucket := Fin 64
/-- A frame class, 0 to 63 (R139). -/
abbrev FrameClass := Fin 64

end Sys2Proof
end

