-- ==== Sys2Proof/Config.lean ====
section
/-! DEFINITION. What is fixed for the part (capacities, identity, bounds) and the values the manual leaves open:
the latter are opaque, so that nothing can be proved about them. -/

namespace Sys2Proof.Config

/-- Saturation bound of the 32-bit counters and totals (R44, R79, R147, R158). -/
abbrev max32 : Nat := 4294967295
/-- Saturation bound of the 16-bit counters (R6, R70, R87, R125). -/
abbrev max16 : Nat := 65535
/-- Largest volume an operand may name: 99,999,999 mL. -/
abbrev maxVolume : Nat := 99999999
/-- Largest accumulator total (R125). -/
abbrev maxCentre : Nat := 999999999999
/-- Largest hour reading, tenths of an hour (R21). -/
abbrev maxHours : Nat := 999999
/-- Slots of the billing log (R113). -/
abbrev logSlots : Nat := 1024
/-- The log level that sets LOG_HIGH (R118). -/
abbrev logHighLevel : Nat := 960
/-- The bound of the second ground of R114. -/
abbrev seqLimit : Nat := 4294967295
/-- Slots of a transmit queue (R153). -/
abbrev txSlots : Nat := 32
/-- Ordinary frames that may wait at one port (R153). -/
abbrev txOrdinary : Nat := 20
/-- Longest payload of a frame (R139). -/
abbrev maxPayload : Nat := 128
/-- Visits after which a walk has a fault: the 513th (R6). -/
abbrev walkVisits : Nat := 512
/-- The ten capacities of IDENTIFY, in R170's order. -/
abbrev capacities : List Nat := [512, 64, 6, 4, 8, 16, 64, 1024, 32, 32]
/-- IDENTIFY's vendor code, 2A61 hex (the table of 10.5). -/
abbrev vendorCode : Nat := 0x2A61
/-- IDENTIFY's part code, 0B06 hex (the table of 10.5). -/
abbrev partCode : Nat := 0x0B06
/-- The straps of the cold start that State.reset stands for. DESIGN CHOICE (log entry 12): the pins are an input and the
manual gives them no value; 2 is the node of its own worked sequence (9.10). Unsafe. -/
abbrev resetStraps : Node := 2

/-- IDENTIFY's revision byte: R170 and the table of 10.5 name the field and give no value. A free value (log entry 14):
no body a proof could see. -/
opaque revision : Byte

/-- The value that a signed 48-bit item (book, unattributed draw, adjustment, availability) takes when the sum the rules
form lies outside 48 bits: no rule states it. A free value (log entry 13), applied to the draw counter of State and to the
exact sum. -/
opaque unstated48 : Nat → Int → BitVec 48

end Sys2Proof.Config
end

