-- ==== Sys2Proof/Syntax.lean ====
section
/-! DEFINITION. The commands of the block: one constructor of Instr for each row of spec/opcode_table.json, with the
row's operands as the link carries them (every value a field can hold, in range or not), and the wire forms of Formats. -/

namespace Sys2Proof

/-- The two ports of the part (R139). -/
inductive Port where
  | field
  | cab
deriving DecidableEq, Repr

/-- The port a frame is forwarded to (R149). -/
def Port.other : Port → Port
  | .field => .cab
  | .cab => .field

/-- A good frame (R139): the envelope's destination, source and class, and the payload. The length byte is the payload's
length and the check is formed from the rest (R140), so neither is held. -/
structure Frame where
  dest : Node
  src : Node
  cls : FrameClass
  payload : List Byte
deriving DecidableEq, Repr

/-- Destination and source node of an arriving device frame whose class the row fixes. -/
structure Addr where
  dest : Node
  src : Node
deriving DecidableEq, Repr

/-- The machine entry load form as an operand (10.3): hour check and allowance as sent. -/
structure MachineForm where
  tag : TagId
  number : Half
  cls : Byte
  centre : Byte
  grades : Byte
  hourCheck : Byte
  allowance : Word
deriving DecidableEq, Repr

/-- The profile form as an operand (10.5). -/
structure ProfileForm where
  mode : Byte
  head : Byte
  comp : Byte
  classMask : Half
  maxPreset : Word
  minDelivery : Word
  slowStart : Half
  slowStop : Half
  window : Half
  noFlow : Half
  silence : Byte
  settle : Byte
  postDelay : Half
  holdLimit : Half
deriving DecidableEq, Repr

/-- The calibration form as an operand (10.5). -/
structure CalForm where
  weight : Word
  u1 : Half
  u2 : Half
  u3 : Half
  c1 : Word
  c2 : Word
  c3 : Word
  c4 : Word
  uOver : Half
deriving DecidableEq, Repr

/-- The compartment form as an operand (10.5). -/
structure CompForm where
  grade : Byte
  probe : Byte
  capacity : Word
  dead : Word
  low : Word
  hysteresis : Word
  high : Word
  tolerance : Word
  limit : Byte
deriving DecidableEq, Repr

/-- The carriage entry form as an operand (10.5). -/
structure CarriageForm where
  directions : Byte
  sources : Word
  guard : Byte
deriving DecidableEq, Repr

/-- The strike policy form as an operand (10.5). -/
structure PolicyForm where
  aFail : Byte
  bFail : Byte
  pass : Byte
  threshold : Byte
  maxJump : Half
deriving DecidableEq, Repr

/-- The eight prices of LOAD_TARIFF, grade 0 first (R109). -/
structure PriceForm where
  p0 : Word
  p1 : Word
  p2 : Word
  p3 : Word
  p4 : Word
  p5 : Word
  p6 : Word
  p7 : Word
deriving DecidableEq, Repr

/-- The one value of a machine entry that the retained store loses, with what it holds afterwards (R2, Note 1). The loss
can reach each item the check code covers, and the code itself (log entry 11). STORE_VALUE_LOST carries it with its entry, where
it reaches one, and the change it makes to the CRC-16 over the control items, 0 where it reaches none (R179, log entry 10). -/
inductive LostValue where
  | tag (v : TagId)
  | number (v : Half)
  | cls (v : ClassId)
  | centre (v : CentreId)
  | grades (v : Byte)
  | hourCheck (v : Bool)
  | allowance (v : Option Word)
  | link (v : Option EntryId)
  | check (v : Half)
deriving DecidableEq, Repr

/-- The commands: one constructor per row of spec/opcode_table.json, in the table's order. A row that is a frame carries the
frame's nodes and its payload's fields; its class and its port are fixed by the row. -/
inductive Instr where
  | badFrame (p : Port) (bytes : List Byte)
  | screenDrop (p : Port) (f : Frame)
  | carriageFrame (p : Port) (f : Frame)
  | tagRead (a : Addr) (tag : TagId) (hours : Word) (quality : Byte)
  | nozzle (a : Addr) (value : Byte)
  | meterSample (a : Addr) (seq : Byte) (total : Half) (temp : Half)
  | headStatus (a : Addr) (code : Byte)
  | probe (a : Addr) (volume : Word) (status : Byte)
  | post (a : Addr) (hose : Byte)
  | hold (a : Addr) (hose : Byte)
  | resume (a : Addr) (hose : Byte)
  | stop (a : Addr) (hose : Byte)
  | emergencyStop (a : Addr)
  | manualAuth (a : Addr) (hose centre cls presence : Byte) (machine : Half) (reference : Word)
  | receiveStart (a : Addr) (hose : Byte) (volume : Word) (presence : Byte) (reference : Word)
  | malformedRequest (a : Addr) (payload : List Byte)
  | authWindowExpiry (h : HoseId)
  | noFlowExpiry (h : HoseId)
  | meterSilenceExpiry (h : HoseId)
  | settleExpiry (h : HoseId)
  | postDelayExpiry (h : HoseId)
  | holdLimitExpiry (h : HoseId)
  | frameSent (p : Port)
  | startUp (straps : Node)
  | malformedCommand (a : Addr) (payload : List Byte)
  | identify (a : Addr)
  | status (a : Addr) (sect number option : Byte)
  | statusCounterClear (a : Addr) (sect number : Byte)
  | setClock (a : Addr) (seconds : Word)
  | setPrivilege (a : Addr) (node level : Byte)
  | setProtection (a : Addr) (flags : Byte)
  | digest (a : Addr) (selector : Byte)
  | digestDone
  | queryEmpty (a : Addr) (selector : Byte)
  | wipe (a : Addr)
  | restart (a : Addr)
  | loadMachine (a : Addr) (form : MachineForm)
  | deleteMachine (a : Addr) (tag : TagId)
  | readMachineByTag (a : Addr) (tag : TagId)
  | readMachineByIndex (a : Addr) (start : Half)
  | setAllowance (a : Addr) (tag : TagId) (volume : Word)
  | clearStrikes (a : Addr) (tag : TagId)
  | openPeriod (a : Addr)
  | sweep (a : Addr)
  | sweepDone
  | setStrikePolicy (a : Addr) (form : PolicyForm)
  | rollCallStart (a : Addr)
  | rollCallStop (a : Addr)
  | rollCallRead (a : Addr) (start : Half)
  | loadHoseProfile (a : Addr) (hose : Byte) (form : ProfileForm)
  | siteStop (a : Addr)
  | siteResume (a : Addr)
  | loadCalibration (a : Addr) (hose : Byte) (form : CalForm)
  | loadGrade (a : Addr) (grade : Byte) (beta : Half)
  | loadCompartment (a : Addr) (comp : Byte) (form : CompForm)
  | ackRestock (a : Addr) (comp : Byte) (reference : Word)
  | setStock (a : Addr) (comp : Byte) (volume : Word)
  | reconcile (a : Addr) (comp : Byte)
  | loadTariff (a : Addr) (prices : PriceForm)
  | loadClassRate (a : Addr) (cls : Byte) (fraction : Half)
  | readLog (a : Addr) (seq : Word)
  | releaseLog (a : Addr) (seq : Word)
  | readCentres (a : Addr) (start option : Byte)
  | clearCentres (a : Addr) (centre : Byte)
  | rearm (a : Addr) (causes : Half)
  | loadFrameClass (a : Addr) (cls : Byte) (form : CarriageForm)
  | siteClockSecond
  | mainSupplyLoss
  | retentionSupplyFailure
  | storeValueLost (entry : Option (EntryId × LostValue)) (change : Half)
deriving DecidableEq, Repr

end Sys2Proof
end

