-- ==== Sys2Proof/Decode.lean ====
section
/-! DEFINITION. The link's bytes: the CRC-16 (R140), the receiver's check (R139), the reading of a good frame as a command of
Instr (R182, R184, the tables of 10.2 and 10.5) and the writing of a command as its frame. decodeTableWord stands last: no
row of the opcode table gives bits. -/

namespace Sys2Proof

/-! ### Bytes of numbers, most significant first (R181) -/

/-- The two bytes of a half. -/
def be2 (v : Half) : List Byte := [v.extractLsb' 8 8, v.extractLsb' 0 8]
/-- The four bytes of a word. -/
def be4 (v : Word) : List Byte := [v.extractLsb' 24 8, v.extractLsb' 16 8, v.extractLsb' 8 8, v.extractLsb' 0 8]
/-- The six bytes of a tag ID. -/
def be6 (v : TagId) : List Byte :=
  [v.extractLsb' 40 8, v.extractLsb' 32 8, v.extractLsb' 24 8, v.extractLsb' 16 8, v.extractLsb' 8 8, v.extractLsb' 0 8]
/-- A half from its bytes. -/
def rd2 (a b : Byte) : Half := a ++ b
/-- A word from its bytes. -/
def rd4 (a b c d : Byte) : Word := a ++ b ++ c ++ d
/-- A tag ID from its bytes. -/
def rd6 (a b c d e f : Byte) : TagId := a ++ b ++ c ++ d ++ e ++ f

/-- The low n bytes of a number, most significant first (R181). -/
def beN : Nat → Nat → List Byte
  | 0, _ => []
  | n + 1, v => BitVec.ofNat 8 (v >>> (8 * n)) :: beN n v

/-- The six bytes of a signed 48-bit number, two's complement (R181). -/
def be48 (v : BitVec 48) : List Byte := be6 v

/-! ### CRC-16 (R140) -/

/-- One bit of the division by 1021 hex. -/
def crcBit (r : Half) : Half := if r.msb then (r <<< 1) ^^^ 0x1021#16 else r <<< 1
/-- One byte, most significant bit first. -/
def crcByte (r : Half) (b : Byte) : Half :=
  crcBit (crcBit (crcBit (crcBit (crcBit (crcBit (crcBit (crcBit (r ^^^ (b.setWidth 16 <<< 8)))))))))
/-- The register after some bytes. -/
def crcFrom (r : Half) (bs : List Byte) : Half := bs.foldl crcByte r
/-- The part's one CRC-16: initial value FFFF hex, no reflection, no inversion. -/
def crc16 (bs : List Byte) : Half := crcFrom 0xFFFF#16 bs

/-! ### Frames (8.1) -/

/-- The bytes a check covers: destination, source, class, length and payload (R140). -/
def Frame.covered (f : Frame) : List Byte :=
  [BitVec.ofNat 8 f.dest.val, BitVec.ofNat 8 f.src.val, BitVec.ofNat 8 f.cls.val, BitVec.ofNat 8 f.payload.length] ++ f.payload

/-- The frame as it stands on a segment: the covered bytes, then the check, high byte first. -/
def Frame.bytes (f : Frame) : List Byte := f.covered ++ be2 (crc16 f.covered)

/-- The receiver's check (R139): the frame the bytes spell, or none for a bad frame. The CRC is tested as R140 says, over the
whole frame with a register of 0 at its end. -/
def parseFrame (bytes : List Byte) : Option Frame :=
  match bytes with
  | d :: s :: c :: n :: rest =>
    if hd : d.toNat < 32 then
      if hs : s.toNat < 32 then
        if hc : c.toNat < 64 then
          if n.toNat ≤ Config.maxPayload && rest.length == n.toNat + 2 && crc16 bytes == 0#16 then
            some { dest := ⟨d.toNat, hd⟩, src := ⟨s.toNat, hs⟩, cls := ⟨c.toNat, hc⟩, payload := rest.take n.toNat }
          else none
        else none
      else none
    else none
  | _ => none

/-! ### Reading a payload as a command -/

/-- An OPERATOR payload (the request table of 10.2, R182): a request whose length fits its kind, or a malformed one. -/
def requestInstr (a : Addr) (pl : List Byte) : Instr :=
  match pl with
  | [k] => if k = 5#8 then .emergencyStop a else .malformedRequest a pl
  | [k, h] =>
    if k = 1#8 then .post a h else if k = 2#8 then .hold a h else if k = 3#8 then .resume a h
    else if k = 4#8 then .stop a h else .malformedRequest a pl
  | [k, h, b1, b2, b3, b4, b5, b6, b7, b8, b9] =>
    if k = 6#8 then .manualAuth a h b1 b2 b3 (rd2 b4 b5) (rd4 b6 b7 b8 b9)
    else if k = 7#8 then .receiveStart a h (rd4 b1 b2 b3 b4) b5 (rd4 b6 b7 b8 b9)
    else .malformedRequest a pl
  | _ => .malformedRequest a pl

/-- A MGMT_COMMAND's operands after a known code, when their length is one of the code's request lengths (the command table
of 10.5, R184). -/
def commandOps (a : Addr) (code : Nat) (ops : List Byte) : Option Instr :=
  match code with
  | 1 => match ops with | [] => some (.identify a) | _ => none
  | 2 => match ops with
    | [x, n, o] => some (if o = 1#8 then .statusCounterClear a x n else .status a x n o)
    | _ => none
  | 3 => match ops with | [b0, b1, b2, b3] => some (.setClock a (rd4 b0 b1 b2 b3)) | _ => none
  | 4 => match ops with | [n, l] => some (.setPrivilege a n l) | _ => none
  | 5 => match ops with | [f] => some (.setProtection a f) | _ => none
  | 6 => match ops with | [x] => some (.digest a x) | _ => none
  | 7 => match ops with | [x] => some (.queryEmpty a x) | _ => none
  | 8 => match ops with | [] => some (.wipe a) | _ => none
  | 9 => match ops with | [] => some (.restart a) | _ => none
  | 10 => match ops with
    | [t0, t1, t2, t3, t4, t5, n0, n1, c, z, g, k, v0, v1, v2, v3] =>
      some (.loadMachine a { tag := rd6 t0 t1 t2 t3 t4 t5, number := rd2 n0 n1, cls := c, centre := z, grades := g,
                             hourCheck := k, allowance := rd4 v0 v1 v2 v3 })
    | _ => none
  | 11 => match ops with | [t0, t1, t2, t3, t4, t5] => some (.deleteMachine a (rd6 t0 t1 t2 t3 t4 t5)) | _ => none
  | 12 => match ops with
    | [t0, t1, t2, t3, t4, t5] => some (.readMachineByTag a (rd6 t0 t1 t2 t3 t4 t5))
    | [i0, i1] => some (.readMachineByIndex a (rd2 i0 i1))
    | _ => none
  | 13 => match ops with
    | [t0, t1, t2, t3, t4, t5, v0, v1, v2, v3] =>
      some (.setAllowance a (rd6 t0 t1 t2 t3 t4 t5) (rd4 v0 v1 v2 v3))
    | _ => none
  | 14 => match ops with | [t0, t1, t2, t3, t4, t5] => some (.clearStrikes a (rd6 t0 t1 t2 t3 t4 t5)) | _ => none
  | 15 => match ops with | [] => some (.openPeriod a) | _ => none
  | 16 => match ops with | [] => some (.sweep a) | _ => none
  | 17 => match ops with
    | [x, y, z, t, j0, j1] =>
      some (.setStrikePolicy a { aFail := x, bFail := y, pass := z, threshold := t, maxJump := rd2 j0 j1 })
    | _ => none
  | 18 => match ops with
    | [o] => if o = 0#8 then some (.rollCallStart a) else if o = 1#8 then some (.rollCallStop a) else none
    | [o, i0, i1] => if o = 2#8 then some (.rollCallRead a (rd2 i0 i1)) else none
    | _ => none
  | 20 => match ops with
    | [h, m, n, c, k0, k1, x0, x1, x2, x3, d0, d1, d2, d3, s0, s1, t0, t1, w0, w1, f0, f1, q, e, p0, p1, l0, l1] =>
      some (.loadHoseProfile a h { mode := m, head := n, comp := c, classMask := rd2 k0 k1, maxPreset := rd4 x0 x1 x2 x3,
                                   minDelivery := rd4 d0 d1 d2 d3, slowStart := rd2 s0 s1, slowStop := rd2 t0 t1,
                                   window := rd2 w0 w1, noFlow := rd2 f0 f1, silence := q, settle := e,
                                   postDelay := rd2 p0 p1, holdLimit := rd2 l0 l1 })
    | _ => none
  | 21 => match ops with | [] => some (.siteStop a) | _ => none
  | 22 => match ops with | [] => some (.siteResume a) | _ => none
  | 23 => match ops with
    | [h, w0, w1, w2, w3, a0, a1, b0, b1, c0, c1, d0, d1, d2, d3, e0, e1, e2, e3, f0, f1, f2, f3, g0, g1, g2, g3, u0, u1] =>
      some (.loadCalibration a h { weight := rd4 w0 w1 w2 w3, u1 := rd2 a0 a1, u2 := rd2 b0 b1, u3 := rd2 c0 c1,
                                   c1 := rd4 d0 d1 d2 d3, c2 := rd4 e0 e1 e2 e3, c3 := rd4 f0 f1 f2 f3,
                                   c4 := rd4 g0 g1 g2 g3, uOver := rd2 u0 u1 })
    | _ => none
  | 24 => match ops with | [g, b0, b1] => some (.loadGrade a g (rd2 b0 b1)) | _ => none
  | 25 => match ops with
    | [c, g, n, a0, a1, a2, a3, d0, d1, d2, d3, l0, l1, l2, l3, y0, y1, y2, y3, h0, h1, h2, h3, t0, t1, t2, t3, v] =>
      some (.loadCompartment a c { grade := g, probe := n, capacity := rd4 a0 a1 a2 a3, dead := rd4 d0 d1 d2 d3,
                                   low := rd4 l0 l1 l2 l3, hysteresis := rd4 y0 y1 y2 y3, high := rd4 h0 h1 h2 h3,
                                   tolerance := rd4 t0 t1 t2 t3, limit := v })
    | _ => none
  | 26 => match ops with | [c, b0, b1, b2, b3] => some (.ackRestock a c (rd4 b0 b1 b2 b3)) | _ => none
  | 27 => match ops with | [c, b0, b1, b2, b3] => some (.setStock a c (rd4 b0 b1 b2 b3)) | _ => none
  | 28 => match ops with | [c] => some (.reconcile a c) | _ => none
  | 30 => match ops with
    | [a0, a1, a2, a3, b0, b1, b2, b3, c0, c1, c2, c3, d0, d1, d2, d3, e0, e1, e2, e3, f0, f1, f2, f3, g0, g1, g2, g3,
       h0, h1, h2, h3] =>
      some (.loadTariff a { p0 := rd4 a0 a1 a2 a3, p1 := rd4 b0 b1 b2 b3, p2 := rd4 c0 c1 c2 c3, p3 := rd4 d0 d1 d2 d3,
                            p4 := rd4 e0 e1 e2 e3, p5 := rd4 f0 f1 f2 f3, p6 := rd4 g0 g1 g2 g3, p7 := rd4 h0 h1 h2 h3 })
    | _ => none
  | 31 => match ops with | [c, b0, b1] => some (.loadClassRate a c (rd2 b0 b1)) | _ => none
  | 32 => match ops with | [b0, b1, b2, b3] => some (.readLog a (rd4 b0 b1 b2 b3)) | _ => none
  | 33 => match ops with | [b0, b1, b2, b3] => some (.releaseLog a (rd4 b0 b1 b2 b3)) | _ => none
  | 34 => match ops with | [n, o] => some (.readCentres a n o) | _ => none
  | 35 => match ops with | [n] => some (.clearCentres a n) | _ => none
  | 36 => match ops with | [b0, b1] => some (.rearm a (rd2 b0 b1)) | _ => none
  | 37 => match ops with
    | [c, d, s0, s1, s2, s3, g] =>
      some (.loadFrameClass a c { directions := d, sources := rd4 s0 s1 s2 s3, guard := g })
    | _ => none
  | _ => none

/-- A MGMT_COMMAND payload: the row it spells, or malformedCommand with the payload as it stands. -/
def commandInstr (a : Addr) (pl : List Byte) : Instr :=
  match pl with
  | [] => .malformedCommand a pl
  | c :: ops => (commandOps a c.toNat ops).getD (.malformedCommand a pl)

/-- A ROLL_CALL payload whose option is outside the listed codes: it passes the form check with either length and is
refused FAIL RANGE (R184). No row spells it, so it stands under malformedCommand. -/
def oddRollCall (pl : List Byte) : Bool :=
  match pl with
  | [c, o] => c == 18#8 && 3 ≤ o.toNat
  | [c, o, _, _] => c == 18#8 && 3 ≤ o.toNat
  | _ => false

/-- The row a good frame at a port belongs to, whatever the state: a carriage frame; a device frame of the port's own
classes whose payload has the length of its class; or a frame the screen drops in every state (SCREEN_DROP). -/
def frameInstr (p : Port) (f : Frame) : Instr :=
  if 13 ≤ f.cls.val then .carriageFrame p f
  else
    let a : Addr := ⟨f.dest, f.src⟩
    match p, f.cls.val, f.payload with
    | .field, 0, [t0, t1, t2, t3, t4, t5, h0, h1, h2, h3, q] =>
      .tagRead a (rd6 t0 t1 t2 t3 t4 t5) (rd4 h0 h1 h2 h3) q
    | .field, 1, [v] => .nozzle a v
    | .field, 2, [q, n0, n1, t0, t1] => .meterSample a q (rd2 n0 n1) (rd2 t0 t1)
    | .field, 3, [v0, v1, v2, v3, x] => .probe a (rd4 v0 v1 v2 v3) x
    | .field, 4, [c] => .headStatus a c
    | .cab, 6, pl => requestInstr a pl
    | .cab, 11, pl => commandInstr a pl
    | _, _, _ => .screenDrop p f

/-! ### Writing a command as its frame -/

/-- The machine load form's 16 bytes, as an operand (10.3). -/
def MachineForm.bytes (m : MachineForm) : List Byte :=
  be6 m.tag ++ be2 m.number ++ [m.cls, m.centre, m.grades, m.hourCheck] ++ be4 m.allowance
/-- The profile form's 27 bytes (10.5). -/
def ProfileForm.bytes (p : ProfileForm) : List Byte :=
  [p.mode, p.head, p.comp] ++ be2 p.classMask ++ be4 p.maxPreset ++ be4 p.minDelivery ++ be2 p.slowStart ++ be2 p.slowStop
    ++ be2 p.window ++ be2 p.noFlow ++ [p.silence, p.settle] ++ be2 p.postDelay ++ be2 p.holdLimit
/-- The calibration form's 28 bytes (10.5). -/
def CalForm.bytes (c : CalForm) : List Byte :=
  be4 c.weight ++ be2 c.u1 ++ be2 c.u2 ++ be2 c.u3 ++ be4 c.c1 ++ be4 c.c2 ++ be4 c.c3 ++ be4 c.c4 ++ be2 c.uOver
/-- The compartment form's 27 bytes (10.5). -/
def CompForm.bytes (c : CompForm) : List Byte :=
  [c.grade, c.probe] ++ be4 c.capacity ++ be4 c.dead ++ be4 c.low ++ be4 c.hysteresis ++ be4 c.high ++ be4 c.tolerance
    ++ [c.limit]
/-- The carriage entry form's 6 bytes (10.5). -/
def CarriageForm.bytes (c : CarriageForm) : List Byte := [c.directions] ++ be4 c.sources ++ [c.guard]
/-- The strike policy form's 6 bytes (10.5). -/
def PolicyForm.bytes (p : PolicyForm) : List Byte := [p.aFail, p.bFail, p.pass, p.threshold] ++ be2 p.maxJump
/-- The eight prices' 32 bytes (10.5). -/
def PriceForm.bytes (p : PriceForm) : List Byte :=
  be4 p.p0 ++ be4 p.p1 ++ be4 p.p2 ++ be4 p.p3 ++ be4 p.p4 ++ be4 p.p5 ++ be4 p.p6 ++ be4 p.p7

/-- The nodes and the payload of a management command's frame (10.5). -/
def Instr.commandPayload : Instr → Option (Addr × List Byte)
  | .malformedCommand a pl => some (a, pl)
  | .identify a => some (a, [1#8])
  | .status a x n o => some (a, [2#8, x, n, o])
  | .statusCounterClear a x n => some (a, [2#8, x, n, 1#8])
  | .setClock a t => some (a, [3#8] ++ be4 t)
  | .setPrivilege a n l => some (a, [4#8, n, l])
  | .setProtection a f => some (a, [5#8, f])
  | .digest a x => some (a, [6#8, x])
  | .queryEmpty a x => some (a, [7#8, x])
  | .wipe a => some (a, [8#8])
  | .restart a => some (a, [9#8])
  | .loadMachine a m => some (a, [10#8] ++ m.bytes)
  | .deleteMachine a t => some (a, [11#8] ++ be6 t)
  | .readMachineByTag a t => some (a, [12#8] ++ be6 t)
  | .readMachineByIndex a i => some (a, [12#8] ++ be2 i)
  | .setAllowance a t v => some (a, [13#8] ++ be6 t ++ be4 v)
  | .clearStrikes a t => some (a, [14#8] ++ be6 t)
  | .openPeriod a => some (a, [15#8])
  | .sweep a => some (a, [16#8])
  | .setStrikePolicy a p => some (a, [17#8] ++ p.bytes)
  | .rollCallStart a => some (a, [18#8, 0#8])
  | .rollCallStop a => some (a, [18#8, 1#8])
  | .rollCallRead a i => some (a, [18#8, 2#8] ++ be2 i)
  | .loadHoseProfile a h p => some (a, [20#8, h] ++ p.bytes)
  | .siteStop a => some (a, [21#8])
  | .siteResume a => some (a, [22#8])
  | .loadCalibration a h c => some (a, [23#8, h] ++ c.bytes)
  | .loadGrade a g b => some (a, [24#8, g] ++ be2 b)
  | .loadCompartment a c m => some (a, [25#8, c] ++ m.bytes)
  | .ackRestock a c r => some (a, [26#8, c] ++ be4 r)
  | .setStock a c v => some (a, [27#8, c] ++ be4 v)
  | .reconcile a c => some (a, [28#8, c])
  | .loadTariff a p => some (a, [30#8] ++ p.bytes)
  | .loadClassRate a c f => some (a, [31#8, c] ++ be2 f)
  | .readLog a q => some (a, [32#8] ++ be4 q)
  | .releaseLog a q => some (a, [33#8] ++ be4 q)
  | .readCentres a n o => some (a, [34#8, n, o])
  | .clearCentres a n => some (a, [35#8, n])
  | .rearm a c => some (a, [36#8] ++ be2 c)
  | .loadFrameClass a c m => some (a, [37#8, c] ++ m.bytes)
  | _ => none

/-- The nodes and the payload of an operator request's frame (10.2). -/
def Instr.requestPayload : Instr → Option (Addr × List Byte)
  | .post a h => some (a, [1#8, h])
  | .hold a h => some (a, [2#8, h])
  | .resume a h => some (a, [3#8, h])
  | .stop a h => some (a, [4#8, h])
  | .emergencyStop a => some (a, [5#8])
  | .manualAuth a h z c p m r => some (a, [6#8, h, z, c, p] ++ be2 m ++ be4 r)
  | .receiveStart a h v p r => some (a, [7#8, h] ++ be4 v ++ [p] ++ be4 r)
  | .malformedRequest a pl => some (a, pl)
  | _ => none

/-- The frame of a row that is a frame of a device class the part reads, or a raw frame: the port it arrives at and its
contents. None for events and for BAD_FRAME. -/
def Instr.linkFrame : Instr → Option (Port × Frame)
  | .screenDrop p f => some (p, f)
  | .carriageFrame p f => some (p, f)
  | .tagRead a t h q => some (.field, ⟨a.dest, a.src, 0, be6 t ++ be4 h ++ [q]⟩)
  | .nozzle a v => some (.field, ⟨a.dest, a.src, 1, [v]⟩)
  | .meterSample a q n t => some (.field, ⟨a.dest, a.src, 2, [q] ++ be2 n ++ be2 t⟩)
  | .probe a v x => some (.field, ⟨a.dest, a.src, 3, be4 v ++ [x]⟩)
  | .headStatus a c => some (.field, ⟨a.dest, a.src, 4, [c]⟩)
  | i =>
    match i.requestPayload with
    | some (a, pl) => some (.cab, ⟨a.dest, a.src, 6, pl⟩)
    | none =>
      match i.commandPayload with
      | some (a, pl) => some (.cab, ⟨a.dest, a.src, 11, pl⟩)
      | none => none

/-- The command that a word spells by the table's bits: none, since no row of spec/opcode_table.json gives bits. -/
def decodeTableWord (nbits w : Nat) : Option Instr :=
  match nbits, w with
  | _, _ => none

end Sys2Proof
end

