-- ==== Sys2Proof/Machine/State.lean ====
section
/-! DEFINITION. The state of the block as plain data: one structure for each of the manual's ten blocks, the queue of
waiting commands, and the machine right after reset (a cold start). -/

namespace Sys2Proof.Machine

/-! ### Names of phases, states, causes and codes -/

/-- A hose's mode (R45). -/
inductive Mode where
  | off | issue | receive
deriving DecidableEq, Repr

/-- A hose's phase (R44, R47). -/
inductive Phase where
  | off | idle | authorized | slowStart | fullFlow | slowStop | held | closing | result
deriving DecidableEq, Repr

/-- The nozzle state as the head last reported it (R44, R48): a receive head's words are kept as sent. -/
inductive Nozzle where
  | lifted | hung | connected | disconnected
deriving DecidableEq, Repr

/-- The hold mark of a HELD hose (R61, R63). -/
inductive HoldMark where
  | operator | site
deriving DecidableEq, Repr

/-- A valve command (R55). -/
inductive ValveCmd where
  | close | openSlow | openFull
deriving DecidableEq, Repr

/-- The kind of a transaction context (R36, R41). -/
inductive TxKind where
  | delivery | receipt
deriving DecidableEq, Repr

/-- The kind of a billing record (R119). -/
inductive RecordKind where
  | delivery | receipt | adjustment
deriving DecidableEq, Repr

/-- Why a transaction left flow (R54, R121). -/
inductive EndCause where
  | presetReached | nozzleHung | noFlow | meterSilent | headFault | operatorStop | overfillStop | holdExpired | powerLost
  | reconciled
deriving DecidableEq, Repr

/-- A flag of the transaction's flag word (R120; its bit in 10.6). -/
inductive Flag where
  | uncompensated | tempHeld | tempClamped | overspeed | sampleGap | allowanceLimited | stockLimited | ullageLimited
  | manual | noHours | entryGone | clockUnset | totalSaturated
deriving DecidableEq, Repr

/-- An attention cause (R131; its bit in 10.6). -/
inductive Cause where
  | unauthorizedFlow | meterSilent | headFault | variance | overfill | machineBarred | logHigh | tableFault | restarted
  | retentionLost
deriving DecidableEq, Repr

/-- A refusal reason of NOTICE AUTH_REFUSED or REQUEST_REFUSED (10.6). -/
inductive Reason where
  | uncalibrated | siteStopped | tableFault | unknownTag | barred | busyElsewhere | wrongGrade | wrongClass | hoursCheck
  | logFull | lowAllowance | lowStock | lowUllage | shortRequest | privilege | range | hoseBusy | wrongMode | wrongPhase
  | authExpired | operatorCancel | malformed
deriving DecidableEq, Repr

/-- The kind of an operator request (R164). -/
inductive RequestKind where
  | post | hold | resume | stop | emergencyStop | manualAuth | receiveStart
deriving DecidableEq, Repr

/-- A privilege level (R162). -/
inductive Level where
  | none | operator | supervisor | site
deriving DecidableEq, Repr

/-- A carriage entry's guard (R148). -/
inductive Guard where
  | always | never | hoseIdle | allIdle | calOpen
deriving DecidableEq, Repr

/-- A strike operation (R29). -/
inductive StrikeOp where
  | zero | keep | incr | decr
deriving DecidableEq, Repr

/-- A compartment's restock state (R96 to R98). -/
inductive Restock where
  | normal | low | ordered
deriving DecidableEq, Repr

/-- The Attention Unit's state (R130). -/
inductive AttState where
  | armed | fired
deriving DecidableEq, Repr

/-- A response's status (R161). -/
inductive Status where
  | pass | fail | nack
deriving DecidableEq, Repr

/-- A response's result code (R161). -/
inductive ResultCode where
  | ok | adjusted | replaced | busy | protectedFlag | privilege | range | notFound | tableFull | logFull | logNotEmpty | state
deriving DecidableEq, Repr

/-- A DIGEST selector (R173). -/
inductive Selector where
  | machines | tariff | calibration | carriage | hoses | compartments
deriving DecidableEq, Repr

/-! ### Machine Table (chapter 1) -/

/-- The loaded fields of a machine entry (R1). -/
structure Loaded where
  tag : TagId
  number : Nat
  cls : ClassId
  centre : CentreId
  grades : Byte
  hourCheck : Bool
  allowance : Option Nat
deriving DecidableEq, Repr

/-- A machine entry (R1): loaded, kept and structure fields. -/
structure Entry where
  loaded : Loaded
  remaining : Option Nat
  period : Word
  strikes : Nat
  barred : Bool
  sighted : Bool
  lastHours : Option Nat
  busy : Option HoseId
  inUse : Bool
  next : Option EntryId
  check : Half
deriving DecidableEq, Repr

/-- The strike policy (chapter 2.5). -/
structure StrikePolicy where
  aFail : StrikeOp
  bFail : StrikeOp
  pass : StrikeOp
  threshold : Nat
  maxJump : Nat
deriving DecidableEq, Repr

/-- The Machine Table (chapter 1 and R31, R42). The free stack is listed top first. -/
structure Table where
  entries : Vector Entry 512
  heads : Vector (Option EntryId) 64
  free : List EntryId
  period : Word
  policy : StrikePolicy
  rollCall : Bool
  faults : Nat
deriving DecidableEq, Repr

/-! ### Hose Controllers and the Flow Computation Unit's per-hose items (chapters 3 and 4) -/

/-- A hose profile as stored (R45, R46). -/
structure Profile where
  mode : Mode
  head : Node
  comp : CompId
  classMask : Half
  maxPreset : Nat
  minDelivery : Nat
  slowStart : Nat
  slowStop : Nat
  window : Nat
  noFlow : Nat
  silence : Nat
  settle : Nat
  postDelay : Nat
  holdLimit : Nat
deriving DecidableEq, Repr

/-- The entry index and tag a context holds (R36, R10). -/
structure EntryRef where
  index : EntryId
  tag : TagId
deriving DecidableEq, Repr

/-- A transaction context (R36, R39, R41, R44). -/
structure Context where
  kind : TxKind
  entry : Option EntryRef
  machine : Option Nat
  cls : Option ClassId
  centre : Option CentreId
  grade : Grade
  comp : CompId
  price : Option Nat
  fraction : Option Nat
  period : Word
  preset : Nat
  flags : Half
  hoursRef : Option Nat
  startTime : Option Word
  gross : Nat
  net : Nat
  heldTemp : Option Int
  lastTemp : Option Int
  endCause : Option EndCause
  endTime : Option Word
  amount : Option Nat
  calCounter : Option Nat
deriving DecidableEq, Repr

/-- The pulse reference: running total and sample sequence of the last accepted sample (R71). -/
structure PulseRef where
  total : Half
  seq : Byte
deriving DecidableEq, Repr

/-- The six timers of a hose (R44): absent when stopped, else the period it was last started with (window, no-flow, post
delay and hold limit in seconds; silence and settle in tenths of a second). -/
structure Timers where
  window : Option Nat
  noFlow : Option Nat
  silence : Option Nat
  settle : Option Nat
  postDelay : Option Nat
  holdLimit : Option Nat
deriving DecidableEq, Repr

/-- Every timer stopped. -/
def Timers.stopped : Timers := ⟨none, none, none, none, none, none⟩

/-- A hose calibration (R70). -/
structure Calibration where
  weight : Nat
  u1 : Nat
  u2 : Nat
  u3 : Nat
  c1 : Nat
  c2 : Nat
  c3 : Nat
  c4 : Nat
  uOver : Nat
deriving DecidableEq, Repr

/-- One hose: the hose controller's items (R44), the Flow Computation Unit's calibration and residues for it (R70, R74,
R77), and lastValve, the model's own record of the most recent VALVE command since start or profile load (R47, R55). -/
structure Hose where
  profile : Option Profile
  phase : Phase
  ctx : Option Context
  nozzle : Nozzle
  pulse : Option PulseRef
  timers : Timers
  mark : Option HoldMark
  unbilled : Nat
  cal : Option Calibration
  resG : Nat
  resN : Nat
  lastValve : Option ValveCmd
deriving DecidableEq, Repr

/-! ### Compartment Inventory (chapter 5) -/

/-- A configured compartment's loaded settings (R87). -/
structure Settings where
  grade : Grade
  probe : Option Node
  capacity : Nat
  dead : Nat
  low : Nat
  hysteresis : Nat
  high : Nat
  tolerance : Nat
  limit : Nat
deriving DecidableEq, Repr

/-- A compartment record (R87): settings absent while unconfigured, and the kept items. -/
structure Compartment where
  settings : Option Settings
  book : Int
  base : Int
  unattributed : Int
  committedIssue : Nat
  committedReceive : Nat
  lastReading : Option Nat
  readingTime : Option Word
  probeFaults : Nat
  varCount : Nat
  varFlag : Bool
  restock : Restock
  orderRef : Option Word
  requestTime : Option Word
deriving DecidableEq, Repr

/-! ### Billing Unit (chapter 6) -/

/-- A billing record (R119). -/
structure Record where
  seq : Nat
  kind : RecordKind
  endCause : EndCause
  flags : Half
  hose : Option HoseId
  comp : CompId
  grade : Grade
  cls : Option ClassId
  centre : Option CentreId
  machine : Option Nat
  tag : Option TagId
  period : Word
  startTime : Word
  endTime : Word
  gross : Int
  net : Int
  lastTemp : Option Int
  calCounter : Nat
  amount : Option Nat
  hoursRef : Option Nat
deriving DecidableEq, Repr

/-- A cost-centre accumulator (R125). -/
structure Accumulator where
  net : Nat
  amount : Nat
  count : Nat
  changed : Bool
  saturated : Bool
deriving DecidableEq, Repr

/-- The Billing Unit (R108, R113, R125). The stored records are listed oldest first; the k-th lies in slot
(oldestIndex + k) mod 1024, and the stored count is their number. -/
structure Billing where
  prices : Vector Nat 8
  fractions : Vector Nat 16
  stored : List Record
  oldestIndex : Nat
  reserved : Nat
  nextSeq : Nat
  centres : Vector Accumulator 64
deriving DecidableEq, Repr

/-! ### Attention Unit (chapter 7) -/

/-- The Attention Unit (R130): the cause set by the bits of 10.6, and the state. -/
structure Attention where
  causes : Half
  state : AttState
deriving DecidableEq, Repr

/-! ### Link Ports and Frame Screen (chapter 8) -/

/-- What a waiting frame is to the queue (R153, R154): a control frame's kind and key, or an ordinary frame. A response
says whether its sending leads to a start-up (R178). -/
inductive QKind where
  | valve (h : HoseId)
  | attention
  | restock (c : CompId)
  | response (restart : Bool)
  | ordinary
deriving DecidableEq, Repr

/-- A frame of a transmit queue. -/
structure Queued where
  kind : QKind
  frame : Frame
deriving DecidableEq, Repr

/-- A link port (R153, R155, R158): the waiting frames in queue position, oldest first; the frame being sent, if any; the
five counters. -/
structure PortState where
  queue : List Queued
  sending : Option Queued
  good : Nat
  bad : Nat
  screened : Nat
  forwarded : Nat
  dropped : Nat
deriving DecidableEq, Repr

/-- An entry of the Carriage Class Table (R148). -/
structure CarriageEntry where
  fieldToCab : Bool
  cabToField : Bool
  sources : Word
  guard : Guard
deriving DecidableEq, Repr

/-- The Frame Screen (R147, R148): the entry of class 13 + k at k. -/
structure Screen where
  table : Vector CarriageEntry 51
  misdirected : Nat
  stray : Nat
deriving DecidableEq, Repr

/-! ### Management Responder (chapter 9) -/

/-- How far a SWEEP has come (R18, R19): the buckets its marking phase has walked, from 0 up to 64; the entries its freeing
phase has still to examine, from 512 down to 0; the reached marks; the entries freed and the faults its walks found. -/
structure SweepWork where
  walked : Nat
  left : Nat
  marks : List EntryId
  freed : Nat
  faults : Nat
deriving DecidableEq, Repr

/-- A SWEEP just taken (R18): no bucket walked, every entry still to examine. -/
def SweepWork.start : SweepWork := ⟨0, 512, [], 0, 0⟩

/-- A command in flight (R160): the node to answer, and for SWEEP how far it has come (R18). -/
inductive InFlight where
  | sweep (node : Node) (work : SweepWork)
  | digest (node : Node) (selector : Selector)
deriving DecidableEq, Repr

/-- The Management Responder (R162, R166, R168, R160) and the strap value read at the last start-up (R162, R170). -/
structure Responder where
  levels : Vector Level 32
  calProtect : Bool
  tableProtect : Bool
  clock : Word
  clockSet : Bool
  inFlight : Option InFlight
  straps : Node
deriving DecidableEq, Repr

/-- The supplies, the retained store's marker and control CRC, and the strap pins (R69, R179, the pins' section): main supply
present; retention marker present; the stored control CRC, held as its difference (exclusive or) from the CRC-16 over the
control items as they stand, so that the part's own writes leave it 0 (log entry 10); the node on the strap pins (log entry
7). -/
structure Power where
  main : Bool
  marker : Bool
  crcDiff : Half
  pins : Node
deriving DecidableEq, Repr

/-! ### The whole -/

/-- The state of the block. pending is the queue of waiting commands, first in first out; draws counts the free values used
so far (the model's own field, log entry 13). -/
@[ext]
structure State where
  table : Table
  hoses : Vector Hose 6
  siteStop : Bool
  betas : Vector Nat 8
  calCounter : Nat
  comps : Vector Compartment 4
  billing : Billing
  att : Attention
  field : PortState
  cab : PortState
  screen : Screen
  resp : Responder
  power : Power
  pending : List Instr
  draws : Nat
deriving DecidableEq, Repr

/-- The faults of a step. None: no rule of the manual stops the part, and no access of the block can fail. Every command
answers a next state. -/
inductive Fault
deriving DecidableEq, Repr

/-- The refusals of a step. -/
inductive Refusal where
  /-- Raised only by exec's arm of a command that has no meaning yet. Safe: the model stops where the part would go on. -/
  | notModelled (mnemonic : String)
deriving DecidableEq, Repr

/-! ### Cold values -/

/-- A free entry that was never taken (R20): its fields carry no meaning (R1). -/
def Entry.blank : Entry :=
  { loaded := ⟨0, 0, 0, 0, 0, false, none⟩, remaining := none, period := 0, strikes := 0, barred := false,
    sighted := false, lastHours := none, busy := none, inUse := false, next := none, check := 0 }

/-- The cold strike policy (chapter 2.5, R32). -/
def StrikePolicy.cold : StrikePolicy := ⟨.keep, .incr, .zero, 3, 2000⟩

/-- The Machine Table after a cold start (R20). -/
def Table.cold : Table :=
  { entries := Vector.replicate 512 Entry.blank, heads := Vector.replicate 64 none, free := List.finRange 512,
    period := 0, policy := .cold, rollCall := false, faults := 0 }

/-- A hose after a cold start (R44, R70). -/
def Hose.cold : Hose :=
  { profile := none, phase := .off, ctx := none, nozzle := .hung, pulse := none, timers := .stopped, mark := none,
    unbilled := 0, cal := none, resG := 0, resN := 0, lastValve := none }

/-- A compartment after a cold start (R88). -/
def Compartment.cold : Compartment :=
  { settings := none, book := 0, base := 0, unattributed := 0, committedIssue := 0, committedReceive := 0,
    lastReading := none, readingTime := none, probeFaults := 0, varCount := 0, varFlag := false, restock := .normal,
    orderRef := none, requestTime := none }

/-- An accumulator after a cold start (R125). -/
def Accumulator.cold : Accumulator := ⟨0, 0, 0, false, false⟩

/-- The Billing Unit after a cold start (R108, R113, R125). -/
def Billing.cold : Billing :=
  { prices := Vector.replicate 8 0, fractions := Vector.replicate 16 256, stored := [], oldestIndex := 0, reserved := 0,
    nextSeq := 1, centres := Vector.replicate 64 .cold }

/-- A port after a cold start: empty queue, free transmitter, counters 0 (R157, R158). -/
def PortState.cold : PortState := ⟨[], none, 0, 0, 0, 0, 0⟩

/-- A carriage entry after a cold start (R148). -/
def CarriageEntry.cold : CarriageEntry := ⟨false, false, 0, .never⟩

/-- The Frame Screen after a cold start (R147, R148). -/
def Screen.cold : Screen := ⟨Vector.replicate 51 .cold, 0, 0⟩

/-- The Management Responder after a cold start with no usable strap (R162, R166, R168). -/
def Responder.cold (straps : Node) : Responder :=
  { levels := Vector.replicate 32 .none, calProtect := false, tableProtect := false, clock := 0, clockSet := false,
    inFlight := none, straps := straps }

/-- The machine right after reset: a cold start with the straps of Config.resetStraps (R180), every item at its cold
value, the strap node at SITE (R162), RETENTION_LOST set, the unit FIRED and its frame taken by the free cab transmitter
(R137, R155). -/
def State.reset : State :=
  { table := .cold
    hoses := Vector.replicate 6 .cold
    siteStop := false
    betas := Vector.replicate 8 0
    calCounter := 0
    comps := Vector.replicate 4 .cold
    billing := .cold
    att := ⟨0x0200, .fired⟩
    field := .cold
    cab := { PortState.cold with
      sending := some ⟨.attention, { dest := 0, src := 1, cls := 9, payload := [0x02, 0x00] }⟩ }
    screen := .cold
    resp := { Responder.cold Config.resetStraps with
      levels := (Vector.replicate 32 Level.none).set Config.resetStraps.val .site }
    power := ⟨true, true, 0, Config.resetStraps⟩
    pending := []
    draws := 0 }

end Sys2Proof.Machine
end

