-- ==== Sys2Proof/Machine/Flags.lean ====
section
/-! DEFINITION. The flag word of a transaction, the attention cause set, the protection set and the other sets by bit
(R181, the bit table of 10.6). -/

namespace Sys2Proof.Machine

/-- The bit of a flag in the flag word (10.6). -/
def Flag.bit : Flag → Nat
  | .uncompensated => 0 | .tempHeld => 1 | .tempClamped => 2 | .overspeed => 3 | .sampleGap => 4 | .allowanceLimited => 5
  | .stockLimited => 6 | .ullageLimited => 7 | .manual => 8 | .noHours => 9 | .entryGone => 10 | .clockUnset => 11
  | .totalSaturated => 12

/-- A flag word that holds one flag. -/
def Flag.mask (f : Flag) : Half := 1#16 <<< f.bit

/-- A flag word holding a flag when the condition is met, else empty. -/
def flagIf (c : Bool) (f : Flag) : Half := if c then f.mask else 0#16

/-- A flag joins a flag word (R44: flags are never removed within a transaction). -/
def addFlag (w : Half) (f : Flag) : Half := w ||| f.mask

/-- Whether a flag word holds a flag. -/
def hasFlag (w : Half) (f : Flag) : Bool := w.getLsbD f.bit

/-- The bit of a cause in the cause set (10.6). -/
def Cause.bit : Cause → Nat
  | .unauthorizedFlow => 0 | .meterSilent => 1 | .headFault => 2 | .variance => 3 | .overfill => 4 | .machineBarred => 5
  | .logHigh => 6 | .tableFault => 7 | .restarted => 8 | .retentionLost => 9

/-- A cause set that holds one cause. -/
def Cause.mask (c : Cause) : Half := 1#16 <<< c.bit

/-- Whether a cause set holds a cause. -/
def hasCause (w : Half) (c : Cause) : Bool := w.getLsbD c.bit

/-- The cause sets that name only the ten causes (R134, R181). -/
def causesOnly (w : Half) : Bool := w &&& 0xFC00#16 == 0#16

/-- The protection flags as a set: bit 0 CAL_PROTECT, bit 1 TABLE_PROTECT (10.6). -/
def protectionSet (cal table : Bool) : Byte := (if cal then 1#8 else 0#8) ||| (if table then 2#8 else 0#8)

/-- Saturating addition (Conventions, "Counters"). -/
def satAdd (bound a b : Nat) : Nat := min (a + b) bound

end Sys2Proof.Machine
end

