-- ==== Sys2Proof/Machine/Formats.lean ====
section
/-! DEFINITION. The bytes of what the part stores and sends: codes of enumerated values (10.6), load and read forms (10.3,
10.5), the 56-byte billing record (10.4), frame payloads (10.2). -/

namespace Sys2Proof.Machine

/-! ### Codes (10.6) -/

/-- Phase codes. -/
def Phase.code : Phase → Nat
  | .off => 0 | .idle => 1 | .authorized => 2 | .slowStart => 3 | .fullFlow => 4 | .slowStop => 5 | .held => 6
  | .closing => 7 | .result => 8
/-- Mode codes. -/
def Mode.code : Mode → Nat
  | .off => 0 | .issue => 1 | .receive => 2
/-- Nozzle value codes. -/
def Nozzle.code : Nozzle → Nat
  | .lifted => 1 | .hung => 2 | .connected => 3 | .disconnected => 4
/-- Hold mark codes, 0 for absent. -/
def holdMarkCode : Option HoldMark → Nat
  | none => 0 | some .operator => 1 | some .site => 2
/-- Valve command codes. -/
def ValveCmd.code : ValveCmd → Nat
  | .close => 0 | .openSlow => 1 | .openFull => 2
/-- Record kind codes. -/
def RecordKind.code : RecordKind → Nat
  | .delivery => 0 | .receipt => 1 | .adjustment => 2
/-- End cause codes. -/
def EndCause.code : EndCause → Nat
  | .presetReached => 1 | .nozzleHung => 2 | .noFlow => 3 | .meterSilent => 4 | .headFault => 5 | .operatorStop => 6
  | .overfillStop => 7 | .holdExpired => 8 | .powerLost => 9 | .reconciled => 10
/-- Restock state codes. -/
def Restock.code : Restock → Nat
  | .normal => 0 | .low => 1 | .ordered => 2
/-- Privilege level codes; they rank the levels (R162). -/
def Level.code : Level → Nat
  | .none => 0 | .operator => 1 | .supervisor => 2 | .site => 3
/-- Guard codes. -/
def Guard.code : Guard → Nat
  | .always => 0 | .never => 1 | .hoseIdle => 2 | .allIdle => 3 | .calOpen => 4
/-- Strike operation codes. -/
def StrikeOp.code : StrikeOp → Nat
  | .zero => 0 | .keep => 1 | .incr => 2 | .decr => 3
/-- Attention state codes. -/
def AttState.code : AttState → Nat
  | .armed => 0 | .fired => 1
/-- Response status codes. -/
def Status.code : Status → Nat
  | .pass => 0 | .fail => 1 | .nack => 2
/-- Result codes. -/
def ResultCode.code : ResultCode → Nat
  | .ok => 0 | .adjusted => 1 | .replaced => 2 | .busy => 3 | .protectedFlag => 4 | .privilege => 5 | .range => 6
  | .notFound => 7 | .tableFull => 8 | .logFull => 9 | .logNotEmpty => 10 | .state => 11
/-- Request kind codes. -/
def RequestKind.code : RequestKind → Nat
  | .post => 1 | .hold => 2 | .resume => 3 | .stop => 4 | .emergencyStop => 5 | .manualAuth => 6 | .receiveStart => 7
/-- Refusal reason codes. -/
def Reason.code : Reason → Nat
  | .uncalibrated => 1 | .siteStopped => 2 | .tableFault => 3 | .unknownTag => 4 | .barred => 5 | .busyElsewhere => 6
  | .wrongGrade => 7 | .wrongClass => 8 | .hoursCheck => 9 | .logFull => 10 | .lowAllowance => 11 | .lowStock => 12
  | .lowUllage => 13 | .shortRequest => 14 | .privilege => 15 | .range => 16 | .hoseBusy => 17 | .wrongMode => 18
  | .wrongPhase => 19 | .authExpired => 20 | .operatorCancel => 21 | .malformed => 22
/-- DIGEST selector codes. -/
def Selector.code : Selector → Nat
  | .machines => 1 | .tariff => 2 | .calibration => 3 | .carriage => 4 | .hoses => 5 | .compartments => 6

/-- A mode from its code. -/
def modeOf (b : Byte) : Option Mode :=
  if b = 0#8 then some .off else if b = 1#8 then some .issue else if b = 2#8 then some .receive else none
/-- A level from its code. -/
def levelOf (b : Byte) : Option Level :=
  if b = 0#8 then some .none else if b = 1#8 then some .operator else if b = 2#8 then some .supervisor
  else if b = 3#8 then some .site else none
/-- A guard from its code. -/
def guardOf (b : Byte) : Option Guard :=
  if b = 0#8 then some .always else if b = 1#8 then some .never else if b = 2#8 then some .hoseIdle
  else if b = 3#8 then some .allIdle else if b = 4#8 then some .calOpen else none
/-- A strike operation from its code. -/
def strikeOpOf (b : Byte) : Option StrikeOp :=
  if b = 0#8 then some .zero else if b = 1#8 then some .keep else if b = 2#8 then some .incr
  else if b = 3#8 then some .decr else none
/-- A DIGEST selector from its code. -/
def selectorOf (b : Byte) : Option Selector :=
  if b = 1#8 then some .machines else if b = 2#8 then some .tariff else if b = 3#8 then some .calibration
  else if b = 4#8 then some .carriage else if b = 5#8 then some .hoses else if b = 6#8 then some .compartments else none
/-- A nozzle value from its code; none fails the form check (R182). -/
def nozzleOf (b : Byte) : Option Nozzle :=
  if b = 1#8 then some .lifted else if b = 2#8 then some .hung else if b = 3#8 then some .connected
  else if b = 4#8 then some .disconnected else none

/-! ### Absence and sign (R181) -/

/-- An optional unsigned field of n bytes: every bit set when absent. -/
def optN (n : Nat) (v : Option Nat) : List Byte := beN n (v.getD (256 ^ n - 1))
/-- An optional node or hose of one byte. -/
def optFin {k : Nat} (v : Option (Fin k)) : List Byte := optN 1 (v.map Fin.val)
/-- An optional tag: zero when absent. -/
def optTag (v : Option TagId) : List Byte := be6 (v.getD 0)
/-- A time with a presence bit elsewhere: 0 when absent. -/
def optWord (v : Option Word) : List Byte := be4 (v.getD 0)
/-- A temperature as sent, 8000 hex when absent. -/
def tempOf (t : Half) : Option Int := if t = 0x8000#16 then none else some t.toInt
/-- One byte of bits. -/
def bitsByte (bs : List (Bool × Nat)) : Byte :=
  bs.foldl (fun acc b => acc ||| (if b.1 then 1#8 <<< b.2 else 0#8)) 0#8
/-- Whether an exact sum fits a signed 48-bit field (R181). -/
def fits48 (v : Int) : Bool := -(2 ^ 47 : Int) ≤ v && v < (2 ^ 47 : Int)

/-! ### Load and read forms (10.3, 10.5) -/

/-- The load form of an entry, 16 bytes (10.3). -/
def Loaded.bytes (l : Loaded) : List Byte :=
  be6 l.tag ++ beN 2 l.number ++ beN 1 l.cls.val ++ beN 1 l.centre.val ++ [l.grades] ++ [if l.hourCheck then 1#8 else 0#8]
    ++ optN 4 l.allowance

/-- The check code of an entry: CRC-16 over the load form and the forward link, FFFF hex for none (R2, R185). -/
def checkCode (l : Loaded) (next : Option EntryId) : Half := crc16 (l.bytes ++ optN 2 (next.map Fin.val))

/-- Whether an entry's stored check code is the recomputed one (R2, R6). -/
def Entry.checkGood (e : Entry) : Bool := e.check == checkCode e.loaded e.next

/-- The read form of an entry, 35 bytes (10.3). -/
def Entry.readForm (i : EntryId) (e : Entry) : List Byte :=
  beN 2 i.val ++ e.loaded.bytes ++ optN 4 e.remaining ++ be4 e.period ++ beN 1 e.strikes
    ++ [bitsByte [(e.barred, 0), (e.sighted, 1), (!e.checkGood, 2)]] ++ optN 4 e.lastHours ++ optFin e.busy ++ be2 e.check

/-- The profile form as stored, 27 bytes (10.5). -/
def Profile.bytes (p : Profile) : List Byte :=
  beN 1 p.mode.code ++ beN 1 p.head.val ++ beN 1 p.comp.val ++ be2 p.classMask ++ beN 4 p.maxPreset ++ beN 4 p.minDelivery
    ++ beN 2 p.slowStart ++ beN 2 p.slowStop ++ beN 2 p.window ++ beN 2 p.noFlow ++ beN 1 p.silence ++ beN 1 p.settle
    ++ beN 2 p.postDelay ++ beN 2 p.holdLimit

/-- The calibration form as stored, 28 bytes (10.5). -/
def Calibration.bytes (c : Calibration) : List Byte :=
  beN 4 c.weight ++ beN 2 c.u1 ++ beN 2 c.u2 ++ beN 2 c.u3 ++ beN 4 c.c1 ++ beN 4 c.c2 ++ beN 4 c.c3 ++ beN 4 c.c4
    ++ beN 2 c.uOver

/-- The compartment form as stored, 27 bytes (10.5). -/
def Settings.bytes (c : Settings) : List Byte :=
  beN 1 c.grade.val ++ optFin c.probe ++ beN 4 c.capacity ++ beN 4 c.dead ++ beN 4 c.low ++ beN 4 c.hysteresis
    ++ beN 4 c.high ++ beN 4 c.tolerance ++ beN 1 c.limit

/-- The carriage entry form as stored, 6 bytes (10.5). -/
def CarriageEntry.bytes (c : CarriageEntry) : List Byte :=
  [bitsByte [(c.fieldToCab, 0), (c.cabToField, 1)]] ++ be4 c.sources ++ beN 1 c.guard.code

/-- The strike policy form as stored, 6 bytes (10.5). -/
def StrikePolicy.bytes (p : StrikePolicy) : List Byte :=
  beN 1 p.aFail.code ++ beN 1 p.bFail.code ++ beN 1 p.pass.code ++ beN 1 p.threshold ++ beN 2 p.maxJump

/-- A centre entry of READ_CENTRES, 14 bytes (10.5). -/
def Accumulator.bytes (n : CentreId) (c : Accumulator) : List Byte :=
  beN 1 n.val ++ beN 5 c.net ++ beN 5 c.amount ++ beN 2 c.count ++ [bitsByte [(c.changed, 0), (c.saturated, 1)]]

/-- An item with a presence byte: 1 and its form, or 0 and zeros (R185). -/
def presentForm (n : Nat) (v : Option (List Byte)) : List Byte :=
  match v with
  | some bs => 1#8 :: bs
  | none => List.replicate (n + 1) 0#8

/-! ### The billing record (10.4, R183) -/

/-- The 56 bytes of a record. A field whose presence bit is clear is written as 0. -/
def Record.bytes (r : Record) : List Byte :=
  beN 4 r.seq
    ++ beN 1 ((r.cls.map Fin.val).getD 0 * 16 + r.endCause.code)
    ++ beN 2 (r.kind.code * 16384 + (r.flags &&& 0x1FFF#16).toNat)
    ++ beN 1 ((r.hose.map Fin.val).getD 7 * 32 + r.comp.val * 8 + r.grade.val)
    ++ [bitsByte [(r.cls.isSome, 0), (r.centre.isSome, 1), (r.machine.isSome, 2), (r.tag.isSome, 3), (r.lastTemp.isSome, 4),
          (r.amount.isSome, 5), (r.hoursRef.isSome, 6)]]
    ++ beN 1 ((r.centre.map Fin.val).getD 0)
    ++ beN 2 (r.machine.getD 0)
    ++ be6 (r.tag.getD 0)
    ++ be4 r.period ++ be4 r.startTime ++ be4 r.endTime
    ++ be48 (BitVec.ofInt 48 r.gross) ++ be48 (BitVec.ofInt 48 r.net)
    ++ be2 (BitVec.ofInt 16 (r.lastTemp.getD 0))
    ++ beN 2 r.calCounter ++ beN 6 (r.amount.getD 0) ++ beN 4 (r.hoursRef.getD 0)

/-! ### Frames the part originates (10.2, R156) -/

/-- A frame of the part, source node 1 (R156). -/
def ownFrame (dest : Node) (cls : FrameClass) (pl : List Byte) : Frame := ⟨dest, 1, cls, pl⟩

/-- A VALVE frame to a hose's head (R55, R156). -/
def valveFrame (head : Node) (v : ValveCmd) : Frame := ownFrame head 5 (beN 1 v.code)

/-- A PROGRESS frame (R68). -/
def progressFrame (h : HoseId) (ph : Phase) (net : Nat) (amount : Option Nat) : Frame :=
  ownFrame 0 7 (beN 1 h.val ++ beN 1 ph.code ++ beN 4 net ++ optN 6 amount)

/-- NOTICE AUTH_GRANTED (R37). -/
def grantedFrame (h : HoseId) (machine : Option Nat) (preset : Nat) (flags : Half) : Frame :=
  ownFrame 0 8 ([1#8] ++ beN 1 h.val ++ optN 2 machine ++ beN 4 preset ++ be2 (flags &&& 0x1FFF#16))

/-- NOTICE AUTH_REFUSED (R37). -/
def refusedFrame (h : HoseId) (why : Reason) (tag : Option TagId) (machine strikes : Option Nat) : Frame :=
  ownFrame 0 8 ([2#8] ++ beN 1 h.val ++ beN 1 why.code ++ optTag tag ++ optN 2 machine ++ optN 1 strikes)

/-- NOTICE REQUEST_REFUSED (R164): hose as named, reason, request kind; absent where 10.2 says so. -/
def requestRefusedFrame (hose : Option Byte) (why : Reason) (kind : Option RequestKind) : Frame :=
  ownFrame 0 8 ([3#8] ++ [hose.getD 0xFF#8] ++ beN 1 why.code ++ optN 1 (kind.map RequestKind.code))

/-- NOTICE POSTED (R66). -/
def postedFrame (h : HoseId) (seq : Nat) : Frame := ownFrame 0 8 ([4#8] ++ beN 1 h.val ++ beN 4 seq)

/-- An ATTENTION frame (R133). -/
def attentionFrame (causes : Half) : Frame := ownFrame 0 9 (be2 causes)

/-- A RESTOCK frame (R96). -/
def restockFrame (c : CompId) (grade : Grade) (book : Int) (capacity : Nat) (time : Word) : Frame :=
  ownFrame 0 10 (beN 1 c.val ++ beN 1 grade.val ++ be48 (BitVec.ofInt 48 book) ++ beN 4 capacity ++ be4 time)

/-- A MGMT_RESPONSE frame to a command's source (R156, R161). -/
def responseFrame (node : Node) (st : Status) (code : Byte) (res : ResultCode) (data : List Byte) : Frame :=
  ownFrame node 12 ([BitVec.ofNat 8 st.code, code, BitVec.ofNat 8 res.code] ++ data)

end Sys2Proof.Machine
end

