-- ==== Sys2Proof/Machine/Ops.lean ====
section
/-! DEFINITION. The named operations every family uses: indexing, the updates of State, transmit queues and arbiter (R153 to
R155), attention causes (R132), notices, and the two wrappers that take an operator request (R164) or a management command
(R159, R160). -/

namespace Sys2Proof.Machine

/-! ### Indexing -/

/-- The item at an index of a fixed array. -/
def vget {α : Type} {n : Nat} (v : Vector α n) (i : Fin n) : α := v[i.val]

/-- A fixed array with one item replaced. -/
def vset {α : Type} {n : Nat} (v : Vector α n) (i : Fin n) (x : α) : Vector α n := v.set i.val x i.isLt

/-- A function applied to every item of a fixed array. -/
def vmap {α β : Type} {n : Nat} (f : α → β) (v : Vector α n) : Vector β n := ⟨⟨v.toList.map f⟩, by simp⟩

/-- A function of index and item applied to every item of a fixed array. -/
def vmapIdx {α : Type} {n : Nat} (f : Fin n → α → α) (v : Vector α n) : Vector α n :=
  v.mapFinIdx fun k x h => f ⟨k, h⟩ x

/-- The last k of the indices below n, in ascending order. -/
def lastIds (n : Nat) : Nat → List (Fin n)
  | 0 => []
  | k + 1 => if h : n - (k + 1) < n then ⟨n - (k + 1), h⟩ :: lastIds n k else lastIds n k

/-- Every index in ascending order. -/
def ids (n : Nat) : List (Fin n) := lastIds n n

/-- An index of n from an operand byte, when in range. -/
def finOf (n : Nat) (v : Nat) : Option (Fin n) := if h : v < n then some ⟨v, h⟩ else none

/-! ### Updates of State -/

namespace State

/-- The Machine Table replaced. -/
def setTable (x : Table) (s : State) : State := { s with table := x }
/-- Hose h replaced. -/
def setHose (h : HoseId) (x : Hose) (s : State) : State := { s with hoses := vset s.hoses h x }
/-- Every hose replaced. -/
def setHoses (x : Vector Hose 6) (s : State) : State := { s with hoses := x }
/-- The site stop switch set. -/
def setSiteStop (x : Bool) (s : State) : State := { s with siteStop := x }
/-- The expansion coefficients replaced. -/
def setBetas (x : Vector Nat 8) (s : State) : State := { s with betas := x }
/-- The calibration change counter replaced. -/
def setCalCounter (x : Nat) (s : State) : State := { s with calCounter := x }
/-- Compartment c replaced. -/
def setComp (c : CompId) (x : Compartment) (s : State) : State := { s with comps := vset s.comps c x }
/-- Every compartment replaced. -/
def setComps (x : Vector Compartment 4) (s : State) : State := { s with comps := x }
/-- The Billing Unit replaced. -/
def setBilling (x : Billing) (s : State) : State := { s with billing := x }
/-- The Attention Unit replaced. -/
def setAtt (x : Attention) (s : State) : State := { s with att := x }
/-- The field port replaced. -/
def setFieldPort (x : PortState) (s : State) : State := { s with field := x }
/-- The cab port replaced. -/
def setCabPort (x : PortState) (s : State) : State := { s with cab := x }
/-- The Frame Screen replaced. -/
def setScreen (x : Screen) (s : State) : State := { s with screen := x }
/-- The Management Responder replaced. -/
def setResp (x : Responder) (s : State) : State := { s with resp := x }
/-- The supplies replaced. -/
def setPower (x : Power) (s : State) : State := { s with power := x }
/-- The queue of waiting commands replaced. -/
def setPending (x : List Instr) (s : State) : State := { s with pending := x }
/-- The draw counter replaced. -/
def setDraws (x : Nat) (s : State) : State := { s with draws := x }

/-- Hose h. -/
def hose (s : State) (h : HoseId) : Hose := vget s.hoses h
/-- Compartment c. -/
def comp (s : State) (c : CompId) : Compartment := vget s.comps c
/-- Entry i of the Machine Table. -/
def entry (s : State) (i : EntryId) : Entry := vget s.table.entries i
/-- Entry i replaced. -/
def setEntry (i : EntryId) (e : Entry) (s : State) : State :=
  s.setTable { s.table with entries := vset s.table.entries i e }

/-- A port. -/
def port (s : State) : Port → PortState
  | .field => s.field
  | .cab => s.cab
/-- A port replaced. -/
def setPort (p : Port) (x : PortState) (s : State) : State :=
  match p with
  | .field => s.setFieldPort x
  | .cab => s.setCabPort x

end State

/-! ### Phases -/

/-- The flowing phases (R47). -/
def Phase.flowing : Phase → Bool
  | .slowStart | .fullFlow | .slowStop => true
  | _ => false
/-- The execution phases: the flowing phases with HELD and CLOSING (R47). -/
def Phase.executing : Phase → Bool
  | .held | .closing => true
  | ph => ph.flowing
/-- Active: AUTHORIZED or an execution phase (R47). -/
def Phase.active : Phase → Bool
  | .authorized => true
  | ph => ph.executing
/-- IDLE or OFF: the phases a profile load, a calibration load, a WIPE or an idle guard asks for. -/
def Phase.atRest : Phase → Bool
  | .off | .idle => true
  | _ => false
/-- CONNECTED is taken as LIFTED (R48). -/
def Nozzle.isLifted : Nozzle → Bool
  | .lifted | .connected => true
  | _ => false

/-- A hose draws on a compartment when its profile, in mode ISSUE or RECEIVE, names it (R87). -/
def Hose.drawsOn (x : Hose) (c : CompId) : Bool :=
  match x.profile with
  | some p => p.mode != .off && p.comp == c
  | none => false

/-- Whether some hose meets a condition. -/
def State.anyHose (s : State) (f : Hose → Bool) : Bool := (ids 6).any (fun h => f (s.hose h))

/-! ### Transmit queues (R153 to R155) -/

/-- Control frames are those of the control kinds (R153). -/
def QKind.control : QKind → Bool
  | .ordinary => false
  | _ => true

/-- The kinds whose waiting frame a newer one replaces (R154). -/
def QKind.replaces : QKind → Bool
  | .valve _ | .attention | .restock _ => true
  | _ => false

namespace PortState

/-- Ordinary frames waiting (R153). -/
def ordinaryWaiting (q : PortState) : Nat := (q.queue.filter (fun it => !it.kind.control)).length

/-- Whether the ordinary share has room (R153): a free slot and fewer than 20 ordinary frames waiting. -/
def room (q : PortState) : Bool := q.queue.length < Config.txSlots && q.ordinaryWaiting < Config.txOrdinary

/-- Removes the first item that meets a condition. -/
def takeFirst (f : Queued → Bool) : List Queued → Option (Queued × List Queued)
  | [] => none
  | it :: rest =>
    if f it then some (it, rest)
    else match takeFirst f rest with
      | some (x, rest') => some (x, it :: rest')
      | none => none

/-- The arbiter's take (R155): when the transmitter is free, the oldest control frame, else the oldest ordinary frame. -/
def pump (q : PortState) : PortState :=
  match q.sending with
  | some _ => q
  | none =>
    match takeFirst (fun it => it.kind.control) q.queue with
    | some (it, rest) => { q with sending := some it, queue := rest }
    | none =>
      match q.queue with
      | it :: rest => { q with sending := some it, queue := rest }
      | [] => q

/-- A control frame offered (R153, R154): it takes the place of a waiting frame of its kind and key, or the newest
position. It always finds a slot. -/
def offerControl (it : Queued) (q : PortState) : PortState :=
  if it.kind.replaces && q.queue.any (fun w => w.kind == it.kind) then
    pump { q with queue := q.queue.map (fun w => if w.kind == it.kind then it else w) }
  else pump { q with queue := q.queue ++ [it] }

/-- An ordinary frame offered (R153): queued when there is room, else dropped and counted. -/
def offerOrdinary (f : Frame) (q : PortState) : PortState :=
  if q.room then pump { q with queue := q.queue ++ [⟨.ordinary, f⟩] }
  else { q with dropped := satAdd Config.max32 q.dropped 1 }

/-- The port after its transmitter reports the frame sent (R155). -/
def sent (q : PortState) : PortState := pump { q with sending := none }

/-- The queue emptied and the transmission abandoned (R157). -/
def emptied (q : PortState) : PortState := { q with queue := [], sending := none }

/-- The five counters set to 0 (R157, R172). -/
def clearCounters (q : PortState) : PortState := { q with good := 0, bad := 0, screened := 0, forwarded := 0, dropped := 0 }

end PortState

namespace State

/-- A control frame offered to the cab port. -/
def cabControl (k : QKind) (f : Frame) (s : State) : State := s.setCabPort (s.cab.offerControl ⟨k, f⟩)
/-- An ordinary frame of the part (PROGRESS or NOTICE) offered to the cab port. -/
def cabOrdinary (f : Frame) (s : State) : State := s.setCabPort (s.cab.offerOrdinary f)

/-! ### Attention causes (R132) -/

/-- The unit leaves ARMED with a non-empty set: one ATTENTION frame carrying the set is queued and the unit enters FIRED
(R132, R133). -/
def fireAttention (causes : Half) (s : State) : State :=
  (s.setAtt ⟨causes, .fired⟩).cabControl .attention (attentionFrame causes)

/-- An owner sets a cause: it joins the set; from ARMED the unit fires (R132). -/
def setCause (c : Cause) (s : State) : State :=
  match s.att.state with
  | .fired => s.setAtt ⟨s.att.causes ||| c.mask, .fired⟩
  | .armed => s.fireAttention (s.att.causes ||| c.mask)

/-! ### Values that leave 48 bits -/

/-- The exact sum v as a signed 48-bit item: itself where it fits, else a value no rule states (log entry 13). -/
def signed48 (s : State) (v : Int) : Int := if fits48 v then v else (Config.unstated48 s.draws v).toInt

/-- The draw counter after an item was formed from the exact sum v. -/
def drawFor (v : Int) (s : State) : State := if fits48 v then s else s.setDraws (s.draws + 1)

/-! ### Hose frames -/

/-- The hose's VALVE frame queued as a control frame on the field port, addressed to its head node (R55, R156). -/
def queueValve (h : HoseId) (v : ValveCmd) (s : State) : State :=
  match (s.hose h).profile with
  | none => s
  | some p =>
    (s.setHose h { s.hose h with lastValve := some v }).setFieldPort
      (s.field.offerControl ⟨.valve h, valveFrame p.head v⟩)

end State

/-- The amount of a delivery in cents (R112). -/
def amountOf (net price fraction : Nat) : Nat := (net * price * fraction + 12800000) / 25600000

/-- The amount so far of a context: computed for a DELIVERY, absent for a RECEIPT (R68, R112). -/
def Context.amountSoFar (c : Context) : Option Nat :=
  match c.kind with
  | .delivery => some (amountOf c.net (c.price.getD 0) (c.fraction.getD 0))
  | .receipt => none

/-- The PROGRESS frame of a hose as it stands (R68). -/
def Hose.progress (h : HoseId) (x : Hose) : Frame :=
  match x.ctx with
  | none => progressFrame h x.phase 0 none
  | some c => progressFrame h x.phase c.net c.amountSoFar

/-- What remains of a transaction's commitment term: the greater of 0 and E minus net (R50, R90). -/
def Context.term (c : Context) : Nat := c.preset - c.net

namespace State

/-- The phase-entry PROGRESS frame (R68): dropped and counted when the share is full. -/
def entryProgress (h : HoseId) (s : State) : State := s.cabOrdinary ((s.hose h).progress h)

/-- The sample PROGRESS frame (R68): offered only when the share has room. -/
def sampleProgress (h : HoseId) (s : State) : State :=
  if s.cab.room then s.cabOrdinary ((s.hose h).progress h) else s

/-- NOTICE AUTH_REFUSED (R37). -/
def authRefused (h : HoseId) (why : Reason) (tag : Option TagId) (machine strikes : Option Nat) (s : State) : State :=
  s.cabOrdinary (refusedFrame h why tag machine strikes)

/-- NOTICE REQUEST_REFUSED (R60, R164). -/
def requestRefused (hose : Option Byte) (why : Reason) (kind : Option RequestKind) (s : State) : State :=
  s.cabOrdinary (requestRefusedFrame hose why kind)

/-! ### Arrival and screening of a frame (R139 to R147, R158) -/

/-- The arrival port's received-good counter rises (R139). -/
def countGood (p : Port) (s : State) : State :=
  s.setPort p { s.port p with good := satAdd Config.max32 (s.port p).good 1 }
/-- The arrival port's bad-check counter rises (R139). -/
def countBad (p : Port) (s : State) : State :=
  s.setPort p { s.port p with bad := satAdd Config.max32 (s.port p).bad 1 }
/-- The arrival port's screened-out counter rises (R142). -/
def countScreened (p : Port) (s : State) : State :=
  s.setPort p { s.port p with screened := satAdd Config.max32 (s.port p).screened 1 }
/-- A device-class frame is dropped as stray (R141, R144, R147). -/
def dropStray (p : Port) (s : State) : State :=
  let t := s.countScreened p
  t.setScreen { t.screen with stray := satAdd Config.max32 t.screen.stray 1 }
/-- A device-class frame is dropped as misdirected (R143, R147). -/
def dropMisdirected (p : Port) (s : State) : State :=
  let t := s.countScreened p
  t.setScreen { t.screen with misdirected := satAdd Config.max32 t.screen.misdirected 1 }

/-- The hose whose loaded profile names a node as its head node (R144). -/
def headOwner (s : State) (n : Node) : Option HoseId :=
  (ids 6).find? (fun h => match (s.hose h).profile with | some p => p.head == n | none => false)

/-- The configured compartment that names a node as its probe node (R144). -/
def probeOwner (s : State) (n : Node) : Option CompId :=
  (ids 4).find? (fun c => match (s.comp c).settings with | some x => x.probe == some n | none => false)

/-- A field device frame taken from its reception to its owner (R141, R143, R144, R145): owner finds the one that names the
source node, formOk is the form check of R182, act is the owner's rule. -/
def takeField {ι : Type} (a : Addr) (owner : State → Node → Option ι) (formOk : Bool) (act : ι → State → State)
    (s : State) : State :=
  if s.power.main then
    let t := s.countGood .field
    if a.src.val < 2 then t.dropStray .field
    else if 2 ≤ a.dest.val then t.dropMisdirected .field
    else match owner t a.src with
      | none => t.dropStray .field
      | some i => if formOk then act i t else t.countScreened .field
  else s

/-- The privilege level of a cab node (R162). -/
def levelOfNode (s : State) (n : Node) : Level := vget s.resp.levels n

/-- Whether a MGMT_RESPONSE waits in the cab port's queue (R146): one that the transmitter has taken waits no longer, the answer
of RESTART like any other (log entry 30). -/
def responseWaiting (s : State) : Bool :=
  s.cab.queue.any (fun it => match it.kind with | .response _ => true | _ => false)

/-- An OPERATOR frame taken from its reception to its check (R141, R143, R146). -/
def takeOperator (a : Addr) (act : State → State) (s : State) : State :=
  if s.power.main then
    let t := s.countGood .cab
    if a.src.val < 2 then t.dropStray .cab
    else if 2 ≤ a.dest.val then t.dropMisdirected .cab
    else act t
  else s

/-- An operator request that names a hose (R164): privilege, then range, then the hose controller's rule. -/
def takeHoseRequest (a : Addr) (kind : RequestKind) (hose : Byte) (act : HoseId → State → State) : State → State :=
  takeOperator a fun s =>
    if (s.levelOfNode a.src).code < Level.operator.code then s.requestRefused (some hose) .privilege (some kind)
    else match finOf 6 hose.toNat with
      | none => s.requestRefused (some hose) .range (some kind)
      | some h => act h s

/-- A MGMT_COMMAND frame taken from its reception to the responder (R141, R143, R146). -/
def takeMgmt (a : Addr) (act : State → State) (s : State) : State :=
  if s.power.main then
    let t := s.countGood .cab
    if a.src.val < 2 then t.dropStray .cab
    else if a.dest ≠ 1 then t.dropMisdirected .cab
    else if t.responseWaiting then t.countScreened .cab
    else act t
  else s

/-- A response queued on the cab port (R159, R161, R156). -/
def answer (node : Node) (st : Status) (code : Byte) (res : ResultCode) (data : List Byte) (s : State) : State :=
  s.cabControl (.response false) (responseFrame node st code res data)

end State

/-- What a command's owner answers: a response at once, the response of RESTART, or none yet (SWEEP, DIGEST). -/
inductive Reply where
  | now (st : Status) (res : ResultCode) (data : List Byte)
  | restart
  | later
deriving DecidableEq, Repr

/-- PASS OK with data. -/
def passOk (data : List Byte) : Reply := .now .pass .ok data
/-- PASS OK, or PASS ADJUSTED where a value was clamped, raised or trimmed. -/
def passAdj (adjusted : Bool) (data : List Byte) : Reply := .now .pass (if adjusted then .adjusted else .ok) data
/-- FAIL with a result code and no data (R161). -/
def fail (res : ResultCode) : Reply := .now .fail res []

namespace State

/-- The reply of a command's owner sent to the command's source (R159, R178). -/
def reply (node : Node) (code : Byte) (r : Reply) (s : State) : State :=
  match r with
  | .now st res data => s.answer node st code res data
  | .restart => s.cabControl (.response true) (responseFrame node .pass code .ok [])
  | .later => s

/-- A well-formed command taken by the responder (R159, R160): in flight, then privilege, then the owner's own checks and
effect, then the answer. -/
def takeCommand (a : Addr) (code : Byte) (least : Level) (act : State → State × Reply) : State → State :=
  takeMgmt a fun s =>
    if s.resp.inFlight.isSome then s.answer a.src .fail code .busy []
    else if (s.levelOfNode a.src).code < least.code then s.answer a.src .fail code .privilege []
    else
      let r := act s
      r.1.reply a.src code r.2

end State

end Sys2Proof.Machine
end

