-- ==== Sys2Proof/Machine/AttentionUnit.lean ====
section
/-! DEFINITION. The Attention Unit's command REARM (chapter 7.4). Setting a cause is a shared operation of Machine/Ops.lean. -/

namespace Sys2Proof.Machine

namespace State

/-- The unit after a REARM (R134): the acknowledged causes removed, ARMED entered, and a non-empty rest reissued. -/
def rearmUnit (acknowledged : Half) (s : State) : State :=
  let rest := s.att.causes &&& ~~~acknowledged
  if rest = 0#16 then s.setAtt ⟨rest, .armed⟩ else s.fireAttention rest

/-- REARM's check, effect and answer (R134). -/
def cmdRearm (acknowledged : Half) (s : State) : State × Reply :=
  if causesOnly acknowledged then
    let t := s.rearmUnit acknowledged
    (t, passOk (be2 t.att.causes ++ beN 1 t.att.state.code))
  else (s, fail .range)

end State

/-! ### The meaning of the row -/

/-- REARM (R134; SUPERVISOR). -/
def execRearm (a : Addr) (causes : Half) (s : State) : Host.Outcome State Fault Refusal :=
  .next (s.takeCommand a 36#8 .supervisor (State.cmdRearm causes))

end Sys2Proof.Machine
end

