-- ==== Sys2Proof/Machine/Billing.lean ====
section
/-! DEFINITION. The Billing Unit (chapter 6): log space, reservations, records and posting, accumulators, and its commands. -/

namespace Sys2Proof.Machine

/-! ### The log (R113 to R118) -/

/-- The stored count (R113). -/
def Billing.storedCount (b : Billing) : Nat := b.stored.length

/-- The log level: stored count plus reserved count (R118). -/
def Billing.level (b : Billing) : Nat := b.storedCount + b.reserved

/-- The oldest sequence number: the oldest record's, or the next one when the log is empty (R113). -/
def Billing.oldestSeq (b : Billing) : Nat :=
  match b.stored with
  | r :: _ => r.seq
  | [] => b.nextSeq

/-- The slot of the k-th stored record (R113, R116). -/
def Billing.slotOf (b : Billing) (k : Nat) : Nat := (b.oldestIndex + k) % Config.logSlots

/-- The log-space check: full on either ground of R114. -/
def Billing.full (b : Billing) : Bool := Config.logSlots ≤ b.level || Config.seqLimit ≤ b.nextSeq + b.reserved

namespace State

/-- LOG_HIGH set when the level rises from 959 to 960 (R118). -/
def levelRaised (before : Nat) (s : State) : State :=
  if before + 1 = Config.logHighLevel && s.billing.level == Config.logHighLevel then s.setCause .logHigh else s

/-- A slot reserved at acceptance (R115, R118). -/
def reserve (s : State) : State :=
  (s.setBilling { s.billing with reserved := s.billing.reserved + 1 }).levelRaised s.billing.level

/-- A reservation released (R115). -/
def unreserve (s : State) : State := s.setBilling { s.billing with reserved := s.billing.reserved - 1 }

end State

/-! ### Records (R119) and accumulators (R126) -/

/-- The record of a transaction at its posting (R119). -/
def recordOf (h : HoseId) (c : Context) (seq : Nat) : Record :=
  { seq := seq
    kind := match c.kind with | .delivery => .delivery | .receipt => .receipt
    endCause := c.endCause.getD .powerLost
    flags := c.flags
    hose := some h
    comp := c.comp
    grade := c.grade
    cls := c.cls
    centre := c.centre
    machine := c.machine
    tag := c.entry.map EntryRef.tag
    period := c.period
    startTime := c.startTime.getD 0
    endTime := c.endTime.getD 0
    gross := c.gross
    net := c.net
    lastTemp := c.lastTemp
    calCounter := c.calCounter.getD 0
    amount := c.amount
    hoursRef := c.hoursRef }

/-- An accumulator after a delivery is booked to it (R126). -/
def Accumulator.book (a : Accumulator) (net amount : Nat) : Accumulator :=
  { net := satAdd Config.maxCentre a.net net
    amount := satAdd Config.maxCentre a.amount amount
    count := satAdd Config.max16 a.count 1
    changed := true
    saturated := a.saturated || Config.maxCentre < a.net + net || Config.maxCentre < a.amount + amount
      || Config.max16 < a.count + 1 }

/-- The accumulators after a posting: a DELIVERY's cost centre is booked (R126). -/
def bookCentre (v : Vector Accumulator 64) (c : Context) : Vector Accumulator 64 :=
  match c.kind, c.centre with
  | .delivery, some z => vset v z ((vget v z).book c.net (c.amount.getD 0))
  | _, _ => v

/-- The Billing Unit after a posting (R116): the record in the slot at oldest index plus stored count, the next sequence
number and the stored count raised, the reserved count lowered, the accumulator booked. -/
def Billing.post (b : Billing) (h : HoseId) (c : Context) : Billing :=
  { b with stored := b.stored ++ [recordOf h c b.nextSeq], nextSeq := b.nextSeq + 1, reserved := b.reserved - 1,
           centres := bookCentre b.centres c }

/-- The Billing Unit after an ADJUSTMENT posting (R117): no reservation and no accumulator. -/
def Billing.postAdjustment (b : Billing) (r : Record) : Billing :=
  { b with stored := b.stored ++ [r], nextSeq := b.nextSeq + 1 }

/-! ### Commands (R109, R110, R122, R123, R127, R128) -/

/-- The eight prices of the operands, grade 0 first. -/
def priceList (p : PriceForm) : List Nat :=
  [p.p0.toNat, p.p1.toNat, p.p2.toNat, p.p3.toNat, p.p4.toNat, p.p5.toNat, p.p6.toNat, p.p7.toNat]

/-- The eight prices as the tariff (R109). -/
def tariffOf (p : PriceForm) : Vector Nat 8 := ⟨⟨priceList p⟩, rfl⟩

namespace State

/-- LOAD_TARIFF's checks, effect and answer (R109). -/
def cmdLoadTariff (p : PriceForm) (s : State) : State × Reply :=
  if s.resp.tableProtect then (s, fail .protectedFlag)
  else if (priceList p).any (fun v => Config.maxVolume < v) then (s, fail .range)
  else (s.setBilling { s.billing with prices := tariffOf p }, passOk [])

/-- LOAD_CLASS_RATE's checks, effect and answer (R110). -/
def cmdLoadClassRate (cls : Byte) (fraction : Half) (s : State) : State × Reply :=
  if s.resp.tableProtect then (s, fail .protectedFlag)
  else match finOf 16 cls.toNat with
    | none => (s, fail .range)
    | some c =>
      if 511 < fraction.toNat then (s, fail .range)
      else (s.setBilling { s.billing with fractions := vset s.billing.fractions c fraction.toNat }, passOk [])

/-- READ_LOG's answer (R122): it changes nothing. -/
def cmdReadLog (seq : Word) (s : State) : State × Reply :=
  let b := s.billing
  let first := max seq.toNat b.oldestSeq
  let got := (b.stored.filter (fun r => first ≤ r.seq)).take 2
  (s, passOk (beN 1 got.length ++ beN 4 b.oldestSeq ++ beN 4 b.nextSeq ++ (got.map Record.bytes).flatten))

/-- RELEASE_LOG's checks, effect and answer (R123). -/
def cmdReleaseLog (seq : Word) (s : State) : State × Reply :=
  let b := s.billing
  if b.nextSeq ≤ seq.toNat then (s, fail .range)
  else if seq.toNat < b.oldestSeq then (s, passOk (beN 2 0 ++ beN 4 b.oldestSeq))
  else
    let kept := b.stored.filter (fun r => seq.toNat < r.seq)
    let count := b.stored.length - kept.length
    let t := s.setBilling { b with stored := kept, oldestIndex := (b.oldestIndex + count) % Config.logSlots }
    (t, passOk (beN 2 count ++ beN 4 t.billing.oldestSeq))

/-- READ_CENTRES's checks, effect and answer (R127); option 0 is ALL, 1 CHANGED_ONLY. -/
def cmdReadCentres (start option : Byte) (s : State) : State × Reply :=
  if 63 < start.toNat || 1 < option.toNat then (s, fail .range)
  else
    let got := ((ids 64).filter (fun z => start.toNat ≤ z.val &&
      (option == 0#8 || (vget s.billing.centres z).changed))).take 7
    let next : Option Nat := match got.getLast? with
      | some z => if got.length < 7 || z.val = 63 then none else some (z.val + 1)
      | none => none
    let cleared := vmapIdx (fun z c => if got.contains z then { c with changed := false } else c) s.billing.centres
    (s.setBilling { s.billing with centres := cleared },
      passOk (beN 1 got.length ++ optN 1 next ++ (got.map (fun z => (vget s.billing.centres z).bytes z)).flatten))

/-- CLEAR_CENTRES's checks, effect and answer (R128); FF hex is ALL. -/
def cmdClearCentres (centre : Byte) (s : State) : State × Reply :=
  if centre = 0xFF#8 then
    (s.setBilling { s.billing with centres := Vector.replicate 64 Accumulator.cold }, passOk [])
  else match finOf 64 centre.toNat with
    | none => (s, fail .range)
    | some z => (s.setBilling { s.billing with centres := vset s.billing.centres z .cold }, passOk [])

end State

/-! ### The meanings of the rows -/

/-- LOAD_TARIFF (R109; SITE). -/
def execLoadTariff (a : Addr) (prices : PriceForm) (s : State) : Host.Outcome State Fault Refusal :=
  .next (s.takeCommand a 30#8 .site (State.cmdLoadTariff prices))

/-- LOAD_CLASS_RATE (R110; SITE). -/
def execLoadClassRate (a : Addr) (cls : Byte) (fraction : Half) (s : State) : Host.Outcome State Fault Refusal :=
  .next (s.takeCommand a 31#8 .site (State.cmdLoadClassRate cls fraction))

/-- READ_LOG (R122; SUPERVISOR). -/
def execReadLog (a : Addr) (seq : Word) (s : State) : Host.Outcome State Fault Refusal :=
  .next (s.takeCommand a 32#8 .supervisor (State.cmdReadLog seq))

/-- RELEASE_LOG (R123; SITE). -/
def execReleaseLog (a : Addr) (seq : Word) (s : State) : Host.Outcome State Fault Refusal :=
  .next (s.takeCommand a 33#8 .site (State.cmdReleaseLog seq))

/-- READ_CENTRES (R127; SUPERVISOR). -/
def execReadCentres (a : Addr) (start option : Byte) (s : State) : Host.Outcome State Fault Refusal :=
  .next (s.takeCommand a 34#8 .supervisor (State.cmdReadCentres start option))

/-- CLEAR_CENTRES (R128; SITE). -/
def execClearCentres (a : Addr) (centre : Byte) (s : State) : Host.Outcome State Fault Refusal :=
  .next (s.takeCommand a 35#8 .site (State.cmdClearCentres centre))

end Sys2Proof.Machine
end

