-- ==== Sys2Proof/Machine/Compartments.lean ====
section
/-! DEFINITION. The Compartment Inventory's shared operations (chapter 5): availabilities, the book and its restock judgement,
commitments. Its commands and the PROBE row stand in Machine/Stock.lean. -/

namespace Sys2Proof.Machine

/-- Issue availability (R91): the greater of 0 and book minus committed issue minus dead stock. -/
def Compartment.issueAvail (c : Compartment) (st : Settings) : Nat := (c.book - c.committedIssue - st.dead).toNat

/-- Receive availability (R91): the greater of 0 and high threshold minus book minus committed receive. -/
def Compartment.receiveAvail (c : Compartment) (st : Settings) : Nat := ((st.high : Int) - c.book - c.committedReceive).toNat

/-- A compartment with a transaction's commitment of its kind replaced (R90). -/
def Compartment.withCommit (c : Compartment) (k : TxKind) (f : Nat → Nat) : Compartment :=
  match k with
  | .delivery => { c with committedIssue := f c.committedIssue }
  | .receipt => { c with committedReceive := f c.committedReceive }

namespace State

/-- E committed at acceptance (R90). -/
def commit (c : CompId) (k : TxKind) (e : Nat) (s : State) : State :=
  s.setComp c ((s.comp c).withCommit k (fun v => v + e))

/-- A commitment lowered or removed by an amount (R90). -/
def uncommit (c : CompId) (k : TxKind) (e : Nat) (s : State) : State :=
  s.setComp c ((s.comp c).withCommit k (fun v => v - e))

/-- The restock judgement after a change to the book or an accepted load (R96, R97). -/
def judge (c : CompId) (s : State) : State :=
  match (s.comp c).settings with
  | none => s
  | some st =>
    let x := s.comp c
    match x.restock with
    | .normal =>
      if x.book < st.low then
        (s.setComp c { x with restock := .low, requestTime := some s.resp.clock }).cabControl (.restock c)
          (restockFrame c st.grade x.book st.capacity s.resp.clock)
      else s
    | _ =>
      if (st.low : Int) + st.hysteresis ≤ x.book then
        s.setComp c { x with restock := .normal, orderRef := none, requestTime := none }
      else s

/-- The book of a configured compartment moved by a volume (R89), without the judgement. -/
def addBook (c : CompId) (d : Int) (s : State) : State :=
  (s.setComp c { s.comp c with book := s.signed48 ((s.comp c).book + d) }).drawFor ((s.comp c).book + d)

/-- The unattributed draw moved by a volume (R89). -/
def addDraw (c : CompId) (d : Int) (s : State) : State :=
  (s.setComp c { s.comp c with unattributed := s.signed48 ((s.comp c).unattributed + d) }).drawFor
    ((s.comp c).unattributed + d)

/-- A transaction's increment at a compartment, with the judgement that follows; discarded while unconfigured (R89, R96). -/
def bookMetered (c : CompId) (d : Int) (s : State) : State :=
  if (s.comp c).settings.isSome then (s.addBook c d).judge c else s

/-- An unbilled increment: out of the book into the unattributed draw, or for inflow the reverse, with the judgement that
follows; discarded while unconfigured (R67, R89, R96). -/
def bookUnbilled (c : CompId) (d : Int) (s : State) : State :=
  if (s.comp c).settings.isSome then ((s.addBook c d).addDraw c (-d)).judge c else s

/-- The book reset to a volume (R89): base the same, unattributed draw 0, variance count 0 and flag clear (R102, R104), with
the judgement that follows. -/
def resetBook (c : CompId) (volume : Nat) (s : State) : State :=
  (s.setComp c { s.comp c with book := volume, base := volume, unattributed := 0, varCount := 0, varFlag := false }).judge c

end State

end Sys2Proof.Machine
end

