-- ==== Sys2Proof/Machine/Operands.lean ====
section
/-! DEFINITION. The operand forms of the loading commands: range checks, clamping and DEFAULT (R11, R31, R45, R46, R82, R83,
R99, R100, R152, R181, R184), each giving the form as stored. -/

namespace Sys2Proof.Machine

/-! ### Machine entries (R11) -/

/-- An allowance operand: every bit set for absent (R181). -/
def allowanceOf (v : Word) : Option Nat := if v = 0xFFFFFFFF#32 then none else some v.toNat

/-- The loaded fields of the operands, none where R11 or R184 refuses RANGE. -/
def loadedOf (m : MachineForm) : Option Loaded :=
  match finOf 16 m.cls.toNat, finOf 64 m.centre.toNat with
  | some c, some z =>
    let allowanceOk := match allowanceOf m.allowance with
      | none => true
      | some v => 1 ≤ v && v ≤ Config.maxVolume
    if m.tag != 0#48 && 1 ≤ m.number.toNat && m.number.toNat ≤ 65534 && m.grades != 0#8 && m.hourCheck.toNat ≤ 1
        && allowanceOk then
      some { tag := m.tag, number := m.number.toNat, cls := c, centre := z, grades := m.grades,
             hourCheck := m.hourCheck == 1#8, allowance := allowanceOf m.allowance }
    else none
  | _, _ => none

/-! ### Calibration (R82, R83) -/

/-- A number brought to the nearer bound of a range. -/
def clamp (lo hi v : Nat) : Nat := if v < lo then lo else if hi < v then hi else v

/-- The calibration form as stored, after R83's clamping. -/
def calOf (f : CalForm) : Calibration :=
  { weight := clamp 1000 100000 f.weight.toNat, u1 := f.u1.toNat, u2 := f.u2.toNat, u3 := f.u3.toNat,
    c1 := clamp 99000 101000 f.c1.toNat, c2 := clamp 99000 101000 f.c2.toNat, c3 := clamp 99000 101000 f.c3.toNat,
    c4 := clamp 99000 101000 f.c4.toNat, uOver := f.uOver.toNat }

/-- Whether R83 clamped a value of the form. -/
def calAdjusted (f : CalForm) : Bool :=
  (calOf f).weight != f.weight.toNat || (calOf f).c1 != f.c1.toNat || (calOf f).c2 != f.c2.toNat
    || (calOf f).c3 != f.c3.toNat || (calOf f).c4 != f.c4.toNat

/-- The range checks of R82 on the band bounds and the overspeed bound. -/
def calRangeOk (f : CalForm) : Bool :=
  1 ≤ f.u1.toNat && f.u1.toNat < f.u2.toNat && f.u2.toNat < f.u3.toNat && f.u3.toNat ≤ 4095 && f.u3.toNat < f.uOver.toNat

/-! ### Hose profiles (R45, R46) -/

/-- A clamped field that may be given as DEFAULT, its all-ones value (R46, R181). -/
def orDefault (ones dflt lo hi v : Nat) : Nat := if v = ones then dflt else clamp lo hi v

/-- Whether a field that may be DEFAULT was clamped; taking a default is no clamp (R46). -/
def wasClamped (ones lo hi v : Nat) : Bool := v != ones && clamp lo hi v != v

/-- The profile as stored (R46), for a mode, head node and compartment that passed R45; a default maximum preset below the
minimum delivery is raised to it. -/
def profileOf (mode : Mode) (head : Node) (comp : CompId) (f : ProfileForm) : Profile :=
  let least := orDefault 0xFFFFFFFF 1000 100 100000 f.minDelivery.toNat
  { mode := mode, head := head, comp := comp, classMask := f.classMask
    maxPreset := max (clamp 1 Config.maxVolume f.maxPreset.toNat) least
    minDelivery := least
    slowStart := orDefault 0xFFFF 2000 0 50000 f.slowStart.toNat
    slowStop := orDefault 0xFFFF 3000 0 50000 f.slowStop.toNat
    window := orDefault 0xFFFF 120 10 600 f.window.toNat
    noFlow := orDefault 0xFFFF 45 5 300 f.noFlow.toNat
    silence := orDefault 0xFF 20 5 100 f.silence.toNat
    settle := orDefault 0xFF 30 5 100 f.settle.toNat
    postDelay := orDefault 0xFFFF 60 0 600 f.postDelay.toNat
    holdLimit := orDefault 0xFFFF 300 30 1800 f.holdLimit.toNat }

/-- Whether R46 clamped or raised a field of the form. -/
def profileAdjusted (f : ProfileForm) : Bool :=
  let least := orDefault 0xFFFFFFFF 1000 100 100000 f.minDelivery.toNat
  max (clamp 1 Config.maxVolume f.maxPreset.toNat) least != f.maxPreset.toNat
    || wasClamped 0xFFFFFFFF 100 100000 f.minDelivery.toNat
    || wasClamped 0xFFFF 0 50000 f.slowStart.toNat || wasClamped 0xFFFF 0 50000 f.slowStop.toNat
    || wasClamped 0xFFFF 10 600 f.window.toNat || wasClamped 0xFFFF 5 300 f.noFlow.toNat
    || wasClamped 0xFF 5 100 f.silence.toNat || wasClamped 0xFF 5 100 f.settle.toNat
    || wasClamped 0xFFFF 0 600 f.postDelay.toNat || wasClamped 0xFFFF 30 1800 f.holdLimit.toNat

/-- A node operand in 2 to 31 (R45, R99, R165). -/
def deviceNode (b : Byte) : Option Node :=
  match finOf 32 b.toNat with
  | some n => if 2 ≤ n.val then some n else none
  | none => none

/-! ### Compartments (R99, R100) -/

/-- A probe node operand: 2 to 31, or FF hex for none (R99, R181); the outer none is out of range. -/
def probeOf (b : Byte) : Option (Option Node) :=
  if b = 0xFF#8 then some none else (deviceNode b).map some

/-- The settings as stored, after the ordering of R100, each step against the values already settled. -/
def settingsOf (grade : Grade) (probe : Option Node) (f : CompForm) : Settings :=
  let high := max 1 (min f.high.toNat f.capacity.toNat)
  let low := min f.low.toNat high
  let dead := min f.dead.toNat low
  let hyst := min f.hysteresis.toNat (high - low)
  { grade := grade, probe := probe, capacity := f.capacity.toNat, dead := dead, low := low, hysteresis := hyst, high := high
    tolerance := min f.tolerance.toNat 999999
    limit := orDefault 0xFF 3 1 15 f.limit.toNat }

/-- Whether R100 changed a value of the form, the taking of a default apart. -/
def settingsAdjusted (grade : Grade) (probe : Option Node) (f : CompForm) : Bool :=
  let st := settingsOf grade probe f
  st.high != f.high.toNat || st.low != f.low.toNat || st.dead != f.dead.toNat || st.hysteresis != f.hysteresis.toNat
    || st.tolerance != f.tolerance.toNat || wasClamped 0xFF 1 15 f.limit.toNat

/-! ### Strike policy and carriage entries (R31, R152) -/

/-- The strike policy of the operands, none where R31 or R184 refuses RANGE; a maximum hour jump of 0 is taken as 1. -/
def policyOf (f : PolicyForm) : Option StrikePolicy :=
  match strikeOpOf f.aFail, strikeOpOf f.bFail, strikeOpOf f.pass with
  | some a, some b, some p =>
    if f.threshold.toNat ≤ 7 then some ⟨a, b, p, f.threshold.toNat, max 1 f.maxJump.toNat⟩ else none
  | _, _, _ => none

/-- The carriage entry of the operands, none where R152 refuses RANGE; nodes 0 and 1 are removed from the source set. -/
def carriageOf (f : CarriageForm) : Option CarriageEntry :=
  match guardOf f.guard with
  | some g =>
    if f.directions.toNat ≤ 3 then
      some { fieldToCab := f.directions.getLsbD 0, cabToField := f.directions.getLsbD 1,
             sources := f.sources &&& 0xFFFFFFFC#32, guard := g }
    else none
  | none => none

end Sys2Proof.Machine
end

