-- ==== Sys2Proof/Machine/Flow.lean ====
section
/-! DEFINITION. The Flow Computation Unit (chapter 4): classification, band, gross stage, temperature, correction factor and
net stage of a sample, and the calibration commands. -/

namespace Sys2Proof.Machine

/-! ### Classification (R71, R72) -/

/-- The kind of a sample (R71); an applied sample carries its step and its pulse difference p (R72). -/
inductive SampleKind where
  | duplicate
  | referenceOnly
  | applied (step p : Nat)
deriving DecidableEq, Repr

/-- The kind of a sample against the pulse reference (R71, R72). -/
def classify (ref : Option PulseRef) (seq : Byte) (total : Half) : SampleKind :=
  match ref with
  | none => .referenceOnly
  | some r => if seq = r.seq then .duplicate else .applied (seq - r.seq).toNat (total - r.total).toNat

/-- The reference after a sample (R71). -/
def refAfter (ref : Option PulseRef) (seq : Byte) (total : Half) : Option PulseRef :=
  match classify ref seq total with
  | .duplicate => ref
  | _ => some ⟨total, seq⟩

/-! ### Stages (R73 to R77) -/

/-- The band rate: pulses per sample period over the step (R73). -/
def bandRate (p step : Nat) : Nat := p / step

/-- The factor of a rate's band; a rate equal to a bound lies in the lower band (R73). -/
def Calibration.factor (c : Calibration) (q : Nat) : Nat :=
  if q ≤ c.u1 then c.c1 else if q ≤ c.u2 then c.c2 else if q ≤ c.u3 then c.c3 else c.c4

/-- The product of the gross stage, in units of 10^-8 mL: p × W × C_band + R_g (R74). -/
def Calibration.grossProduct (c : Calibration) (step p resG : Nat) : Nat := p * c.weight * c.factor (bandRate p step) + resG

/-- The temperature used, the held temperature after, and the flag (R75). -/
structure TempChoice where
  used : Int
  held : Option Int
  flags : Half
deriving DecidableEq, Repr

/-- The temperature of an applied sample (R75); g decides the two flags of a missing temperature. -/
def chooseTemp (t held : Option Int) (g : Nat) : TempChoice :=
  match t with
  | some t =>
    if t < -400 then ⟨-400, some (-400), Flag.tempClamped.mask⟩
    else if 700 < t then ⟨700, some 700, Flag.tempClamped.mask⟩
    else ⟨t, some t, 0#16⟩
  | none =>
    match held with
    | some h => ⟨h, some h, flagIf (0 < g) .tempHeld⟩
    | none => ⟨150, none, flagIf (0 < g) .uncompensated⟩

/-- The volume correction factor in millionths (R76). -/
def vcf (beta : Nat) (t : Int) : Int := 1000000 - (beta : Int) * (t - 150)

/-- What the stages give for an applied sample of a transaction (R79). -/
structure Measured where
  g : Nat
  n : Nat
  resG : Nat
  resN : Nat
  temp : TempChoice
  flags : Half
deriving DecidableEq, Repr

/-- The stages of an applied sample in a transaction (R72 to R77): gross with the carried residue, temperature, net with the
carried residue, and the flags raised. -/
def measure (c : Calibration) (beta step p resG resN : Nat) (t held : Option Int) : Measured :=
  let gp := c.grossProduct step p resG
  let g := gp / 100000000
  let tc := chooseTemp t held g
  let m := g * (vcf beta tc.used).toNat + resN
  { g := g, n := m / 1000000, resG := gp % 100000000, resN := m % 1000000, temp := tc,
    flags := flagIf (1 < step) .sampleGap ||| flagIf (c.uOver < bandRate p step) .overspeed ||| tc.flags }

/-- The net increment of an applied sample outside a transaction: gross from a residue of 0, at the reference temperature
(R80). -/
def unbilledNet (c : Calibration) (step p : Nat) : Nat := c.grossProduct step p 0 / 100000000

/-! ### LOAD_CALIBRATION and LOAD_GRADE (R82 to R86) -/

namespace State

/-- The calibration change counter after an accepted load (R86). -/
def bumpCal (s : State) : State := s.setCalCounter (satAdd Config.max16 s.calCounter 1)

/-- LOAD_CALIBRATION's checks, effect and answer (R82, R83). -/
def cmdLoadCalibration (hose : Byte) (f : CalForm) (s : State) : State × Reply :=
  if s.resp.calProtect then (s, fail .protectedFlag)
  else match finOf 6 hose.toNat with
    | none => (s, fail .range)
    | some h =>
      if !(s.hose h).phase.atRest then (s, fail .busy)
      else if !calRangeOk f then (s, fail .range)
      else
        let t := (s.setHose h { s.hose h with cal := some (calOf f) }).bumpCal
        (t, passAdj (calAdjusted f) (beN 2 t.calCounter ++ (calOf f).bytes))

/-- Whether a hose in AUTHORIZED or an execution phase draws on a compartment of a grade (R84). -/
def gradeActive (s : State) (g : Grade) : Bool :=
  s.anyHose fun x => x.phase.active && (ids 4).any fun c =>
    x.drawsOn c && (match (s.comp c).settings with | some st => st.grade == g | none => false)

/-- LOAD_GRADE's checks, effect and answer (R84). -/
def cmdLoadGrade (grade : Byte) (beta : Half) (s : State) : State × Reply :=
  if s.resp.calProtect then (s, fail .protectedFlag)
  else match finOf 8 grade.toNat with
    | none => (s, fail .range)
    | some g =>
      if s.gradeActive g then (s, fail .busy)
      else
        let b := min beta.toNat 200
        let t := (s.setBetas (vset s.betas g b)).bumpCal
        (t, passAdj (200 < beta.toNat) (beN 2 t.calCounter ++ beN 2 b))

end State

/-! ### The meanings of the rows -/

/-- LOAD_CALIBRATION (R82, R83; SITE). -/
def execLoadCalibration (a : Addr) (hose : Byte) (form : CalForm) (s : State) : Host.Outcome State Fault Refusal :=
  .next (s.takeCommand a 23#8 .site (State.cmdLoadCalibration hose form))

/-- LOAD_GRADE (R84; SITE). -/
def execLoadGrade (a : Addr) (grade : Byte) (beta : Half) (s : State) : Host.Outcome State Fault Refusal :=
  .next (s.takeCommand a 24#8 .site (State.cmdLoadGrade grade beta))

end Sys2Proof.Machine
end

