-- ==== Sys2Proof/Machine/Table.lean ====
section
/-! DEFINITION. The Machine Table (chapter 1): buckets, the chain walk and its cut, refill, settlement and release, and the
commands of 1.6 with SWEEP. -/

namespace Sys2Proof.Machine

/-! ### Buckets and walks (R3 to R6) -/

/-- The bucket of a tag: its eight groups of six bits, exclusive-ORed (R3). -/
def bucketOf (t : TagId) : Bucket :=
  let x : BitVec 6 := t.extractLsb' 42 6 ^^^ t.extractLsb' 36 6 ^^^ t.extractLsb' 30 6 ^^^ t.extractLsb' 24 6
    ^^^ t.extractLsb' 18 6 ^^^ t.extractLsb' 12 6 ^^^ t.extractLsb' 6 6 ^^^ t.extractLsb' 0 6
  ⟨x.toNat, x.isLt⟩

/-- How a walk ends (R5, R6): found with the predecessor (none for the bucket head), not found, or at a fault, with the
predecessor at which the chain is cut. -/
inductive WalkEnd where
  | found (i : EntryId) (pred : Option EntryId)
  | missing
  | fault (pred : Option EntryId)
deriving DecidableEq, Repr

/-- Whether a visited entry passes R6's tests but for the count of visits. -/
def Table.visitGood (t : Table) (b : Bucket) (i : EntryId) : Bool :=
  let e := vget t.entries i
  e.checkGood && e.inUse && bucketOf e.loaded.tag == b

/-- A walk of bucket b from an entry, with the visits left, and the entries that passed their visit (R5, R6). A visit after
the last one left is the 513th. -/
def Table.walkFrom (t : Table) (b : Bucket) (seek : Option TagId) :
    Nat → Option EntryId → Option EntryId → WalkEnd × List EntryId
  | _, none, _ => (.missing, [])
  | 0, some _, pred => (.fault pred, [])
  | n + 1, some i, pred =>
    if t.visitGood b i then
      if seek = some (vget t.entries i).loaded.tag then (.found i pred, [i])
      else
        let r := t.walkFrom b seek n (vget t.entries i).next (some i)
        (r.1, i :: r.2)
    else (.fault pred, [])

/-- A walk of a whole bucket (R5). -/
def Table.walk (t : Table) (b : Bucket) (seek : Option TagId) : WalkEnd × List EntryId :=
  t.walkFrom b seek Config.walkVisits (vget t.heads b) none

/-- The entry with its forward link replaced and its check code recomputed (R2). -/
def Entry.relink (e : Entry) (next : Option EntryId) : Entry :=
  { e with next := next, check := checkCode e.loaded next }

/-- Bucket b's head replaced, or the predecessor's forward link with its check code recomputed (R6, R13). -/
def Table.setAfter (t : Table) (b : Bucket) (pred : Option EntryId) (next : Option EntryId) : Table :=
  match pred with
  | none => { t with heads := vset t.heads b next }
  | some j => { t with entries := vset t.entries j ((vget t.entries j).relink next) }

/-- The cut of a chain at a fault, with its count (R6). -/
def Table.cut (t : Table) (b : Bucket) (pred : Option EntryId) : Table :=
  let u := t.setAfter b pred none
  { u with faults := satAdd Config.max16 u.faults 1 }

namespace State

/-- A walk with what a fault does: cut, count and TABLE_FAULT (R6). -/
def walkBucket (b : Bucket) (seek : Option TagId) (s : State) : (WalkEnd × List EntryId) × State :=
  let w := s.table.walk b seek
  match w.1 with
  | .fault pred => (w, (s.setTable (s.table.cut b pred)).setCause .tableFault)
  | _ => (w, s)

/-- The walk that seeks a tag in its bucket (R3, R5). -/
def walkTag (tag : TagId) (s : State) : WalkEnd × State :=
  let r := s.walkBucket (bucketOf tag) (some tag)
  (r.1.1, r.2)

end State

/-! ### Allowances (R7, R10) -/

/-- The refill of an entry against the current period (R7). -/
def Entry.refilled (period : Word) (e : Entry) : Entry :=
  if e.period = period then e else { e with remaining := e.loaded.allowance, period := period }

namespace State

/-- The refill written to each entry of a list of indices (R7, R15). -/
def refillAll (is : List EntryId) (s : State) : State :=
  s.setTable { s.table with
    entries := vmapIdx (fun i e => if is.contains i then e.refilled s.table.period else e) s.table.entries }

/-- The refill written to entry i (R7). -/
def refill (i : EntryId) (s : State) : State := s.setEntry i ((s.entry i).refilled s.table.period)

/-- Whether an entry is in use with a tag (R10). -/
def holdsTag (s : State) (r : EntryRef) : Bool := (s.entry r.index).inUse && (s.entry r.index).loaded.tag == r.tag

/-- An entry with busy hose none where it named hose h (R10). -/
def clearBusy (h : HoseId) (e : Entry) : Entry := if e.busy = some h then { e with busy := none } else e

/-- Settlement at RESULT entry (R10): true for SETTLED, false for GONE. Where the allowance is present and the remaining
allowance absent, nothing is deducted (log entry 27, the model's choice). -/
def settle (r : EntryRef) (net : Nat) (h : HoseId) (s : State) : Bool × State :=
  if s.holdsTag r then
    let e := (s.entry r.index).refilled s.table.period
    let paid : Entry := match e.loaded.allowance with
      | some _ => { e with remaining := e.remaining.map (fun v => v - net) }
      | none => e
    (true, s.setEntry r.index (clearBusy h paid))
  else (false, s)

/-- Release of an entry (R10). Where the store has lost the entry's tag nothing is written, at a warm start too, so that its busy
hose stays set there (log entry 31, the model's choice between R10 and R20). -/
def release (r : EntryRef) (h : HoseId) (s : State) : State :=
  if s.holdsTag r then s.setEntry r.index (clearBusy h (s.entry r.index)) else s

/-- Release of the entry a context holds, if any (R10, R53, R59, R69). -/
def releaseCtx (c : Context) (h : HoseId) (s : State) : State :=
  match c.entry with
  | some r => s.release r h
  | none => s

end State

/-! ### LOAD_MACHINE (R11, R12) -/

/-- The remaining allowance after a replacement (the table of R12). -/
def replacedRemaining (e : Entry) (period : Word) (new : Option Nat) : Option Nat :=
  if e.period ≠ period then new
  else match e.loaded.allowance, new with
    | some _, some v => e.remaining.map (fun r => min r v)
    | some _, none => none
    | none, some v => some v
    | none, none => none

/-- An entry with its loaded fields replaced (R12, R2). -/
def Entry.replaced (e : Entry) (l : Loaded) (period : Word) : Entry :=
  { e with loaded := l, remaining := replacedRemaining e period l.allowance, period := period,
           check := checkCode l e.next }

/-- A new entry (R11): loaded fields, fresh kept fields, linked before the old head of its bucket. -/
def newEntry (l : Loaded) (period : Word) (busy : Option HoseId) (next : Option EntryId) : Entry :=
  { loaded := l, remaining := l.allowance, period := period, strikes := 0, barred := false, sighted := false,
    lastHours := none, busy := busy, inUse := true, next := next, check := checkCode l next }

namespace State

/-- The hose, if any, in AUTHORIZED or an execution phase whose context holds an entry index and tag (R11). -/
def activeHolder (s : State) (r : EntryRef) : Option HoseId :=
  (ids 6).find? fun h => (s.hose h).phase.active &&
    (match (s.hose h).ctx with | some c => c.entry == some r | none => false)

/-- The new entry of LOAD_MACHINE taken from the top of the free stack and linked at its bucket's head (R4, R11). -/
def linkNew (l : Loaded) (i : EntryId) (rest : List EntryId) (s : State) : State :=
  let b := bucketOf l.tag
  let e := newEntry l s.table.period (s.activeHolder ⟨i, l.tag⟩) (vget s.table.heads b)
  s.setTable { s.table with entries := vset s.table.entries i e, heads := vset s.table.heads b (some i), free := rest }

/-- LOAD_MACHINE's effect and answer (R11, R12). -/
def cmdLoadMachine (m : MachineForm) (s : State) : State × Reply :=
  match loadedOf m with
  | none => (s, fail .range)
  | some l =>
    let w := s.walkTag l.tag
    match w.1 with
    | .found i _ =>
      (w.2.setEntry i ((w.2.entry i).replaced l w.2.table.period), .now .pass .replaced (beN 2 i.val))
    | _ =>
      match w.2.table.free with
      | [] => (w.2, fail .tableFull)
      | i :: rest => (w.2.linkNew l i rest, passOk (beN 2 i.val))

/-! ### The other commands of 1.6 -/

/-- An entry freed and its index pushed on the free stack (R4). -/
def freeEntry (i : EntryId) (s : State) : State :=
  s.setTable { s.table with entries := vset s.table.entries i { s.entry i with inUse := false }, free := i :: s.table.free }

/-- DELETE_MACHINE's effect and answer (R13). -/
def cmdDeleteMachine (tag : TagId) (s : State) : State × Reply :=
  let w := s.walkTag tag
  match w.1 with
  | .found i pred =>
    ((w.2.setTable (w.2.table.setAfter (bucketOf tag) pred (w.2.entry i).next)).freeEntry i, passOk (beN 2 i.val))
  | _ => (w.2, fail .notFound)

/-- READ_MACHINE by tag: its effect and answer (R14). -/
def cmdReadByTag (tag : TagId) (s : State) : State × Reply :=
  let w := s.walkTag tag
  match w.1 with
  | .found i _ =>
    let t := w.2.refill i
    (t, passOk (beN 1 1 ++ optN 2 none ++ (t.entry i).readForm i))
  | _ => (w.2, fail .notFound)

/-- The next index of a read that stopped at the last of some indices: none when the examination reached 511. -/
def nextIndex (last : Option EntryId) (reachedEnd : Bool) : Option Nat :=
  match last with
  | some i => if reachedEnd || i.val = 511 then none else some (i.val + 1)
  | none => none

/-- READ_MACHINE by index: its effect and answer (R15). -/
def cmdReadByIndex (start : Half) (s : State) : State × Reply :=
  if start.toNat ≤ 511 then
    let got := ((ids 512).filter (fun i => start.toNat ≤ i.val && (s.entry i).inUse)).take 3
    let t := s.refillAll got
    (t, passOk (beN 1 got.length ++ optN 2 (nextIndex got.getLast? (got.length < 3))
        ++ (got.map (fun i => (t.entry i).readForm i)).flatten))
  else (s, fail .range)

/-- SET_ALLOWANCE's effect and answer (R16). -/
def cmdSetAllowance (tag : TagId) (volume : Word) (s : State) : State × Reply :=
  if volume.toNat ≤ Config.maxVolume then
    let w := s.walkTag tag
    match w.1 with
    | .found i _ =>
      match (w.2.entry i).loaded.allowance with
      | none => (w.2, fail .state)
      | some v =>
        let r := min volume.toNat v
        (w.2.setEntry i { w.2.entry i with remaining := some r, period := w.2.table.period },
          passAdj (v < volume.toNat) (beN 4 r))
    | _ => (w.2, fail .notFound)
  else (s, fail .range)

/-- CLEAR_STRIKES's effect and answer (R17). -/
def cmdClearStrikes (tag : TagId) (s : State) : State × Reply :=
  let w := s.walkTag tag
  match w.1 with
  | .found i _ => (w.2.setEntry i { w.2.entry i with strikes := 0, barred := false }, passOk [])
  | _ => (w.2, fail .notFound)

/-- OPEN_PERIOD's effect and answer (R8). -/
def cmdOpenPeriod (s : State) : State × Reply :=
  let p := s.table.period + 1#32
  (s.setTable { s.table with period := p }, passOk (be4 p))

/-! ### SWEEP (R18, R19) -/

/-- In-use entries, reachable and stray. -/
def inUseCount (s : State) : Nat := ((ids 512).filter (fun i => (s.entry i).inUse)).length

/-- SWEEP begun by a node (R18): in flight, with nothing walked yet. Its work goes on in sweepTick and ends in SWEEP_DONE
(log entry 4). -/
def cmdSweep (node : Node) (s : State) : State × Reply :=
  (s.setResp { s.resp with inFlight := some (.sweep node .start) }, .later)

/-- The marking walk of bucket b (R6, R18): what passes its visit is marked; a fault is cut, counted and sets TABLE_FAULT. -/
def markBucket (b : Bucket) (acc : SweepWork × State) : SweepWork × State :=
  let r := acc.2.walkBucket b none
  ({ acc.1 with walked := acc.1.walked + 1, marks := acc.1.marks ++ r.1.2,
                faults := acc.1.faults + (match r.1.1 with | .fault _ => 1 | _ => 0) }, r.2)

/-- Whether the freeing phase frees an entry: in use, without a reached mark (R18). -/
def sweepable (s : State) (w : SweepWork) (i : EntryId) : Bool := (s.entry i).inUse && !w.marks.contains i

/-- The freeing phase at entry i (R18). -/
def examineEntry (i : EntryId) (acc : SweepWork × State) : SweepWork × State :=
  if acc.2.sweepable acc.1 i then ({ acc.1 with left := i.val, freed := acc.1.freed + 1 }, acc.2.freeEntry i)
  else ({ acc.1 with left := i.val }, acc.2)

/-- The next moment of a SWEEP: one bucket walked, 0 to 63, then one entry examined, 511 down to 0 (R18). -/
def sweepMoment (acc : SweepWork × State) : SweepWork × State :=
  match finOf 64 acc.1.walked with
  | some b => markBucket b acc
  | none =>
    match acc.1.left with
    | 0 => acc
    | n + 1 =>
      match finOf 512 n with
      | some i => examineEntry i acc
      | none => acc

/-- What time brings while no command is taken (log entry 4): the next moment of a SWEEP in flight, with the main supply on. -/
def sweepTick (s : State) : State :=
  match s.power.main, s.resp.inFlight with
  | true, some (.sweep node w) =>
    let r := sweepMoment (w, s)
    r.2.setResp { r.2.resp with inFlight := some (.sweep node r.1) }
  | _, _ => s

/-- The rest of the marking phase (R18). -/
def sweepMark (acc : SweepWork × State) : SweepWork × State :=
  ((ids 64).filter (fun b => acc.1.walked ≤ b.val)).foldl (fun a b => markBucket b a) acc

/-- The entries the rest of the freeing phase frees (R18). -/
def sweepFreed (w : SweepWork) (s : State) : List EntryId := (ids 512).filter fun i => i.val < w.left && s.sweepable w i

/-- The rest of the freeing phase (R18): taken downward, each freed entry's in-use mark is cleared and its index pushed on the
free stack, so that the lowest index ends on top. -/
def sweepFree (w : SweepWork) (s : State) : State :=
  s.setTable { s.table with
    entries := vmapIdx (fun i e => if i.val < w.left && s.sweepable w i then { e with inUse := false } else e) s.table.entries
    free := s.sweepFreed w ++ s.table.free }

end State

/-! ### The retained store loses a value (R2, R6) -/

/-- An entry after the store lost one of its values; the stored check code is not recomputed (log entry 11). An allowance lost
to FFFFFFFF hex may be held as present, though its byte form is that of absent (log entry 28, the model's choice). -/
def Entry.lose (e : Entry) : LostValue → Entry
  | .tag v => { e with loaded := { e.loaded with tag := v } }
  | .number v => { e with loaded := { e.loaded with number := v.toNat } }
  | .cls v => { e with loaded := { e.loaded with cls := v } }
  | .centre v => { e with loaded := { e.loaded with centre := v } }
  | .grades v => { e with loaded := { e.loaded with grades := v } }
  | .hourCheck v => { e with loaded := { e.loaded with hourCheck := v } }
  | .allowance v => { e with loaded := { e.loaded with allowance := v.map BitVec.toNat } }
  | .link v => { e with next := v }
  | .check v => { e with check := v }

/-! ### The meanings of the rows -/

/-- LOAD_MACHINE (R11, R12; SUPERVISOR, R163). -/
def execLoadMachine (a : Addr) (form : MachineForm) (s : State) : Host.Outcome State Fault Refusal :=
  .next (s.takeCommand a 10#8 .supervisor (State.cmdLoadMachine form))

/-- DELETE_MACHINE (R13; SUPERVISOR). -/
def execDeleteMachine (a : Addr) (tag : TagId) (s : State) : Host.Outcome State Fault Refusal :=
  .next (s.takeCommand a 11#8 .supervisor (State.cmdDeleteMachine tag))

/-- READ_MACHINE by tag (R14; OPERATOR). -/
def execReadMachineByTag (a : Addr) (tag : TagId) (s : State) : Host.Outcome State Fault Refusal :=
  .next (s.takeCommand a 12#8 .operator (State.cmdReadByTag tag))

/-- READ_MACHINE by index (R15; OPERATOR). -/
def execReadMachineByIndex (a : Addr) (start : Half) (s : State) : Host.Outcome State Fault Refusal :=
  .next (s.takeCommand a 12#8 .operator (State.cmdReadByIndex start))

/-- SET_ALLOWANCE (R16; SUPERVISOR). -/
def execSetAllowance (a : Addr) (tag : TagId) (volume : Word) (s : State) : Host.Outcome State Fault Refusal :=
  .next (s.takeCommand a 13#8 .supervisor (State.cmdSetAllowance tag volume))

/-- CLEAR_STRIKES (R17; SUPERVISOR). -/
def execClearStrikes (a : Addr) (tag : TagId) (s : State) : Host.Outcome State Fault Refusal :=
  .next (s.takeCommand a 14#8 .supervisor (State.cmdClearStrikes tag))

/-- OPEN_PERIOD (R8; SUPERVISOR). -/
def execOpenPeriod (a : Addr) (s : State) : Host.Outcome State Fault Refusal :=
  .next (s.takeCommand a 15#8 .supervisor State.cmdOpenPeriod)

/-- SWEEP (R18; SITE). -/
def execSweep (a : Addr) (s : State) : Host.Outcome State Fault Refusal :=
  .next (s.takeCommand a 16#8 .site (State.cmdSweep a.src))

/-- SWEEP_DONE (R18): what is left of both phases is done, the marks are discarded, SWEEP is answered with its three counts
and is no longer in flight (R160). With no SWEEP in flight nothing ends (log entry 6). -/
def execSweepDone (s : State) : Host.Outcome State Fault Refusal :=
  .next (match s.power.main, s.resp.inFlight with
    | true, some (.sweep node work) =>
      let r := State.sweepMark (work, s)
      let t := (r.2.sweepFree r.1).setResp { r.2.resp with inFlight := none }
      t.answer node .pass 16#8 .ok
        (beN 2 (r.1.freed + (r.2.sweepFreed r.1).length) ++ beN 2 t.inUseCount ++ beN 2 r.1.faults)
    | _, _ => s)

/-- STORE_VALUE_LOST, with the supply on or off: a value of an entry, where one is named, changes under its stored check code
(R2, Note 1), and the control items differ by the given change of their CRC from the stored one, 0 where none is lost (R179,
log entries 10 and 11). -/
def execStoreValueLost (entry : Option (EntryId × LostValue)) (change : Half) (s : State) : Host.Outcome State Fault Refusal :=
  .next (State.setPower { s.power with crcDiff := s.power.crcDiff ^^^ change }
    (match entry with
      | some (i, lost) => s.setEntry i ((s.entry i).lose lost)
      | none => s))

end Sys2Proof.Machine
end

