-- ==== Sys2Proof/Machine/Hose.lean ====
section
/-! DEFINITION. The hose controllers (chapter 3): phases, flow start and end, samples, result and posting, site stop, and the
rows that reach a hose. -/

namespace Sys2Proof.Machine

/-! ### Phases and timers (R47) -/

/-- The timers a phase lists; entering a phase stops the others (R47). -/
def Timers.listed (t : Timers) : Phase → Timers
  | .authorized => { Timers.stopped with window := t.window }
  | .slowStart | .fullFlow | .slowStop => { Timers.stopped with noFlow := t.noFlow, silence := t.silence }
  | .held => { Timers.stopped with silence := t.silence, holdLimit := t.holdLimit }
  | .closing => { Timers.stopped with settle := t.settle }
  | .result => { Timers.stopped with postDelay := t.postDelay }
  | .off | .idle => .stopped

/-- A hose entering a phase: timers not listed are stopped, and the hold mark is cleared on leaving HELD (R47, R61). -/
def Hose.enter (x : Hose) (ph : Phase) : Hose :=
  { x with phase := ph, timers := x.timers.listed ph, mark := if ph = .held then x.mark else none }

/-- A period of the hose's profile, as a timer is started with it. -/
def Hose.period (x : Hose) (f : Profile → Nat) : Option Nat := x.profile.map f

/-- A running timer restarted with a period; a stopped one stays stopped. -/
def restartIf (running : Option Nat) (period : Option Nat) : Option Nat := if running.isSome then period else none

namespace State

/-- Hose h changed. -/
def modHose (h : HoseId) (f : Hose → Hose) (s : State) : State := s.setHose h (f (s.hose h))

/-! ### Flow start (R49) -/

/-- Flow start at an AUTHORIZED hose (R49): window stopped, totals and residues zeroed, held temperature absent, start time
set, SLOW_START entered with OPEN_SLOW, no-flow and meter-silence started, PROGRESS queued. -/
def flowStart (h : HoseId) (s : State) : State :=
  let clock := s.resp.clock
  let unset := !s.resp.clockSet
  let s1 := s.modHose h fun x =>
    { x.enter .slowStart with
      ctx := x.ctx.map fun c =>
        { c with gross := 0, net := 0, heldTemp := none, startTime := some clock,
                 flags := c.flags ||| flagIf unset .clockUnset }
      resG := 0
      resN := 0
      timers := { (x.enter .slowStart).timers with noFlow := x.period Profile.noFlow, silence := x.period Profile.silence } }
  (s1.queueValve h .openSlow).entryProgress h

/-! ### Acceptance (R36, R39, R41, R186) -/

/-- Busy hose set to h where the context holds an entry (R36). -/
def takeEntry (h : HoseId) (c : Context) (s : State) : State :=
  match c.entry with
  | some r => s.setEntry r.index { s.entry r.index with busy := some h }
  | none => s

/-- An acceptance at hose h with a filled context (R36, R39, R41): reservation, busy hose, commitment, context, AUTHORIZED
with its window and PROGRESS, AUTH_GRANTED, then flow start where the nozzle is already lifted (R49, R186). -/
def accept (h : HoseId) (c : Context) (s : State) : State :=
  let s1 := ((s.reserve).takeEntry h c).commit c.comp c.kind c.preset
  let s2 := s1.modHose h fun x =>
    { x.enter .authorized with
      ctx := some c, timers := { (x.enter .authorized).timers with window := x.period Profile.window } }
  let s3 := (s2.entryProgress h).cabOrdinary (grantedFrame h c.machine c.preset c.flags)
  if (s3.hose h).nozzle.isLifted && !s3.siteStop then s3.flowStart h else s3

/-! ### Ending flow (R53, R54, R58, R59, R61) -/

/-- Entry to CLOSING with an end cause (R54). -/
def enterClosing (h : HoseId) (why : EndCause) (s : State) : State :=
  let s1 := s.modHose h fun x =>
    { x.enter .closing with
      ctx := x.ctx.map fun c => { c with endCause := some why }
      timers := { (x.enter .closing).timers with settle := x.period Profile.settle } }
  (s1.queueValve h .close).entryProgress h

/-- Entry to HELD with a hold mark (R61). -/
def enterHeld (h : HoseId) (mark : HoldMark) (s : State) : State :=
  let s1 := s.modHose h fun x =>
    { x.enter .held with
      mark := some mark
      timers := { (x.enter .held).timers with holdLimit := x.period Profile.holdLimit } }
  (s1.queueValve h .close).entryProgress h

/-- A transaction that ends without a record: reservation released, what remains of the commitment removed, entry released,
context discarded, IDLE entered (R53, R59, R69); no frame. -/
def dropTransaction (h : HoseId) (s : State) : State :=
  match (s.hose h).ctx with
  | none => s.modHose h fun x => x.enter .idle
  | some c =>
    (((s.unreserve).uncommit c.comp c.kind c.term).releaseCtx c h).modHose h fun x => { x.enter .idle with ctx := none }

/-- An AUTHORIZED hose returned to IDLE, by expiry or cancel (R53, R60). -/
def cancel (h : HoseId) (why : Reason) (kind : Option RequestKind) (s : State) : State :=
  ((s.dropTransaction h).requestRefused (some (BitVec.ofNat 8 h.val)) why kind).entryProgress h

/-- Settlement of the context's entry, for a DELIVERY that holds one (R65 step 2): true unless the answer is GONE. -/
def settleCtx (c : Context) (h : HoseId) (s : State) : Bool × State :=
  match c.kind, c.entry with
  | .delivery, some r => s.settle r c.net h
  | _, _ => (true, s)

/-- The context as RESULT entry leaves it (R65 steps 2 to 5). -/
def resultCtx (s : State) (c : Context) (settled : Bool) : Context :=
  { c with amount := c.amountSoFar, endTime := some s.resp.clock, calCounter := some s.calCounter,
           flags := c.flags ||| flagIf (!settled) .entryGone ||| flagIf (!s.resp.clockSet) .clockUnset }

/-- The post delay as RESULT entry starts it: not at all for 0 (R46, R65). -/
def postDelayOf (x : Hose) : Option Nat :=
  match x.profile with
  | some p => if p.postDelay = 0 then none else some p.postDelay
  | none => none

/-- Entry to RESULT (R65); its PROGRESS is queued but at a warm start (R69). -/
def resultEntry (h : HoseId) (frame : Bool) (s : State) : State :=
  match (s.hose h).ctx with
  | none => s
  | some c =>
    let r := (s.uncommit c.comp c.kind c.term).settleCtx c h
    let s2 := r.2.modHose h fun x =>
      { x.enter .result with
        ctx := some (resultCtx r.2 c r.1), resG := 0, resN := 0,
        timers := { Timers.stopped with postDelay := postDelayOf x } }
    if frame then s2.entryProgress h else s2

/-- The end of CLOSING (R58, R59): RESULT, or IDLE without a record when gross and net are both 0. -/
def endClosing (h : HoseId) (s : State) : State :=
  match (s.hose h).ctx with
  | none => s
  | some c => if c.gross = 0 ∧ c.net = 0 then (s.dropTransaction h).entryProgress h else s.resultEntry h true

/-- Posting of a hose in RESULT (R66, R116). -/
def post (h : HoseId) (s : State) : State :=
  match (s.hose h).ctx with
  | none => s
  | some c =>
    let seq := s.billing.nextSeq
    let s1 := s.setBilling (s.billing.post h c)
    let s2 := s1.modHose h fun x => { x.enter .idle with ctx := none }
    (s2.cabOrdinary (postedFrame h seq)).entryProgress h

/-! ### Samples (R50 to R52, R67, R79 to R81) -/

/-- The phase checks after an applied sample in a flowing phase, on the remaining volume E minus net (R51, R52). -/
def phaseCheck (h : HoseId) (s : State) : State :=
  match (s.hose h).profile, (s.hose h).ctx with
  | some p, some c =>
    let met := c.preset ≤ c.net
    let near := c.preset ≤ c.net + p.slowStop
    match (s.hose h).phase with
    | .slowStart =>
      if met then s.enterClosing h .presetReached
      else if near then (s.modHose h fun x => x.enter .slowStop).entryProgress h
      else if p.slowStart ≤ c.net then ((s.modHose h fun x => x.enter .fullFlow).queueValve h .openFull).entryProgress h
      else s
    | .fullFlow =>
      if met then s.enterClosing h .presetReached
      else if near then ((s.modHose h fun x => x.enter .slowStop).queueValve h .openSlow).entryProgress h
      else s
    | .slowStop => if met then s.enterClosing h .presetReached else s
    | _ => s
  | _, _ => s

/-- The context after an applied sample (R50, R75, R79). TOTAL_SATURATED joins when an addition would pass 4,294,967,295 mL and
not when it lands on it (log entry 29, the model's choice between R79 and R120). -/
def sampleCtx (c : Context) (m : Measured) : Context :=
  { c with
    gross := satAdd Config.max32 c.gross m.g
    net := satAdd Config.max32 c.net m.n
    flags := c.flags ||| m.flags |||
      flagIf (Config.max32 < c.gross + m.g || Config.max32 < c.net + m.n) .totalSaturated
    heldTemp := m.temp.held
    lastTemp := if 0 < m.g then some m.temp.used else c.lastTemp }

/-- A volume of a transaction as it moves the book: out for a DELIVERY, in for a RECEIPT (R50, R89). -/
def signedBy (k : TxKind) (n : Nat) : Int :=
  match k with
  | .delivery => -(n : Int)
  | .receipt => n

/-- The timers after an applied sample (R50): meter silence restarted where it runs; with pulses, no-flow in a flowing phase
and settle in CLOSING. -/
def sampleTimers (x : Hose) (p : Nat) : Timers :=
  { x.timers with
    silence := restartIf x.timers.silence (x.period Profile.silence)
    noFlow := if 0 < p && x.phase.flowing then x.period Profile.noFlow else x.timers.noFlow
    settle := if 0 < p && x.phase == .closing then x.period Profile.settle else x.timers.settle }

/-- An applied sample in an execution phase (R50, R79): totals and flags, book, commitment, timers, phase checks in a flowing
phase, then the sample PROGRESS. -/
def appliedSample (h : HoseId) (c : Context) (m : Measured) (p : Nat) (s : State) : State :=
  let s1 := s.modHose h fun x => { x with ctx := some (sampleCtx c m), resG := m.resG, resN := m.resN }
  let s2 := s1.bookMetered c.comp (signedBy c.kind m.n)
  let s3 := s2.uncommit c.comp c.kind (c.term - (sampleCtx c m).term)
  let s4 := s3.modHose h fun x => { x with timers := sampleTimers x p }
  let s5 := if (s4.hose h).phase.flowing then s4.phaseCheck h else s4
  s5.sampleProgress h

/-- Unbilled flow (R67, R80): the hose's counter, the book and the unattributed draw, and UNAUTHORIZED_FLOW. -/
def unbilledFlow (h : HoseId) (pr : Profile) (n : Nat) (s : State) : State :=
  let s1 := s.modHose h fun x => { x with unbilled := satAdd Config.max32 x.unbilled n }
  let d : Int := if pr.mode = .receive then n else -(n : Int)
  (s1.bookUnbilled pr.comp d).setCause .unauthorizedFlow

/-- A METER_SAMPLE at its hose (R50, R67, R71, R81). -/
def sample (h : HoseId) (seq : Byte) (total temp : Half) (s : State) : State :=
  let x := s.hose h
  match x.phase, x.profile with
  | .off, _ => s
  | _, none => s
  | ph, some pr =>
    let s1 := s.modHose h fun x => { x with pulse := refAfter x.pulse seq total }
    match classify x.pulse seq total with
    | .duplicate => s
    | .referenceOnly =>
      s1.modHose h fun x => { x with timers := { x.timers with
        silence := restartIf x.timers.silence (x.period Profile.silence) } }
    | .applied step p =>
      if ph.executing then
        match x.ctx, x.cal with
        | some c, some cal =>
          s1.appliedSample h c (measure cal (vget s.betas c.grade) step p x.resG x.resN (tempOf temp) c.heldTemp) p
        | _, _ => s1
      else if p = 0 then s1
      else match x.cal with
        | none => s1.setCause .unauthorizedFlow
        | some cal => s1.unbilledFlow h pr (unbilledNet cal step p)

/-! ### Nozzle and head status (R48, R57) -/

/-- A NOZZLE frame at its hose (R48). -/
def nozzleEvent (h : HoseId) (v : Nozzle) (s : State) : State :=
  let s1 := s.modHose h fun x => { x with nozzle := v }
  match (s.hose h).phase with
  | .authorized => if v.isLifted && !s.siteStop then s1.flowStart h else s1
  | .slowStart | .fullFlow | .slowStop | .held => if v.isLifted then s1 else s1.enterClosing h .nozzleHung
  | .closing => if v.isLifted then s1 else s1.endClosing h
  | .off | .idle | .result => s1

/-- A HEAD_STATUS frame at its hose (R57). -/
def headStatusEvent (h : HoseId) (code : Byte) (s : State) : State :=
  if code = 0#8 then s
  else
    let s1 := s.setCause .headFault
    if (s.hose h).phase.flowing || (s.hose h).phase == .held then s1.enterClosing h .headFault else s1

/-! ### Operator requests at a hose (R60 to R62) -/

/-- The refusal WRONG_PHASE of a hose request (R60). -/
def wrongPhase (h : HoseId) (kind : RequestKind) (s : State) : State :=
  s.requestRefused (some (BitVec.ofNat 8 h.val)) .wrongPhase (some kind)

/-- HOLD at its hose (R60, R61). -/
def holdRequest (h : HoseId) (s : State) : State :=
  if (s.hose h).phase.flowing then s.enterHeld h .operator else s.wrongPhase h .hold

/-- STOP at its hose (R60). -/
def stopRequest (h : HoseId) (s : State) : State :=
  match (s.hose h).phase with
  | .authorized => s.cancel h .operatorCancel (some .stop)
  | .slowStart | .fullFlow | .slowStop | .held => s.enterClosing h .operatorStop
  | _ => s.wrongPhase h .stop

/-- POST at its hose (R60, R66). -/
def postRequest (h : HoseId) (s : State) : State :=
  if (s.hose h).phase = .result then s.post h else s.wrongPhase h .post

/-- A RESUME back into a flowing phase (R62). -/
def resumeFlow (h : HoseId) (ph : Phase) (s : State) : State :=
  let s1 := s.modHose h fun x =>
    { x.enter ph with timers := { (x.enter ph).timers with noFlow := x.period Profile.noFlow, silence := x.period Profile.silence } }
  (s1.queueValve h .openSlow).entryProgress h

/-- RESUME of a hose by a sender's level (R60, R62). -/
def resumeRequest (level : Level) (h : HoseId) (s : State) : State :=
  if (s.hose h).phase ≠ .held then s.wrongPhase h .resume
  else if s.siteStop then s.requestRefused (some (BitVec.ofNat 8 h.val)) .siteStopped (some .resume)
  else if (s.hose h).mark = some .site ∧ level.code < Level.supervisor.code then
    s.requestRefused (some (BitVec.ofNat 8 h.val)) .privilege (some .resume)
  else match (s.hose h).profile, (s.hose h).ctx with
    | some p, some c =>
      if c.preset ≤ c.net then s.enterClosing h .presetReached
      else if c.preset ≤ c.net + p.slowStop then s.resumeFlow h .slowStop
      else s.resumeFlow h .slowStart
    | _, _ => s

/-! ### Site stop (R63, R64, R187) -/

/-- What the setting of site stop does at one hose (R63). -/
def siteStopHose (h : HoseId) (s : State) : State :=
  if (s.hose h).phase.flowing then s.enterHeld h .site
  else if (s.hose h).phase = .held then s.modHose h fun x => { x with mark := some .site }
  else s

/-- Site stop set: nothing while in force, else every hose in ascending number (R63, R187). -/
def stopSite (s : State) : State :=
  if s.siteStop then s else (ids 6).foldl (fun u h => u.siteStopHose h) (s.setSiteStop true)

/-- SITE_STOP's effect and answer (R63). -/
def cmdSiteStop (s : State) : State × Reply := (s.stopSite, passOk [])

/-- SITE_RESUME's effect and answer (R64). -/
def cmdSiteResume (s : State) : State × Reply := (s.setSiteStop false, passOk [])

/-! ### LOAD_HOSE_PROFILE (R45, R46) -/

/-- Whether a node is the head node of another hose's loaded profile or a compartment's probe node (R45). -/
def headNodeTaken (s : State) (h : HoseId) (n : Node) : Bool :=
  (ids 6).any (fun k => k != h && (match (s.hose k).profile with | some p => p.head == n | none => false))
    || (s.probeOwner n).isSome

/-- Whether a VALVE frame for the hose waits in the field port's queue addressed to another node (R45, R156). -/
def valveElsewhere (s : State) (h : HoseId) (n : Node) : Bool :=
  s.field.queue.any (fun it => it.kind == .valve h && it.frame.dest != n)

/-- The hose with a new profile (R46): OFF or IDLE, nozzle HUNG, pulse reference absent, no valve command sent yet. -/
def profiledHose (x : Hose) (p : Profile) : Hose :=
  { x.enter (if p.mode = .off then .off else .idle) with
    profile := some p, nozzle := .hung, pulse := none, lastValve := none }

/-- LOAD_HOSE_PROFILE's checks, effect and answer (R45, R46). -/
def cmdLoadHoseProfile (hose : Byte) (f : ProfileForm) (s : State) : State × Reply :=
  match finOf 6 hose.toNat with
  | none => (s, fail .range)
  | some h =>
    if !(s.hose h).phase.atRest then (s, fail .busy)
    else match modeOf f.mode, deviceNode f.head, finOf 4 f.comp.toNat with
      | some m, some n, some c =>
        if s.headNodeTaken h n || f.maxPreset == 0xFFFFFFFF#32 then (s, fail .range)
        else if s.valveElsewhere h n then (s, fail .busy)
        else
          let p := profileOf m n c f
          let t := (s.modHose h fun x => profiledHose x p).entryProgress h
          (t, passAdj (profileAdjusted f) p.bytes)
      | _, _, _ => (s, fail .range)

/-! ### Timer expiries -/

/-- An expiry of a timer of hose h, acting only with the supply on and the timer running in a phase that lists it: a timer
stopped at a phase entry no longer expires (R47, log entry 6). -/
def expiry (h : HoseId) (timer : Timers → Option Nat) (inPhase : Phase → Bool) (act : State → State) (s : State) : State :=
  if s.power.main && (timer (s.hose h).timers).isSome && inPhase (s.hose h).phase then act s else s

end State

/-! ### The meanings of the rows -/

/-- NOZZLE (R48, R144, R145). -/
def execNozzle (a : Addr) (value : Byte) (s : State) : Host.Outcome State Fault Refusal :=
  .next (s.takeField a State.headOwner (nozzleOf value).isSome fun h t =>
    match nozzleOf value with
    | some v => t.nozzleEvent h v
    | none => t)

/-- METER_SAMPLE (R50, R67, R144). -/
def execMeterSample (a : Addr) (seq : Byte) (total temp : Half) (s : State) : Host.Outcome State Fault Refusal :=
  .next (s.takeField a State.headOwner true fun h t => t.sample h seq total temp)

/-- HEAD_STATUS (R57, R144). -/
def execHeadStatus (a : Addr) (code : Byte) (s : State) : Host.Outcome State Fault Refusal :=
  .next (s.takeField a State.headOwner true fun h t => t.headStatusEvent h code)

/-- POST (R60, R66; OPERATOR). -/
def execPost (a : Addr) (hose : Byte) (s : State) : Host.Outcome State Fault Refusal :=
  .next (s.takeHoseRequest a .post hose State.postRequest)

/-- HOLD (R60, R61; OPERATOR). -/
def execHold (a : Addr) (hose : Byte) (s : State) : Host.Outcome State Fault Refusal :=
  .next (s.takeHoseRequest a .hold hose State.holdRequest)

/-- RESUME (R60, R62; OPERATOR, or SUPERVISOR when the hold mark is SITE). -/
def execResume (a : Addr) (hose : Byte) (s : State) : Host.Outcome State Fault Refusal :=
  .next (s.takeHoseRequest a .resume hose fun h t => t.resumeRequest (t.levelOfNode a.src) h)

/-- STOP (R60; OPERATOR). -/
def execStop (a : Addr) (hose : Byte) (s : State) : Host.Outcome State Fault Refusal :=
  .next (s.takeHoseRequest a .stop hose State.stopRequest)

/-- EMERGENCY_STOP (R63, R164; OPERATOR); a refusal names no hose (10.2). -/
def execEmergencyStop (a : Addr) (s : State) : Host.Outcome State Fault Refusal :=
  .next (s.takeOperator a fun t =>
    if (t.levelOfNode a.src).code < Level.operator.code then t.requestRefused none .privilege (some .emergencyStop)
    else t.stopSite)

/-- AUTH_WINDOW_EXPIRY (R53). -/
def execAuthWindowExpiry (h : HoseId) (s : State) : Host.Outcome State Fault Refusal :=
  .next (s.expiry h Timers.window (fun ph => ph == .authorized) fun t => t.cancel h .authExpired none)

/-- NO_FLOW_EXPIRY (R56). -/
def execNoFlowExpiry (h : HoseId) (s : State) : Host.Outcome State Fault Refusal :=
  .next (s.expiry h Timers.noFlow Phase.flowing fun t => t.enterClosing h .noFlow)

/-- METER_SILENCE_EXPIRY (R56): the cause is set, then CLOSING is entered. -/
def execMeterSilenceExpiry (h : HoseId) (s : State) : Host.Outcome State Fault Refusal :=
  .next (s.expiry h Timers.silence (fun ph => ph.flowing || ph == .held) fun t =>
    (t.setCause .meterSilent).enterClosing h .meterSilent)

/-- SETTLE_EXPIRY (R58). -/
def execSettleExpiry (h : HoseId) (s : State) : Host.Outcome State Fault Refusal :=
  .next (s.expiry h Timers.settle (fun ph => ph == .closing) fun t => t.endClosing h)

/-- POST_DELAY_EXPIRY (R66). -/
def execPostDelayExpiry (h : HoseId) (s : State) : Host.Outcome State Fault Refusal :=
  .next (s.expiry h Timers.postDelay (fun ph => ph == .result) fun t => t.post h)

/-- HOLD_LIMIT_EXPIRY (R61). -/
def execHoldLimitExpiry (h : HoseId) (s : State) : Host.Outcome State Fault Refusal :=
  .next (s.expiry h Timers.holdLimit (fun ph => ph == .held) fun t => t.enterClosing h .holdExpired)

/-- LOAD_HOSE_PROFILE (R45, R46; SITE). -/
def execLoadHoseProfile (a : Addr) (hose : Byte) (form : ProfileForm) (s : State) : Host.Outcome State Fault Refusal :=
  .next (s.takeCommand a 20#8 .site (State.cmdLoadHoseProfile hose form))

/-- SITE_STOP (R63; SUPERVISOR). -/
def execSiteStop (a : Addr) (s : State) : Host.Outcome State Fault Refusal :=
  .next (s.takeCommand a 21#8 .supervisor State.cmdSiteStop)

/-- SITE_RESUME (R64; SUPERVISOR). -/
def execSiteResume (a : Addr) (s : State) : Host.Outcome State Fault Refusal :=
  .next (s.takeCommand a 22#8 .supervisor State.cmdSiteResume)

end Sys2Proof.Machine
end

