-- ==== Sys2Proof/Machine/Identification.lean ====
section
/-! DEFINITION. The Identification Unit (chapter 2): the twelve steps of a tag read, MANUAL_AUTH and RECEIVE_START, the strike
policy and roll call. -/

namespace Sys2Proof.Machine

/-! ### Tests and strikes (R27 to R30) -/

/-- The outcome of test A (R27): the grade is tested first. -/
inductive TestA where
  | pass | wrongGrade | wrongClass
deriving DecidableEq, Repr

/-- Test A: the compartment's grade in the entry's grade set, then the entry's class in the hose's class mask (R27). -/
def testA (l : Loaded) (grade : Grade) (mask : Half) : TestA :=
  if !l.grades.getLsbD grade.val then .wrongGrade
  else if !mask.getLsbD l.cls.val then .wrongClass
  else .pass

/-- Test B: the hour-meter window, formed without limit (R28). -/
def testB (e : Entry) (jump : Nat) (r : Option Nat) : Bool :=
  match e.loaded.hourCheck, r, e.lastHours with
  | true, some r, some last => last ≤ r && r ≤ last + jump
  | _, _, _ => true

/-- A strike count after an operation (R29). -/
def StrikeOp.apply (op : StrikeOp) (n : Nat) : Nat :=
  match op with
  | .zero => 0
  | .keep => n
  | .incr => min (n + 1) 7
  | .decr => n - 1

/-- An entry after a strike operation under a bar threshold; 0 never bars (R29). -/
def Entry.strike (e : Entry) (op : StrikeOp) (threshold : Nat) : Entry :=
  let n := op.apply e.strikes
  { e with strikes := n, barred := e.barred || (threshold != 0 && threshold ≤ n) }

/-- The writes that follow a pass that leaves the entry ACTIVE: sighted mark while roll call is on, last hours (R30). -/
def Entry.passed (e : Entry) (rollCall : Bool) (r : Option Nat) : Entry :=
  { e with sighted := e.sighted || rollCall, lastHours := match r with | some r => some r | none => e.lastHours }

namespace State

/-- A strike operation applied to entry i, with MACHINE_BARRED where it bars (R29). -/
def applyStrike (op : StrikeOp) (i : EntryId) (s : State) : State :=
  let e := (s.entry i).strike op s.table.policy.threshold
  let t := s.setEntry i e
  if e.barred && !(s.entry i).barred then t.setCause .machineBarred else t

/-! ### The effective preset (R34, R35, R41) -/

/-- NOTICE AUTH_REFUSED for a read whose entry was found (R37). -/
def refuseFound (h : HoseId) (why : Reason) (tag : TagId) (i : EntryId) (s : State) : State :=
  s.authRefused h why (some tag) (some (s.entry i).loaded.number) (some (s.entry i).strikes)

end State

/-- The effective preset: the least of the hose maximum, the allowance term if any and the stock term (R34). -/
def effectivePreset (hoseMax : Nat) (allowance : Option Nat) (stock : Nat) : Nat :=
  match allowance with
  | some a => min (min hoseMax a) stock
  | none => min hoseMax stock

/-- The limiting flags: a term less than the hose maximum and equal to E (R34). -/
def limitFlags (hoseMax : Nat) (allowance : Option Nat) (stock : Nat) : Half :=
  let e := effectivePreset hoseMax allowance stock
  flagIf (match allowance with | some a => a < hoseMax && a == e | none => false) .allowanceLimited
    ||| flagIf (stock < hoseMax && stock == e) .stockLimited

/-- The reason of a step 12 refusal: LOW_ALLOWANCE when the allowance term is present and not greater than the stock term
(R35). -/
def lowReason (allowance : Option Nat) (stock : Nat) : Reason :=
  match allowance with
  | some a => if a ≤ stock then .lowAllowance else .lowStock
  | none => .lowStock

/-- A context as an acceptance fills it (R36, R39, R41); the items the hose controller adds later are at rest. -/
def freshContext (k : TxKind) (grade : Grade) (comp : CompId) (period : Word) (preset : Nat) (flags : Half)
    (hoursRef : Option Nat) : Context :=
  { kind := k, entry := none, machine := none, cls := none, centre := none, grade := grade, comp := comp, price := none,
    fraction := none, period := period, preset := preset, flags := flags, hoursRef := hoursRef, startTime := none, gross := 0,
    net := 0, heldTemp := none, lastTemp := none, endCause := none, endTime := none, amount := none, calCounter := none }

namespace State

/-- The context of an accepted tag read (R36, R111). -/
def tagContext (s : State) (i : EntryId) (p : Profile) (st : Settings) (preset : Nat) (flags : Half) (r : Option Nat) :
    Context :=
  let l := (s.entry i).loaded
  { freshContext .delivery st.grade p.comp s.table.period preset flags r with
    entry := some ⟨i, l.tag⟩, machine := some l.number, cls := some l.cls, centre := some l.centre,
    price := some (vget s.billing.prices st.grade), fraction := some (vget s.billing.fractions l.cls) }

/-- Steps 11 and 12 of a read whose entry is ACTIVE after the pass operation, and acceptance (R33 to R36). -/
def spaceAndPreset (h : HoseId) (p : Profile) (st : Settings) (i : EntryId) (tag : TagId) (r : Option Nat) (s : State) :
    State :=
  if s.billing.full then s.refuseFound h .logFull tag i
  else
    let t := s.refill i
    let allowance := match (t.entry i).loaded.allowance with
      | some _ => (t.entry i).remaining
      | none => none
    let stock := (t.comp p.comp).issueAvail st
    let e := effectivePreset p.maxPreset allowance stock
    if e < p.minDelivery then t.refuseFound h (lowReason allowance stock) tag i
    else t.accept h (t.tagContext i p st e (limitFlags p.maxPreset allowance stock ||| flagIf r.isNone .noHours) r)

/-- Steps 8 to 10 of a read whose entry is found, ACTIVE and not busy (R27 to R30), then steps 11 and 12. -/
def testsAndStrikes (h : HoseId) (p : Profile) (st : Settings) (i : EntryId) (tag : TagId) (r : Option Nat) (s : State) :
    State :=
  let e := s.entry i
  match testA e.loaded st.grade p.classMask with
  | .wrongGrade => (s.applyStrike s.table.policy.aFail i).refuseFound h .wrongGrade tag i
  | .wrongClass => (s.applyStrike s.table.policy.aFail i).refuseFound h .wrongClass tag i
  | .pass =>
    if !testB e s.table.policy.maxJump r then
      (s.applyStrike s.table.policy.bFail i).refuseFound h .hoursCheck tag i
    else
      let t := s.applyStrike s.table.policy.pass i
      if (t.entry i).barred then t.refuseFound h .barred tag i
      else (t.setEntry i ((t.entry i).passed t.table.rollCall r)).spaceAndPreset h p st i tag r

/-- Steps 5 to 7 (R26), then the tests. A zero tag fails step 5 as UNKNOWN_TAG even where the store has lost an entry's tag to 0
and its walk ends there (R21, log entry 32). -/
def lookupTag (h : HoseId) (p : Profile) (st : Settings) (tag : TagId) (r : Option Nat) (s : State) : State :=
  let w := s.walkTag tag
  match w.1 with
  | .fault _ => w.2.authRefused h .tableFault (some tag) none none
  | .missing => w.2.authRefused h .unknownTag (some tag) none none
  | .found i _ =>
    if tag = 0#48 then w.2.authRefused h .unknownTag (some tag) none none
    else if (w.2.entry i).barred then w.2.refuseFound h .barred tag i
    else if (w.2.entry i).busy.isSome then w.2.refuseFound h .busyElsewhere tag i
    else w.2.testsAndStrikes h p st i tag r

/-- Step 3 (R25): the compartment's settings when hose h has a calibration and its compartment is configured. -/
def calibrated (s : State) (h : HoseId) (p : Profile) : Option Settings :=
  if (s.hose h).cal.isSome then (s.comp p.comp).settings else none

/-- The twelve steps of a read at hose h (R23). -/
def evaluateRead (h : HoseId) (tag : TagId) (r : Option Nat) (s : State) : State :=
  match (s.hose h).profile with
  | none => s
  | some p =>
    if (s.hose h).phase ≠ .idle ∨ p.mode ≠ .issue then s
    else match s.calibrated h p with
      | none => s.authRefused h .uncalibrated (some tag) none none
      | some st =>
        if s.siteStop then s.authRefused h .siteStopped (some tag) none none
        else s.lookupTag h p st tag r

/-- A TAG_READ at its hose, prepared (R21): quality 0 is ignored; a reading above 999,999 is no reading. -/
def tagReadEvent (h : HoseId) (tag : TagId) (hours : Word) (quality : Byte) (s : State) : State :=
  if quality = 0#8 then s
  else s.evaluateRead h tag (if hours.toNat ≤ Config.maxHours then some hours.toNat else none)

/-! ### MANUAL_AUTH and RECEIVE_START (R38 to R41) -/

/-- A 32-bit operand with its presence bit 0 (R181). -/
def presentRef (presence : Byte) (v : Word) : Option Nat := if presence.getLsbD 0 then some v.toNat else none

/-- MANUAL_AUTH from step 3 on, at an IDLE hose in ISSUE mode (R38, R39). -/
def manualEvaluate (h : HoseId) (p : Profile) (centre : CentreId) (cls : ClassId) (machine : Option Nat) (ref : Option Nat)
    (s : State) : State :=
  match s.calibrated h p with
  | none => s.authRefused h .uncalibrated none none none
  | some st =>
    if s.siteStop then s.authRefused h .siteStopped none none none
    else if s.billing.full then s.authRefused h .logFull none none none
    else
      let stock := (s.comp p.comp).issueAvail st
      let e := effectivePreset p.maxPreset none stock
      if e < p.minDelivery then s.authRefused h .lowStock none none none
      else s.accept h
        { freshContext .delivery st.grade p.comp s.table.period e
            (limitFlags p.maxPreset none stock ||| Flag.manual.mask) ref with
          machine := machine, cls := some cls, centre := some centre,
          price := some (vget s.billing.prices st.grade), fraction := some (vget s.billing.fractions cls) }

/-- A machine number operand: FFFF hex for absent; the outer none is out of range (R38, R181). -/
def machineOf (m : Half) : Option (Option Nat) :=
  if m = 0xFFFF#16 then some none else if m = 0#16 then none else some (some m.toNat)

/-- MANUAL_AUTH (R38): privilege, range, IDLE, ISSUE, then the evaluation. -/
def manualRequest (src : Node) (hose centre cls presence : Byte) (machine : Half) (reference : Word) (s : State) : State :=
  let refuse := fun (why : Reason) => s.requestRefused (some hose) why (some .manualAuth)
  if (s.levelOfNode src).code < Level.supervisor.code then refuse .privilege
  else match finOf 6 hose.toNat, finOf 64 centre.toNat, finOf 16 cls.toNat, machineOf machine with
    | some h, some z, some c, some m =>
      match (s.hose h).phase, (s.hose h).profile with
      | .idle, some p =>
        if p.mode ≠ .issue then refuse .wrongMode
        else s.manualEvaluate h p z c m (presentRef presence reference)
      | _, _ => refuse .hoseBusy
    | _, _, _, _ => refuse .range

/-- RECEIVE_START from step 3 on, at an IDLE hose in RECEIVE mode (R40, R41). -/
def receiveEvaluate (h : HoseId) (p : Profile) (volume : Nat) (ref : Option Nat) (s : State) : State :=
  match s.calibrated h p with
  | none => s.authRefused h .uncalibrated none none none
  | some st =>
    if s.siteStop then s.authRefused h .siteStopped none none none
    else if s.billing.full then s.authRefused h .logFull none none none
    else
      let avail := (s.comp p.comp).receiveAvail st
      let e := min volume avail
      if e < p.minDelivery then
        s.authRefused h (if avail ≤ volume then .lowUllage else .shortRequest) none none none
      else s.accept h
        (freshContext .receipt st.grade p.comp s.table.period e (flagIf (avail < volume) .ullageLimited) ref)

/-- RECEIVE_START (R40): privilege, range, IDLE, RECEIVE, then the evaluation. -/
def receiveRequest (src : Node) (hose : Byte) (volume : Word) (presence : Byte) (reference : Word) (s : State) : State :=
  let refuse := fun (why : Reason) => s.requestRefused (some hose) why (some .receiveStart)
  if (s.levelOfNode src).code < Level.supervisor.code then refuse .privilege
  else match finOf 6 hose.toNat with
    | some h =>
      if volume.toNat = 0 ∨ Config.maxVolume < volume.toNat then refuse .range
      else match (s.hose h).phase, (s.hose h).profile with
        | .idle, some p =>
          if p.mode ≠ .receive then refuse .wrongMode
          else s.receiveEvaluate h p volume.toNat (presentRef presence reference)
        | _, _ => refuse .hoseBusy
    | none => refuse .range

/-! ### Strike policy and roll call (R31, R42, R43) -/

/-- SET_STRIKE_POLICY's checks, effect and answer (R31). -/
def cmdSetStrikePolicy (f : PolicyForm) (s : State) : State × Reply :=
  if s.resp.tableProtect then (s, fail .protectedFlag)
  else match policyOf f with
    | none => (s, fail .range)
    | some p => (s.setTable { s.table with policy := p }, passAdj (f.maxJump == 0#16) p.bytes)

/-- ROLL_CALL START's effect and answer (R42): every sighted mark cleared, in use or free. -/
def cmdRollCallStart (s : State) : State × Reply :=
  (s.setTable { s.table with entries := vmap (fun e => { e with sighted := false }) s.table.entries, rollCall := true },
    passOk [])

/-- ROLL_CALL STOP's effect and answer (R42). -/
def cmdRollCallStop (s : State) : State × Reply := (s.setTable { s.table with rollCall := false }, passOk [])

/-- ROLL_CALL READ's check and answer (R43): it changes nothing. -/
def cmdRollCallRead (start : Half) (s : State) : State × Reply :=
  if start.toNat ≤ 511 then
    let got := ((ids 512).filter (fun i => start.toNat ≤ i.val && (s.entry i).inUse && (s.entry i).sighted)).take 60
    (s, passOk (beN 1 got.length ++ optN 2 (nextIndex got.getLast? (got.length < 60))
        ++ (got.map (fun i => beN 2 (s.entry i).loaded.number)).flatten))
  else (s, fail .range)

end State

/-! ### The meanings of the rows -/

/-- TAG_READ (R21 to R37, R144, R145): the form check fails for a quality of 4 to 255 (R182). -/
def execTagRead (a : Addr) (tag : TagId) (hours : Word) (quality : Byte) (s : State) : Host.Outcome State Fault Refusal :=
  .next (s.takeField a State.headOwner (quality.toNat ≤ 3) fun h t => t.tagReadEvent h tag hours quality)

/-- MANUAL_AUTH (R38, R39; SUPERVISOR). -/
def execManualAuth (a : Addr) (hose centre cls presence : Byte) (machine : Half) (reference : Word) (s : State) :
    Host.Outcome State Fault Refusal :=
  .next (s.takeOperator a fun t => t.manualRequest a.src hose centre cls presence machine reference)

/-- RECEIVE_START (R40, R41; SUPERVISOR). -/
def execReceiveStart (a : Addr) (hose : Byte) (volume : Word) (presence : Byte) (reference : Word) (s : State) :
    Host.Outcome State Fault Refusal :=
  .next (s.takeOperator a fun t => t.receiveRequest a.src hose volume presence reference)

/-- SET_STRIKE_POLICY (R31; SITE). -/
def execSetStrikePolicy (a : Addr) (form : PolicyForm) (s : State) : Host.Outcome State Fault Refusal :=
  .next (s.takeCommand a 17#8 .site (State.cmdSetStrikePolicy form))

/-- ROLL_CALL START (R42; SUPERVISOR). -/
def execRollCallStart (a : Addr) (s : State) : Host.Outcome State Fault Refusal :=
  .next (s.takeCommand a 18#8 .supervisor State.cmdRollCallStart)

/-- ROLL_CALL STOP (R42; SUPERVISOR). -/
def execRollCallStop (a : Addr) (s : State) : Host.Outcome State Fault Refusal :=
  .next (s.takeCommand a 18#8 .supervisor State.cmdRollCallStop)

/-- ROLL_CALL READ (R43; OPERATOR). -/
def execRollCallRead (a : Addr) (start : Half) (s : State) : Host.Outcome State Fault Refusal :=
  .next (s.takeCommand a 18#8 .operator (State.cmdRollCallRead start))

end Sys2Proof.Machine
end

