-- ==== Sys2Proof/Machine/Link.lean ====
section
/-! DEFINITION. The Frame Screen's carriage classes (chapter 8.4), and LOAD_FRAME_CLASS. -/

namespace Sys2Proof.Machine

namespace State

/-- Whether a guard holds for a payload at the state the screen takes the frame (R150). -/
def guardHolds (s : State) (g : Guard) (payload : List Byte) : Bool :=
  match g with
  | .always => true
  | .never => false
  | .hoseIdle =>
    match payload with
    | b :: _ => match finOf 6 b.toNat with
      | some h => (s.hose h).phase.atRest
      | none => false
    | [] => false
  | .allIdle => (ids 6).all fun h => (s.hose h).phase.atRest
  | .calOpen => !s.resp.calProtect

/-- The carriage entry of a class, none for a device class (R148). -/
def carriageEntry (s : State) (c : FrameClass) : Option CarriageEntry :=
  match finOf 51 (c.val - 13) with
  | some k => if 13 ≤ c.val then some (vget s.screen.table k) else none
  | none => none

/-- The four tests of a carriage frame (R149): addressing, direction, source, guard. -/
def carriagePasses (s : State) (p : Port) (f : Frame) (e : CarriageEntry) : Bool :=
  f.dest != 1
    && (match p with | .field => e.fieldToCab | .cab => e.cabToField)
    && e.sources.getLsbD f.src.val
    && s.guardHolds e.guard f.payload

/-- A passed carriage frame offered to the other port (R149, R153): queued and counted forwarded at the arrival port, or
dropped and counted at the other. -/
def forward (p : Port) (f : Frame) (s : State) : State :=
  let room := (s.port p.other).room
  let t := s.setPort p.other ((s.port p.other).offerOrdinary f)
  if room then t.setPort p { t.port p with forwarded := satAdd Config.max32 (t.port p).forwarded 1 } else t

/-- A good carriage-class frame at a port (R141, R142, R149): the source test first, then the four tests. -/
def carriageArrival (p : Port) (f : Frame) (s : State) : State :=
  let t := s.countGood p
  if f.src.val < 2 then t.countScreened p
  else match t.carriageEntry f.cls with
    | none => t.countScreened p
    | some e => if t.carriagePasses p f e then t.forward p f else t.countScreened p

/-- LOAD_FRAME_CLASS's checks, effect and answer (R152). -/
def cmdLoadFrameClass (cls : Byte) (f : CarriageForm) (s : State) : State × Reply :=
  if s.resp.tableProtect then (s, fail .protectedFlag)
  else if cls.toNat < 13 then (s, fail .range)
  else match finOf 51 (cls.toNat - 13), carriageOf f with
    | some k, some e =>
      (s.setScreen { s.screen with table := vset s.screen.table k e }, passAdj (e.sources != f.sources) e.bytes)
    | _, _ => (s, fail .range)

end State

/-! ### The meanings of the rows -/

/-- LOAD_FRAME_CLASS (R152; SITE). -/
def execLoadFrameClass (a : Addr) (cls : Byte) (form : CarriageForm) (s : State) : Host.Outcome State Fault Refusal :=
  .next (s.takeCommand a 37#8 .site (State.cmdLoadFrameClass cls form))

end Sys2Proof.Machine
end

