-- ==== Sys2Proof/Machine/Management.lean ====
section
/-! DEFINITION. The Management Responder's own commands (chapter 9): IDENTIFY, STATUS and its counter clear, SET_CLOCK,
SET_PRIVILEGE, SET_PROTECTION, DIGEST, QUERY_EMPTY, WIPE and RESTART. -/

namespace Sys2Proof.Machine

namespace State

/-! ### IDENTIFY (R170) -/

/-- The 99 bytes of IDENTIFY's answer (10.5). The revision has no value in the manual (log entry 14). -/
def identity (s : State) : List Byte :=
  beN 2 Config.vendorCode ++ beN 2 Config.partCode ++ [Config.revision] ++ (Config.capacities.map (beN 2)).flatten
    ++ beN 1 s.resp.straps.val ++ [protectionSet s.resp.calProtect s.resp.tableProtect] ++ beN 2 s.calCounter
    ++ (s.billing.prices.toList.map (beN 4)).flatten ++ (s.billing.fractions.toList.map (beN 2)).flatten
    ++ s.table.policy.bytes

/-- IDENTIFY's answer (R170). -/
def cmdIdentify (s : State) : State × Reply := (s, passOk s.identity)

/-! ### STATUS (R171, R172, 10.7) -/

/-- The GENERAL section, 30 bytes. -/
def generalSection (s : State) : List Byte :=
  be4 s.resp.clock ++ [bitsByte [(s.resp.clockSet, 0), (s.siteStop, 1), (s.table.rollCall, 2)]]
    ++ be2 s.att.causes ++ beN 1 s.att.state.code ++ be4 s.table.period ++ beN 2 s.table.faults
    ++ beN 2 s.inUseCount ++ beN 2 s.table.free.length ++ beN 2 s.billing.storedCount ++ beN 1 s.billing.reserved
    ++ beN 4 s.billing.oldestSeq ++ beN 4 s.billing.nextSeq ++ [protectionSet s.resp.calProtect s.resp.tableProtect]

/-- The context fields of the HOSE section, 22 bytes: zeros where no context is held. -/
def contextFields (c : Option Context) : List Byte :=
  match c with
  | none => List.replicate 22 0#8
  | some c =>
    [(match c.kind with | .delivery => 1#8 | .receipt => 2#8) ||| (if c.startTime.isSome then 0x80#8 else 0#8)]
      ++ optN 2 c.machine ++ beN 4 c.preset ++ beN 4 c.gross ++ beN 4 c.net ++ be2 (c.flags &&& 0x1FFF#16)
      ++ beN 1 ((c.endCause.map EndCause.code).getD 0) ++ optWord c.startTime

/-- The HOSE section, 58 bytes. -/
def hoseSection (s : State) (h : HoseId) : List Byte :=
  let x := s.hose h
  beN 1 h.val ++ presentForm 27 (x.profile.map Profile.bytes) ++ beN 1 x.phase.code ++ beN 1 x.nozzle.code
    ++ beN 1 (holdMarkCode x.mark) ++ beN 4 x.unbilled ++ contextFields x.ctx

/-- The COMPARTMENT section, 61 bytes (R91, R106): zeros after the presence byte while unconfigured. -/
def compSection (s : State) (c : CompId) : List Byte :=
  let x := s.comp c
  beN 1 c.val
    ++ [bitsByte [(x.settings.isSome, 0), (x.lastReading.isSome, 1), (x.orderRef.isSome, 2), (x.requestTime.isSome, 3),
          (x.varFlag, 4)]]
    ++ (match x.settings with
      | none => List.replicate 59 0#8
      | some st =>
        beN 1 x.restock.code ++ beN 1 st.grade.val ++ be48 (BitVec.ofInt 48 x.book) ++ be48 (BitVec.ofInt 48 x.base)
          ++ be48 (BitVec.ofInt 48 x.unattributed) ++ beN 4 x.committedIssue ++ beN 4 x.committedReceive
          ++ be48 (BitVec.ofInt 48 (s.signed48 (x.issueAvail st))) ++ be48 (BitVec.ofInt 48 (s.signed48 (x.receiveAvail st)))
          ++ beN 4 (x.lastReading.getD 0) ++ optWord x.readingTime ++ beN 2 x.probeFaults ++ beN 1 x.varCount
          ++ optWord x.orderRef ++ optWord x.requestTime)

/-- A port's five counters, 20 bytes (R158). -/
def portCounters (q : PortState) : List Byte :=
  beN 4 q.good ++ beN 4 q.bad ++ beN 4 q.screened ++ beN 4 q.forwarded ++ beN 4 q.dropped

/-- The LINK section, 48 bytes. -/
def linkSection (s : State) : List Byte :=
  portCounters s.field ++ portCounters s.cab ++ beN 4 s.screen.misdirected ++ beN 4 s.screen.stray

/-- The NODES section, 32 bytes. -/
def nodesSection (s : State) : List Byte := s.resp.levels.toList.map (fun l => BitVec.ofNat 8 l.code)

/-- A STATUS section by its code and number, none where R171 refuses RANGE. -/
def statusSection (s : State) (sect number : Byte) : Option (List Byte) :=
  if sect = 1#8 then some s.generalSection
  else if sect = 2#8 then (finOf 6 number.toNat).map s.hoseSection
  else if sect = 3#8 then (finOf 4 number.toNat).map s.compSection
  else if sect = 4#8 then some s.linkSection
  else if sect = 5#8 then some s.nodesSection
  else none

/-- STATUS's answer without the counter-clear option (R171, R184): it changes nothing. -/
def cmdStatus (sect number option : Byte) (s : State) : State × Reply :=
  if 1 < option.toNat then (s, fail .range)
  else match s.statusSection sect number with
    | none => (s, fail .range)
    | some data => (s, passOk data)

/-- Every counter the counter-clear option covers set to 0 (R172). -/
def clearAllCounters (s : State) : State :=
  ((((s.setFieldPort s.field.clearCounters).setCabPort s.cab.clearCounters).setScreen
    { s.screen with misdirected := 0, stray := 0 }).setComps (vmap (fun c => { c with probeFaults := 0 }) s.comps)).setHoses
      (vmap (fun x => { x with unbilled := 0 }) s.hoses)

/-- STATUS with counter clear: the section as it stood, then the clear (R172); a refused section clears nothing. -/
def cmdStatusCounterClear (sect number : Byte) (s : State) : State × Reply :=
  match s.statusSection sect number with
  | none => (s, fail .range)
  | some data => (s.clearAllCounters, passOk data)

/-! ### Clock, privilege and protection (R165, R167, R169) -/

/-- SET_CLOCK's effect and answer (R169). -/
def cmdSetClock (seconds : Word) (s : State) : State × Reply :=
  (s.setResp { s.resp with clock := seconds, clockSet := true }, passOk (be4 seconds))

/-- Whether a node is the one node at SITE (R165). -/
def onlySite (s : State) (n : Node) : Bool :=
  s.levelOfNode n == .site && (ids 32).all fun k => k == n || s.levelOfNode k != .site

/-- SET_PRIVILEGE's checks, effect and answer (R165). -/
def cmdSetPrivilege (node level : Byte) (s : State) : State × Reply :=
  match finOf 32 node.toNat, levelOf level with
  | some n, some l =>
    if n.val < 2 then (s, fail .range)
    else if s.onlySite n && l != .site then (s, fail .state)
    else (s.setResp { s.resp with levels := vset s.resp.levels n l }, passOk [node, level])
  | _, _ => (s, fail .range)

/-- SET_PROTECTION's checks, effect and answer (R167). -/
def cmdSetProtection (flags : Byte) (s : State) : State × Reply :=
  if flags &&& 0xFC#8 ≠ 0#8 then (s, fail .range)
  else if (s.resp.calProtect && !flags.getLsbD 0) || (s.resp.tableProtect && !flags.getLsbD 1) then
    (s, fail .protectedFlag)
  else
    let t := s.setResp { s.resp with calProtect := flags.getLsbD 0, tableProtect := flags.getLsbD 1 }
    (t, passOk [protectionSet t.resp.calProtect t.resp.tableProtect])

/-! ### DIGEST (R173, R185) -/

/-- The in-use entries' load forms in ascending index order. -/
def machineForms (s : State) : List (List Byte) :=
  ((ids 512).filter (fun i => (s.entry i).inUse)).map (fun i => (s.entry i).loaded.bytes)

/-- The bytes a digest covers, in order (R185). -/
def digestBytes (s : State) : Selector → List Byte
  | .machines => s.machineForms.flatten
  | .tariff =>
    (s.billing.prices.toList.map (beN 4)).flatten ++ (s.billing.fractions.toList.map (beN 2)).flatten
      ++ s.table.policy.bytes
  | .calibration =>
    (s.hoses.toList.map (fun x => presentForm 28 (x.cal.map Calibration.bytes))).flatten
      ++ (s.betas.toList.map (beN 2)).flatten
  | .carriage => (s.screen.table.toList.map CarriageEntry.bytes).flatten
  | .hoses => (s.hoses.toList.map (fun x => presentForm 27 (x.profile.map Profile.bytes))).flatten
  | .compartments => (s.comps.toList.map (fun c => presentForm 27 (c.settings.map Settings.bytes))).flatten

/-- The item count of a digest's answer (R185). -/
def digestCount (s : State) : Selector → Nat
  | .machines => s.inUseCount
  | .tariff => 25
  | .calibration => 14
  | .carriage => 51
  | .hoses => 6
  | .compartments => 4

/-- The data of a DIGEST's answer: selector, CRC, item count (R173). -/
def digestData (s : State) (x : Selector) : List Byte :=
  beN 1 x.code ++ be2 (crc16 (s.digestBytes x)) ++ beN 2 (s.digestCount x)

/-- DIGEST's check; an accepted one is in flight (R173, R160). -/
def cmdDigest (node : Node) (selector : Byte) (s : State) : State × Reply :=
  match selectorOf selector with
  | none => (s, fail .range)
  | some x => (s.setResp { s.resp with inFlight := some (.digest node x) }, .later)

/-! ### QUERY_EMPTY, WIPE and RESTART (R175 to R178) -/

/-- Whether what a QUERY_EMPTY selector names is empty; none for an unlisted selector (R175). -/
def isEmpty (s : State) (selector : Byte) : Option Bool :=
  if selector = 1#8 then some (s.inUseCount == 0)
  else if selector = 2#8 then some (s.billing.storedCount == 0)
  else if selector = 3#8 then some (!s.anyHose (fun x => x.cal.isSome) && s.betas.toList.all (fun b => b == 0))
  else none

/-- QUERY_EMPTY's answer (R175): it changes nothing. -/
def cmdQueryEmpty (selector : Byte) (s : State) : State × Reply :=
  match s.isEmpty selector with
  | none => (s, fail .range)
  | some e => (s, passOk [selector, if e then 0#8 else 1#8])

/-- The site tables returned to their empty state (R177). -/
def wiped (s : State) : State :=
  ((((((s.setTable { Table.cold with period := s.table.period }).setHoses (Vector.replicate 6 Hose.cold)).setBetas
    (Vector.replicate 8 0)).setComps (Vector.replicate 4 Compartment.cold)).setBilling
      { Billing.cold with oldestIndex := s.billing.oldestIndex, nextSeq := s.billing.nextSeq }).setScreen
        { s.screen with table := Vector.replicate 51 CarriageEntry.cold }).setResp
          { s.resp with calProtect := false, tableProtect := false }

/-- WIPE's checks, effect and answer (R176, R177). -/
def cmdWipe (s : State) : State × Reply :=
  if s.billing.storedCount ≠ 0 then (s, fail .logNotEmpty)
  else if s.anyHose (fun x => !x.phase.atRest) then (s, fail .busy)
  else (s.wiped, passOk [])

/-- RESTART's answer, whose sending leads to a start-up (R178). -/
def cmdRestart (s : State) : State × Reply := (s, .restart)

end State

/-! ### The meanings of the rows -/

/-- IDENTIFY (R170; NONE). -/
def execIdentify (a : Addr) (s : State) : Host.Outcome State Fault Refusal :=
  .next (s.takeCommand a 1#8 .none State.cmdIdentify)

/-- STATUS (R171; OPERATOR). Option 1 is the row STATUS_COUNTER_CLEAR; on the ill-formed term that carries it, the command
is that one (R163: the minimum depends on the option). -/
def execStatus (a : Addr) (sect number option : Byte) (s : State) : Host.Outcome State Fault Refusal :=
  .next (if option = 1#8 then s.takeCommand a 2#8 .supervisor (State.cmdStatusCounterClear sect number)
    else s.takeCommand a 2#8 .operator (State.cmdStatus sect number option))

/-- STATUS with counter clear (R172; SUPERVISOR). -/
def execStatusCounterClear (a : Addr) (sect number : Byte) (s : State) : Host.Outcome State Fault Refusal :=
  .next (s.takeCommand a 2#8 .supervisor (State.cmdStatusCounterClear sect number))

/-- SET_CLOCK (R169; SITE). -/
def execSetClock (a : Addr) (seconds : Word) (s : State) : Host.Outcome State Fault Refusal :=
  .next (s.takeCommand a 3#8 .site (State.cmdSetClock seconds))

/-- SET_PRIVILEGE (R165; SITE). -/
def execSetPrivilege (a : Addr) (node level : Byte) (s : State) : Host.Outcome State Fault Refusal :=
  .next (s.takeCommand a 4#8 .site (State.cmdSetPrivilege node level))

/-- SET_PROTECTION (R167; SITE). -/
def execSetProtection (a : Addr) (flags : Byte) (s : State) : Host.Outcome State Fault Refusal :=
  .next (s.takeCommand a 5#8 .site (State.cmdSetProtection flags))

/-- DIGEST (R173; SUPERVISOR). -/
def execDigest (a : Addr) (selector : Byte) (s : State) : Host.Outcome State Fault Refusal :=
  .next (s.takeCommand a 6#8 .supervisor (State.cmdDigest a.src selector))

/-- DIGEST_DONE (R173): the last byte is taken into the CRC, DIGEST is answered to its sender and is no longer in flight
(R160, log entry 5). With no DIGEST in flight nothing ends (log entry 6). -/
def execDigestDone (s : State) : Host.Outcome State Fault Refusal :=
  .next (match s.power.main, s.resp.inFlight with
    | true, some (.digest node x) =>
      (s.setResp { s.resp with inFlight := none }).answer node .pass 6#8 .ok (s.digestData x)
    | _, _ => s)

/-- QUERY_EMPTY (R175; OPERATOR). -/
def execQueryEmpty (a : Addr) (selector : Byte) (s : State) : Host.Outcome State Fault Refusal :=
  .next (s.takeCommand a 7#8 .operator (State.cmdQueryEmpty selector))

/-- WIPE (R176, R177; SITE). -/
def execWipe (a : Addr) (s : State) : Host.Outcome State Fault Refusal :=
  .next (s.takeCommand a 8#8 .site State.cmdWipe)

/-- RESTART (R178; SITE). -/
def execRestart (a : Addr) (s : State) : Host.Outcome State Fault Refusal :=
  .next (s.takeCommand a 9#8 .site State.cmdRestart)

end Sys2Proof.Machine
end

