-- ==== Sys2Proof/Machine/Stock.lean ====
section
/-! DEFINITION. The Compartment Inventory's rows (chapter 5): PROBE with the variance and overfill checks, LOAD_COMPARTMENT,
ACK_RESTOCK, SET_STOCK and RECONCILE. -/

namespace Sys2Proof.Machine

namespace State

/-! ### Probe readings (R92 to R95) -/

/-- Whether a hose drawing on a compartment is in an execution phase (R93, R102, R103). -/
def executingOn (s : State) (c : CompId) : Bool := s.anyHose fun x => x.drawsOn c && x.phase.executing

/-- The variance check of an OK reading, paused while a hose drawing on the compartment executes (R93). -/
def varianceCheck (c : CompId) (st : Settings) (reading : Nat) (s : State) : State :=
  if s.executingOn c then s
  else
    let x := s.comp c
    if (x.book - reading).natAbs ≤ st.tolerance then s.setComp c { x with varCount := 0 }
    else
      let n := x.varCount + 1
      let t := s.setComp c { x with varCount := min n 15, varFlag := x.varFlag || st.limit ≤ n }
      if st.limit ≤ n && !x.varFlag then t.setCause .variance else t

/-- The overfill stop at one hose (R57, R95): a flowing receipt drawing on the compartment enters CLOSING. -/
def overfillHose (c : CompId) (h : HoseId) (acc : Bool × State) : Bool × State :=
  let x := acc.2.hose h
  let receipt := match x.ctx with | some k => k.kind == .receipt | none => false
  if x.drawsOn c && receipt && x.phase.flowing then (true, acc.2.enterClosing h .overfillStop) else acc

/-- The overfill check of an OK reading (R95, R187): the stops in ascending hose number, then OVERFILL where one stopped. -/
def overfillCheck (c : CompId) (st : Settings) (reading : Nat) (s : State) : State :=
  if reading < st.high then s
  else
    let r := (ids 6).foldl (fun acc h => overfillHose c h acc) (false, s)
    if r.1 then r.2.setCause .overfill else r.2

/-- A PROBE at its compartment (R92): status 1 is FAULT, 0 OK. -/
def probeEvent (c : CompId) (volume : Word) (status : Byte) (s : State) : State :=
  if status = 1#8 then
    s.setComp c { s.comp c with probeFaults := satAdd Config.max16 (s.comp c).probeFaults 1 }
  else
    match (s.comp c).settings with
    | none => s
    | some st =>
      let t := s.setComp c { s.comp c with lastReading := some volume.toNat, readingTime := some s.resp.clock }
      (t.varianceCheck c st volume.toNat).overfillCheck c st volume.toNat

/-! ### LOAD_COMPARTMENT (R99 to R101) -/

/-- Whether a probe node is a loaded profile's head node or another compartment's probe node (R99). -/
def probeNodeTaken (s : State) (c : CompId) (n : Option Node) : Bool :=
  match n with
  | none => false
  | some n =>
    (s.headOwner n).isSome || (ids 4).any fun k =>
      k != c && (match (s.comp k).settings with | some st => st.probe == some n | none => false)

/-- Whether a change of grade is forbidden: configured with another grade, and a hose drawing on the compartment is active
(R99). -/
def gradeBusy (s : State) (c : CompId) (g : Grade) : Bool :=
  match (s.comp c).settings with
  | some st => st.grade != g && s.anyHose fun x => x.drawsOn c && x.phase.active
  | none => false

/-- The record with its settings replaced (R101). -/
def loadedComp (x : Compartment) (st : Settings) : Compartment :=
  match x.settings with
  | some old =>
    if old.probe = st.probe then { x with settings := some st }
    else { x with settings := some st, lastReading := none, readingTime := none, varCount := 0 }
  | none => { Compartment.cold with settings := some st }

/-- LOAD_COMPARTMENT's checks, effect and answer (R99 to R101). -/
def cmdLoadCompartment (comp : Byte) (f : CompForm) (s : State) : State × Reply :=
  match finOf 4 comp.toNat, finOf 8 f.grade.toNat, probeOf f.probe with
  | some c, some g, some n =>
    if s.probeNodeTaken c n || f.capacity.toNat == 0 || Config.maxVolume < f.capacity.toNat then (s, fail .range)
    else if s.gradeBusy c g then (s, fail .busy)
    else
      let st := settingsOf g n f
      ((s.setComp c (loadedComp (s.comp c) st)).judge c, passAdj (settingsAdjusted g n f) st.bytes)
  | _, _, _ => (s, fail .range)

/-! ### ACK_RESTOCK, SET_STOCK and RECONCILE (R98, R102 to R104) -/

/-- ACK_RESTOCK's checks, effect and answer (R98). -/
def cmdAckRestock (comp : Byte) (reference : Word) (s : State) : State × Reply :=
  match finOf 4 comp.toNat with
  | none => (s, fail .range)
  | some c =>
    match (s.comp c).settings, (s.comp c).restock with
    | none, _ => (s, fail .state)
    | some _, .normal => (s, fail .state)
    | some _, _ => (s.setComp c { s.comp c with restock := .ordered, orderRef := some reference }, passOk [])

/-- SET_STOCK's checks, effect and answer (R102). -/
def cmdSetStock (comp : Byte) (volume : Word) (s : State) : State × Reply :=
  match finOf 4 comp.toNat with
  | none => (s, fail .range)
  | some c =>
    match (s.comp c).settings with
    | none => (s, fail .state)
    | some st =>
      if st.capacity < volume.toNat then (s, fail .range)
      else if s.executingOn c then (s, fail .busy)
      else (s.resetBook c volume.toNat, passOk [])

/-- The ADJUSTMENT record of an accepted RECONCILE (R104). -/
def adjustmentRecord (s : State) (c : CompId) (st : Settings) (reading : Nat) : Record :=
  let x := s.comp c
  { seq := s.billing.nextSeq, kind := .adjustment, endCause := .reconciled,
    flags := flagIf (!s.resp.clockSet) .clockUnset, hose := none, comp := c, grade := st.grade, cls := none, centre := none,
    machine := none, tag := none, period := s.table.period, startTime := x.readingTime.getD 0, endTime := s.resp.clock,
    gross := x.unattributed, net := s.signed48 ((reading : Int) - x.book), lastTemp := none, calCounter := s.calCounter,
    amount := none, hoursRef := none }

/-- RECONCILE's checks, effect and answer (R103, R104, R117, R118): the record posted, LOG_HIGH where the level rose to 960,
then the book and its companions reset and the restock state judged. -/
def cmdReconcile (comp : Byte) (s : State) : State × Reply :=
  match finOf 4 comp.toNat with
  | none => (s, fail .range)
  | some c =>
    match (s.comp c).settings with
    | none => (s, fail .state)
    | some st =>
      if s.executingOn c then (s, fail .busy)
      else match (s.comp c).lastReading with
        | none => (s, fail .state)
        | some reading =>
          if s.billing.full then (s, fail .logFull)
          else
            let r := s.adjustmentRecord c st reading
            let t := ((s.setBilling (s.billing.postAdjustment r)).drawFor ((reading : Int) - (s.comp c).book)).levelRaised
              s.billing.level
            (t.resetBook c reading, passOk (beN 4 r.seq ++ be48 (BitVec.ofInt 48 r.net)))

end State

/-! ### The meanings of the rows -/

/-- PROBE (R92 to R95, R144, R145): the form check fails for a status of 2 to 255 (R182). -/
def execProbe (a : Addr) (volume : Word) (status : Byte) (s : State) : Host.Outcome State Fault Refusal :=
  .next (s.takeField a State.probeOwner (status.toNat ≤ 1) fun c t => t.probeEvent c volume status)

/-- LOAD_COMPARTMENT (R99 to R101; SITE). -/
def execLoadCompartment (a : Addr) (comp : Byte) (form : CompForm) (s : State) : Host.Outcome State Fault Refusal :=
  .next (s.takeCommand a 25#8 .site (State.cmdLoadCompartment comp form))

/-- ACK_RESTOCK (R98; SUPERVISOR). -/
def execAckRestock (a : Addr) (comp : Byte) (reference : Word) (s : State) : Host.Outcome State Fault Refusal :=
  .next (s.takeCommand a 26#8 .supervisor (State.cmdAckRestock comp reference))

/-- SET_STOCK (R102; SUPERVISOR). -/
def execSetStock (a : Addr) (comp : Byte) (volume : Word) (s : State) : Host.Outcome State Fault Refusal :=
  .next (s.takeCommand a 27#8 .supervisor (State.cmdSetStock comp volume))

/-- RECONCILE (R103, R104; SUPERVISOR). -/
def execReconcile (a : Addr) (comp : Byte) (s : State) : Host.Outcome State Fault Refusal :=
  .next (s.takeCommand a 28#8 .supervisor (State.cmdReconcile comp))

end Sys2Proof.Machine
end

