-- ==== Sys2Proof/WellFormed.lean ====
section
/-! DEFINITION. Which terms of Instr are frames or events of the kind their row names: a frame's payload is at most 128 bytes
and its class suits the row; a bad frame fails the receiver's check; a malformed request or command is one. Every field of a
decoded row may hold every value, since the part's own checks judge it. exec has a meaning on ill-formed terms too (log
entry 3). -/

namespace Sys2Proof

/-- A payload a good frame can carry (R139). -/
def payloadOk (pl : List Byte) : Bool := pl.length ≤ Config.maxPayload

/-- The well-formed commands. -/
def Instr.wf : Instr → Bool
  | .badFrame _ bytes => (parseFrame bytes).isNone
  | .screenDrop _ f => f.cls.val ≤ 12 && payloadOk f.payload
  | .carriageFrame _ f => 13 ≤ f.cls.val && payloadOk f.payload
  | .malformedRequest a pl => payloadOk pl && requestInstr a pl == .malformedRequest a pl
  | .malformedCommand a pl => payloadOk pl && commandInstr a pl == .malformedCommand a pl
  | .status _ _ _ option => option != 1#8
  | _ => true

end Sys2Proof
end

