-- ==== Sys2Proof/Machine/Receive.lean ====
section
/-! DEFINITION. The reception of a whole frame (8.1 to 8.4): the receiver's check, the screen's drops, the hand-off of a
device frame to its owner, and the rows that carry a raw frame or payload: BAD_FRAME, SCREEN_DROP, CARRIAGE_FRAME,
MALFORMED_REQUEST and MALFORMED_COMMAND. Whatever such a row carries, the part itself decides the frame's fate (log entry
3). -/

namespace Sys2Proof.Machine

namespace State

/-! ### Drops by the screen (R141 to R145) -/

/-- Whether a device-class frame at a port is misdirected (R143). -/
def misdirected (p : Port) (f : Frame) : Bool :=
  match p with
  | .field => !(f.cls.val ≤ 4 && f.dest.val < 2)
  | .cab => !((f.cls.val == 6 && f.dest.val < 2) || (f.cls.val == 11 && f.dest == 1))

/-- Whether a field device frame's source node has an owner of the frame's kind (R144). -/
def ownedField (s : State) (f : Frame) : Bool :=
  if f.cls.val = 3 then (s.probeOwner f.src).isSome else (s.headOwner f.src).isSome

/-- A good device-class frame whose class, port or payload length fits no row of its own: the source test, the tests of R143,
the owner of R144, and the failed form check of R145, in that order. -/
def dropFrame (p : Port) (f : Frame) (s : State) : State :=
  if s.power.main then
    let t := s.countGood p
    if f.src.val < 2 then t.dropStray p
    else if misdirected p f then t.dropMisdirected p
    else if t.ownedField f then t.countScreened p
    else t.dropStray p
  else s

/-! ### Malformed requests and commands (R164, R159, R182, R184) -/

/-- A malformed OPERATOR frame refused by the responder: hose and kind absent (R164, 10.2). -/
def refuseRequest (a : Addr) : State → State := takeOperator a fun s => s.requestRefused none .malformed none

/-- A MGMT_COMMAND that fails the form check: NACK RANGE with the code as received, 0 where there is none, even while a
command is in flight (R159, R161). A ROLL_CALL option of 3 to 255 passes the form check and is refused FAIL RANGE at
OPERATOR (R163, R184). -/
def refuseCommand (a : Addr) (payload : List Byte) : State → State :=
  if oddRollCall payload then takeCommand a 18#8 .operator fun s => (s, fail .range)
  else takeMgmt a fun s => s.answer a.src .nack (payload.headD 0#8) .range []

/-- A carriage frame at a powered part (R149). -/
def takeCarriage (p : Port) (f : Frame) (s : State) : State := if s.power.main then s.carriageArrival p f else s

end State

/-! ### The hand-off -/

/-- A good frame, read as its row, handed to its owner. Rows that are no frame have no hand-off. -/
def handOff (i : Instr) (s : State) : Host.Outcome State Fault Refusal :=
  match i with
  | .badFrame _ _ => .next s
  | .screenDrop p f => .next (s.dropFrame p f)
  | .carriageFrame p f => .next (s.takeCarriage p f)
  | .tagRead a tag hours quality => execTagRead a tag hours quality s
  | .nozzle a value => execNozzle a value s
  | .meterSample a seq total temp => execMeterSample a seq total temp s
  | .headStatus a code => execHeadStatus a code s
  | .probe a volume status => execProbe a volume status s
  | .post a hose => execPost a hose s
  | .hold a hose => execHold a hose s
  | .resume a hose => execResume a hose s
  | .stop a hose => execStop a hose s
  | .emergencyStop a => execEmergencyStop a s
  | .manualAuth a hose centre cls presence machine reference => execManualAuth a hose centre cls presence machine reference s
  | .receiveStart a hose volume presence reference => execReceiveStart a hose volume presence reference s
  | .malformedRequest a _ => .next (s.refuseRequest a)
  | .authWindowExpiry _ => .next s
  | .noFlowExpiry _ => .next s
  | .meterSilenceExpiry _ => .next s
  | .settleExpiry _ => .next s
  | .postDelayExpiry _ => .next s
  | .holdLimitExpiry _ => .next s
  | .frameSent _ => .next s
  | .startUp _ => .next s
  | .malformedCommand a payload => .next (s.refuseCommand a payload)
  | .identify a => execIdentify a s
  | .status a sect number option => execStatus a sect number option s
  | .statusCounterClear a sect number => execStatusCounterClear a sect number s
  | .setClock a seconds => execSetClock a seconds s
  | .setPrivilege a node level => execSetPrivilege a node level s
  | .setProtection a flags => execSetProtection a flags s
  | .digest a selector => execDigest a selector s
  | .digestDone => .next s
  | .queryEmpty a selector => execQueryEmpty a selector s
  | .wipe a => execWipe a s
  | .restart a => execRestart a s
  | .loadMachine a form => execLoadMachine a form s
  | .deleteMachine a tag => execDeleteMachine a tag s
  | .readMachineByTag a tag => execReadMachineByTag a tag s
  | .readMachineByIndex a start => execReadMachineByIndex a start s
  | .setAllowance a tag volume => execSetAllowance a tag volume s
  | .clearStrikes a tag => execClearStrikes a tag s
  | .openPeriod a => execOpenPeriod a s
  | .sweep a => execSweep a s
  | .sweepDone => .next s
  | .setStrikePolicy a form => execSetStrikePolicy a form s
  | .rollCallStart a => execRollCallStart a s
  | .rollCallStop a => execRollCallStop a s
  | .rollCallRead a start => execRollCallRead a start s
  | .loadHoseProfile a hose form => execLoadHoseProfile a hose form s
  | .siteStop a => execSiteStop a s
  | .siteResume a => execSiteResume a s
  | .loadCalibration a hose form => execLoadCalibration a hose form s
  | .loadGrade a grade beta => execLoadGrade a grade beta s
  | .loadCompartment a comp form => execLoadCompartment a comp form s
  | .ackRestock a comp reference => execAckRestock a comp reference s
  | .setStock a comp volume => execSetStock a comp volume s
  | .reconcile a comp => execReconcile a comp s
  | .loadTariff a prices => execLoadTariff a prices s
  | .loadClassRate a cls fraction => execLoadClassRate a cls fraction s
  | .readLog a seq => execReadLog a seq s
  | .releaseLog a seq => execReleaseLog a seq s
  | .readCentres a start option => execReadCentres a start option s
  | .clearCentres a centre => execClearCentres a centre s
  | .rearm a causes => execRearm a causes s
  | .loadFrameClass a cls form => execLoadFrameClass a cls form s
  | .siteClockSecond => .next s
  | .mainSupplyLoss => .next s
  | .retentionSupplyFailure => .next s
  | .storeValueLost _ _ => .next s

/-- A frame delivered whole at a port whose envelope is in range (R139): one with a payload above 128 bytes is bad. -/
def receiveFrame (p : Port) (f : Frame) (s : State) : Host.Outcome State Fault Refusal :=
  if payloadOk f.payload then handOff (frameInstr p f) s else .next (if s.power.main then s.countBad p else s)

/-! ### The meanings of the rows -/

/-- BAD_FRAME (R139): dropped and counted. Bytes that pass the check are a good frame and are taken as one. -/
def execBadFrame (p : Port) (bytes : List Byte) (s : State) : Host.Outcome State Fault Refusal :=
  match parseFrame bytes with
  | none => .next (if s.power.main then s.countBad p else s)
  | some f => receiveFrame p f s

/-- SCREEN_DROP (R141 to R147). -/
def execScreenDrop (p : Port) (f : Frame) (s : State) : Host.Outcome State Fault Refusal := receiveFrame p f s

/-- CARRIAGE_FRAME (R149 to R151). -/
def execCarriageFrame (p : Port) (f : Frame) (s : State) : Host.Outcome State Fault Refusal := receiveFrame p f s

/-- MALFORMED_REQUEST (R164, R182): an OPERATOR frame at the cab port. -/
def execMalformedRequest (a : Addr) (payload : List Byte) (s : State) : Host.Outcome State Fault Refusal :=
  receiveFrame .cab ⟨a.dest, a.src, 6, payload⟩ s

/-- MALFORMED_COMMAND (R159, R161, R184): a MGMT_COMMAND frame at the cab port. -/
def execMalformedCommand (a : Addr) (payload : List Byte) (s : State) : Host.Outcome State Fault Refusal :=
  receiveFrame .cab ⟨a.dest, a.src, 11, payload⟩ s

end Sys2Proof.Machine
end

