-- ==== Sys2Proof/Machine/StartUp.lean ====
section
/-! DEFINITION. Supplies, clock and start-up (chapters 3.10, 9.5 and 9.9): SITE_CLOCK_SECOND, MAIN_SUPPLY_LOSS,
RETENTION_SUPPLY_FAILURE, START_UP with its cold and warm starts, and FRAME_SENT, which starts the part anew when it reports
the answer of a RESTART (8.5, R178). -/

namespace Sys2Proof.Machine

/-- The privilege table of a cold start: the strap node at SITE, every other node and nodes 0 and 1 at NONE (R162). -/
def coldLevels (straps : Node) : Vector Level 32 :=
  if straps.val < 2 then Vector.replicate 32 .none else vset (Vector.replicate 32 .none) straps .site

namespace State

/-- Every item of every block at its cold value, with the straps as read (R180): the queue of waiting commands and the draw
counter are the model's own and stay. The Attention Unit stands ARMED with an empty set, about to fire. -/
def coldItems (straps : Node) (s : State) : State :=
  { table := .cold, hoses := Vector.replicate 6 .cold, siteStop := false, betas := Vector.replicate 8 0, calCounter := 0,
    comps := Vector.replicate 4 .cold, billing := .cold, att := ⟨0#16, .armed⟩, field := .cold, cab := .cold,
    screen := .cold, resp := { Responder.cold straps with levels := coldLevels straps },
    power := ⟨true, true, 0, straps⟩, pending := s.pending, draws := s.draws }

/-- A cold start (R180, R137). -/
def coldStart (straps : Node) (s : State) : State := (s.coldItems straps).setCause .retentionLost

/-- Step 1 of a warm start (R180, R157): queues emptied, transmissions abandoned, port counters and screen counts 0. -/
def warmLink (s : State) : State :=
  ((s.setFieldPort s.field.emptied.clearCounters).setCabPort s.cab.emptied.clearCounters).setScreen
    { s.screen with misdirected := 0, stray := 0 }

/-- What every hose loses at a warm start (R69, R78): nozzle HUNG, pulse reference and hold mark absent, every timer stopped,
residues 0. -/
def warmItems (x : Hose) : Hose :=
  { x with nozzle := .hung, pulse := none, timers := .stopped, mark := none, resG := 0, resN := 0, lastValve := none }

/-- A context cut short by a power loss (R69): end cause POWER_LOST, replacing any set in CLOSING. -/
def powerLost (x : Hose) : Hose :=
  { x with ctx := x.ctx.map fun c => { c with endCause := some .powerLost } }

/-- Step 2 of a warm start at one hose, by its phase (the table of R69). -/
def warmHose (h : HoseId) (s : State) : State :=
  let t := s.modHose h warmItems
  let ph := (s.hose h).phase
  if ph = .authorized then t.dropTransaction h
  else if ph.executing then (t.modHose h powerLost).resultEntry h false
  else if ph = .result then t.modHose h fun x => { x with timers := { Timers.stopped with postDelay := postDelayOf x } }
  else t

/-- Step 3 of a warm start at one hose (R69): a hose that is not OFF queues CLOSE and its PROGRESS. -/
def warmFrames (h : HoseId) (s : State) : State :=
  if (s.hose h).phase = .off then s else (s.queueValve h .close).entryProgress h

/-- The responder's part of a warm start (R180): a command in flight ended unanswered; the straps read. -/
def warmResp (straps : Node) (s : State) : State :=
  (s.setResp { s.resp with inFlight := none, straps := straps }).setPower { s.power with main := true, pins := straps }

/-- A warm start (R180, R136), hoses in ascending number (R187). -/
def warmStart (straps : Node) (s : State) : State :=
  let s1 := (s.warmResp straps).warmLink
  let s2 := (ids 6).foldl (fun u h => u.warmHose h) s1
  let s3 := (ids 6).foldl (fun u h => u.warmFrames h) s2
  (s3.setAtt ⟨0#16, .armed⟩).setCause .restarted

/-! ### The retained store (R179) -/

/-- The control items of R179, in its order: the privilege table, the protection flags, the clock, the current period, the bucket
heads and the free stack, the log's index, counts and next sequence number, the phases. Their bytes are the model's choice
(log entry 10). -/
def controlBytes (s : State) : List Byte :=
  s.resp.levels.toList.map (fun l => BitVec.ofNat 8 l.code)
    ++ [protectionSet s.resp.calProtect s.resp.tableProtect] ++ be4 s.resp.clock ++ [bitsByte [(s.resp.clockSet, 0)]]
    ++ be4 s.table.period ++ (s.table.heads.toList.map (fun b => optN 2 (b.map Fin.val))).flatten
    ++ beN 2 s.table.free.length ++ (s.table.free.map (fun i => beN 2 i.val)).flatten
    ++ beN 2 s.billing.oldestIndex ++ beN 2 s.billing.storedCount ++ beN 1 s.billing.reserved ++ beN 4 s.billing.nextSeq
    ++ s.hoses.toList.map (fun x => BitVec.ofNat 8 x.phase.code)

/-- The CRC-16 the store holds over its control items (R179): that of the items as they stand, but for what a loss has
changed. -/
def controlCrc (s : State) : Half := crc16 s.controlBytes ^^^ s.power.crcDiff

/-- Whether the retained store is valid (R179): the marker is present and the stored CRC matches (controlCrc_matches). -/
def storeValid (s : State) : Bool := s.power.marker && s.power.crcDiff == 0#16

/-- A start-up (R179, R180): a valid store warm-starts, an invalid one cold-starts. -/
def startUp (straps : Node) (s : State) : State := if s.storeValid then s.warmStart straps else s.coldStart straps

end State

/-! ### The meanings of the rows -/

/-- START_UP (R179, R180): the strap pins are read and the store tested (log entry 7). -/
def execStartUp (straps : Node) (s : State) : Host.Outcome State Fault Refusal := .next (s.startUp straps)

/-- FRAME_SENT (R155): the port's transmitter becomes free and the arbiter takes the next frame; where the frame was the answer
of RESTART the part performs a start-up with the straps as the pins hold them (R178). With nothing being sent no report can
come and nothing changes (log entry 6). -/
def execFrameSent (p : Port) (s : State) : Host.Outcome State Fault Refusal :=
  .next (match s.power.main, (s.port p).sending with
    | true, some it => if it.kind = .response true then s.startUp s.power.pins else s.setPort p (s.port p).sent
    | _, _ => s)

/-- SITE_CLOCK_SECOND (R168): the count rises by 1 and wraps, while the part is powered. -/
def execSiteClockSecond (s : State) : Host.Outcome State Fault Refusal :=
  .next (if s.power.main then s.setResp { s.resp with clock := s.resp.clock + 1#32 } else s)

/-- MAIN_SUPPLY_LOSS (R69, the pins' section): link activity stops, so what the ports were sending or held to send is lost;
the retained store stands as it was (log entry 8). -/
def execMainSupplyLoss (s : State) : Host.Outcome State Fault Refusal :=
  .next (if s.power.main then
      ((s.setFieldPort s.field.emptied).setCabPort s.cab.emptied).setPower { s.power with main := false }
    else s)

/-- RETENTION_SUPPLY_FAILURE (R179): while the main supply is off, the retention marker is lost with the store (log entry
9). -/
def execRetentionSupplyFailure (s : State) : Host.Outcome State Fault Refusal :=
  .next (if s.power.main then s else s.setPower { s.power with marker := false })

end Sys2Proof.Machine
end

