-- ==== Sys2Proof/Machine/Dispatch.lean ====
section
/-! DEFINITION. One arm per command of Instr, each a direct call of its meaning. -/

namespace Sys2Proof.Machine

def exec (i : Instr) (s : State) : Host.Outcome State Fault Refusal :=
  match i with
  | .badFrame p bytes => Sys2Proof.Machine.execBadFrame p bytes s
  | .screenDrop p f => Sys2Proof.Machine.execScreenDrop p f s
  | .carriageFrame p f => Sys2Proof.Machine.execCarriageFrame p f s
  | .tagRead a tag hours quality => Sys2Proof.Machine.execTagRead a tag hours quality s
  | .nozzle a value => Sys2Proof.Machine.execNozzle a value s
  | .meterSample a seq total temp => Sys2Proof.Machine.execMeterSample a seq total temp s
  | .headStatus a code => Sys2Proof.Machine.execHeadStatus a code s
  | .probe a volume status => Sys2Proof.Machine.execProbe a volume status s
  | .post a hose => Sys2Proof.Machine.execPost a hose s
  | .hold a hose => Sys2Proof.Machine.execHold a hose s
  | .resume a hose => Sys2Proof.Machine.execResume a hose s
  | .stop a hose => Sys2Proof.Machine.execStop a hose s
  | .emergencyStop a => Sys2Proof.Machine.execEmergencyStop a s
  | .manualAuth a hose centre cls presence machine reference => Sys2Proof.Machine.execManualAuth a hose centre cls presence machine reference s
  | .receiveStart a hose volume presence reference => Sys2Proof.Machine.execReceiveStart a hose volume presence reference s
  | .malformedRequest a payload => Sys2Proof.Machine.execMalformedRequest a payload s
  | .authWindowExpiry h => Sys2Proof.Machine.execAuthWindowExpiry h s
  | .noFlowExpiry h => Sys2Proof.Machine.execNoFlowExpiry h s
  | .meterSilenceExpiry h => Sys2Proof.Machine.execMeterSilenceExpiry h s
  | .settleExpiry h => Sys2Proof.Machine.execSettleExpiry h s
  | .postDelayExpiry h => Sys2Proof.Machine.execPostDelayExpiry h s
  | .holdLimitExpiry h => Sys2Proof.Machine.execHoldLimitExpiry h s
  | .frameSent p => Sys2Proof.Machine.execFrameSent p s
  | .startUp straps => Sys2Proof.Machine.execStartUp straps s
  | .malformedCommand a payload => Sys2Proof.Machine.execMalformedCommand a payload s
  | .identify a => Sys2Proof.Machine.execIdentify a s
  | .status a sect number option => Sys2Proof.Machine.execStatus a sect number option s
  | .statusCounterClear a sect number => Sys2Proof.Machine.execStatusCounterClear a sect number s
  | .setClock a seconds => Sys2Proof.Machine.execSetClock a seconds s
  | .setPrivilege a node level => Sys2Proof.Machine.execSetPrivilege a node level s
  | .setProtection a flags => Sys2Proof.Machine.execSetProtection a flags s
  | .digest a selector => Sys2Proof.Machine.execDigest a selector s
  | .digestDone => Sys2Proof.Machine.execDigestDone s
  | .queryEmpty a selector => Sys2Proof.Machine.execQueryEmpty a selector s
  | .wipe a => Sys2Proof.Machine.execWipe a s
  | .restart a => Sys2Proof.Machine.execRestart a s
  | .loadMachine a form => Sys2Proof.Machine.execLoadMachine a form s
  | .deleteMachine a tag => Sys2Proof.Machine.execDeleteMachine a tag s
  | .readMachineByTag a tag => Sys2Proof.Machine.execReadMachineByTag a tag s
  | .readMachineByIndex a start => Sys2Proof.Machine.execReadMachineByIndex a start s
  | .setAllowance a tag volume => Sys2Proof.Machine.execSetAllowance a tag volume s
  | .clearStrikes a tag => Sys2Proof.Machine.execClearStrikes a tag s
  | .openPeriod a => Sys2Proof.Machine.execOpenPeriod a s
  | .sweep a => Sys2Proof.Machine.execSweep a s
  | .sweepDone => Sys2Proof.Machine.execSweepDone s
  | .setStrikePolicy a form => Sys2Proof.Machine.execSetStrikePolicy a form s
  | .rollCallStart a => Sys2Proof.Machine.execRollCallStart a s
  | .rollCallStop a => Sys2Proof.Machine.execRollCallStop a s
  | .rollCallRead a start => Sys2Proof.Machine.execRollCallRead a start s
  | .loadHoseProfile a hose form => Sys2Proof.Machine.execLoadHoseProfile a hose form s
  | .siteStop a => Sys2Proof.Machine.execSiteStop a s
  | .siteResume a => Sys2Proof.Machine.execSiteResume a s
  | .loadCalibration a hose form => Sys2Proof.Machine.execLoadCalibration a hose form s
  | .loadGrade a grade beta => Sys2Proof.Machine.execLoadGrade a grade beta s
  | .loadCompartment a comp form => Sys2Proof.Machine.execLoadCompartment a comp form s
  | .ackRestock a comp reference => Sys2Proof.Machine.execAckRestock a comp reference s
  | .setStock a comp volume => Sys2Proof.Machine.execSetStock a comp volume s
  | .reconcile a comp => Sys2Proof.Machine.execReconcile a comp s
  | .loadTariff a prices => Sys2Proof.Machine.execLoadTariff a prices s
  | .loadClassRate a cls fraction => Sys2Proof.Machine.execLoadClassRate a cls fraction s
  | .readLog a seq => Sys2Proof.Machine.execReadLog a seq s
  | .releaseLog a seq => Sys2Proof.Machine.execReleaseLog a seq s
  | .readCentres a start option => Sys2Proof.Machine.execReadCentres a start option s
  | .clearCentres a centre => Sys2Proof.Machine.execClearCentres a centre s
  | .rearm a causes => Sys2Proof.Machine.execRearm a causes s
  | .loadFrameClass a cls form => Sys2Proof.Machine.execLoadFrameClass a cls form s
  | .siteClockSecond => Sys2Proof.Machine.execSiteClockSecond s
  | .mainSupplyLoss => Sys2Proof.Machine.execMainSupplyLoss s
  | .retentionSupplyFailure => Sys2Proof.Machine.execRetentionSupplyFailure s
  | .storeValueLost entry change => Sys2Proof.Machine.execStoreValueLost entry change s

end Sys2Proof.Machine
end

