-- ==== Sys2Proof/Safety.lean ====
section
/-! DEFINITION. What a run of the block keeps: the invariants the manual states or rests on, each a property of one state;
when a frame reaches its owner; and what the shared events of a hose leave, written out field by field. The statements for
the provers are made in these terms. -/

namespace Sys2Proof.Machine

/-! ### Hoses -/

/-- A transaction context is held in AUTHORIZED, the execution phases and RESULT (R44, R47). -/
def Phase.holdsContext : Phase → Bool
  | .result => true
  | ph => ph.active

/-- A valve command that opens (R55). -/
def valveOpens : Option ValveCmd → Bool
  | some .openSlow | some .openFull => true
  | _ => false

/-- A hose's phase agrees with what it holds: OFF exactly without a profile in a mode other than OFF (R47), a context exactly
in the phases that hold one, a hold mark exactly in HELD (R61), and no running timer but those its phase lists (R47). -/
abbrev Hose.PhaseOk (x : Hose) : Prop :=
  ((x.profile.any fun p => p.mode != .off) = (x.phase != .off))
    ∧ x.ctx.isSome = x.phase.holdsContext
    ∧ x.mark.isSome = (x.phase == .held)
    ∧ x.timers = x.timers.listed x.phase

/-- The last valve command opens exactly in the flowing phases (R55). -/
abbrev Hose.ValveOk (x : Hose) : Prop := valveOpens x.lastValve = x.phase.flowing

/-- The residues are remainders of their divisions (R74, R77). -/
abbrev Hose.ResiduesOk (x : Hose) : Prop := x.resG < 100000000 ∧ x.resN < 1000000

namespace State

/-- Every hose's phase agrees with what it holds. -/
abbrev HosesOk (s : State) : Prop := ∀ h : HoseId, (s.hose h).PhaseOk

/-- Every hose's last valve command opens exactly while it flows, given the phases agree with what is held. -/
abbrev ValvesOk (s : State) : Prop := s.HosesOk ∧ ∀ h : HoseId, (s.hose h).ValveOk

/-- Every hose's residues are remainders. -/
abbrev ResiduesOk (s : State) : Prop := ∀ h : HoseId, (s.hose h).ResiduesOk

/-! ### Attention Unit -/

/-- The unit is not ARMED with a non-empty cause set (R130). -/
abbrev AttentionOk (s : State) : Prop := s.att.state = .armed → s.att.causes = 0#16

/-! ### Machine Table -/

/-- The free stack holds each free entry once and no entry in use (R4). -/
abbrev FreeStackOk (s : State) : Prop :=
  s.table.free.Nodup ∧ ∀ i : EntryId, i ∈ s.table.free ↔ (s.entry i).inUse = false

/-! ### Billing Unit -/

/-- The hoses that hold a transaction. -/
def holders (s : State) : Nat := ((ids 6).filter fun h => (s.hose h).ctx.isSome).length

/-- One reservation per transaction held, and room for each in slots and in sequence numbers (R114, R115). -/
abbrev ReservationsOk (s : State) : Prop :=
  s.HosesOk ∧ s.billing.reserved = s.holders ∧ s.billing.level ≤ Config.logSlots
    ∧ s.billing.nextSeq + s.billing.reserved ≤ Config.seqLimit

/-- The stored records carry consecutive sequence numbers up to the next one (R113, R116, R117). -/
abbrev LogOk (s : State) : Prop :=
  s.billing.oldestIndex < Config.logSlots ∧ s.billing.stored.length < s.billing.nextSeq
    ∧ s.billing.stored.map Record.seq
      = List.range' (s.billing.nextSeq - s.billing.stored.length) s.billing.stored.length

/-! ### Compartment Inventory -/

/-- A hose's term in a compartment's committed volume of a kind: while active, the greater of 0 and E minus net (R90). -/
def hoseTerm (s : State) (k : TxKind) (c : CompId) (h : HoseId) : Nat :=
  match (s.hose h).ctx with
  | some x => if (s.hose h).phase.active && x.comp == c && x.kind == k then x.term else 0
  | none => 0

/-- The sum of the hoses' terms (R90). -/
def committed (s : State) (k : TxKind) (c : CompId) : Nat := ((ids 6).map (s.hoseTerm k c)).sum

/-- Each committed volume is the sum of the active transactions' terms, an active transaction's compartment is configured, and
no net total has passed its bound (R79, R90). -/
abbrev CommitmentsOk (s : State) : Prop :=
  s.HosesOk
    ∧ (∀ c : CompId, (s.comp c).committedIssue = s.committed .delivery c
        ∧ (s.comp c).committedReceive = s.committed .receipt c)
    ∧ ∀ h : HoseId, ∀ x, (s.hose h).ctx = some x →
        x.net ≤ Config.max32 ∧ ((s.hose h).phase.active = true → (s.comp x.comp).settings.isSome = true)

/-- The signed items of every compartment fit their 48 bits, and a last reading its 32 (R87, R181). -/
abbrev AccountsOk (s : State) : Prop :=
  ∀ c : CompId, fits48 (s.comp c).book = true ∧ fits48 (s.comp c).base = true ∧ fits48 (s.comp c).unattributed = true
    ∧ ∀ r, (s.comp c).lastReading = some r → r ≤ Config.max32

/-! ### Link Ports -/

end State

/-- A port's queue holds at most 20 ordinary frames, at most one waiting frame of each replaced kind and key, only kinds of
its own, and waits only behind a busy transmitter (R153, R154, R155). -/
abbrev PortState.QueueOk (q : PortState) (own : QKind → Bool) : Prop :=
  q.ordinaryWaiting ≤ Config.txOrdinary
    ∧ (∀ it ∈ q.queue, own it.kind = true)
    ∧ (q.queue.map Queued.kind).Pairwise (fun k l => k.replaces = true → k ≠ l)
    ∧ (q.sending = none → q.queue = [])

/-- The kinds of the field port's queue: VALVE and ordinary frames (8.5). -/
def QKind.ofField : QKind → Bool
  | .valve _ | .ordinary => true
  | _ => false

/-- The kinds of the cab port's queue: all but VALVE (8.5). -/
def QKind.ofCab : QKind → Bool
  | .valve _ => false
  | _ => true

namespace State

/-- The MGMT_RESPONSE frames waiting at the cab port. -/
def responsesWaiting (s : State) : Nat :=
  (s.cab.queue.filter fun it => match it.kind with | .response _ => true | _ => false).length

/-- Both queues are in order, and at most two responses wait, at most one while a command is in flight (R146, R153). -/
abbrev QueuesOk (s : State) : Prop :=
  s.field.QueueOk QKind.ofField ∧ s.cab.QueueOk QKind.ofCab ∧ s.responsesWaiting ≤ 2
    ∧ (s.resp.inFlight.isSome = true → s.responsesWaiting ≤ 1)

/-! ### Management Responder -/

/-- Nodes 0 and 1 hold NONE at all times (R162). -/
abbrev PrivilegesOk (s : State) : Prop := s.levelOfNode 0 = .none ∧ s.levelOfNode 1 = .none

/-- Some node holds SITE (R165). -/
abbrev HasSite (s : State) : Prop := ∃ n : Node, s.levelOfNode n = .site

end State

/-! ### When a frame reaches its owner -/

namespace State

/-- A command frame of a sender that reaches the owner of the command: powered, a source of 2 to 31, addressed to the part, no
response waiting, no command in flight, and the minimum level (R141, R143, R146, R159). -/
abbrev CommandReady (s : State) (a : Addr) (least : Level) : Prop :=
  s.power.main = true ∧ 2 ≤ a.src.val ∧ a.dest = 1 ∧ s.responseWaiting = false ∧ s.resp.inFlight = none
    ∧ least.code ≤ (s.levelOfNode a.src).code

/-- An operator request of a sender that passes the screen and the privilege check (R141, R143, R164). -/
abbrev RequestReady (s : State) (a : Addr) (least : Level) : Prop :=
  s.power.main = true ∧ 2 ≤ a.src.val ∧ a.dest.val < 2 ∧ least.code ≤ (s.levelOfNode a.src).code

/-- A field device frame from the head of hose h (R141, R143, R144). -/
abbrev HeadReady (s : State) (a : Addr) (h : HoseId) : Prop :=
  s.power.main = true ∧ 2 ≤ a.src.val ∧ a.dest.val < 2 ∧ s.headOwner a.src = some h

/-- A field device frame from the probe of compartment c (R141, R143, R144). -/
abbrev ProbeReady (s : State) (a : Addr) (c : CompId) : Prop :=
  s.power.main = true ∧ 2 ≤ a.src.val ∧ a.dest.val < 2 ∧ s.probeOwner a.src = some c

/-- The state after a walk for a tag met a fault: the chain cut, the fault counted, TABLE_FAULT set (R6). -/
def afterCut (s : State) (tag : TagId) (pred : Option EntryId) : State :=
  (s.setTable (s.table.cut (bucketOf tag) pred)).setCause .tableFault

/-- A NOTICE AUTH_REFUSED queued for hose h, byte by byte (R37, 10.2): the reason's code, the tag or zeros, machine number and
strike count or all ones. -/
def noticeRefused (s : State) (h : HoseId) (why : Reason) (tag : TagId) (machine strikes : Option Nat) : State :=
  s.cabOrdinary (ownFrame 0 8
    ([2#8, BitVec.ofNat 8 h.val, BitVec.ofNat 8 why.code] ++ be6 tag ++ beN 2 (machine.getD 0xFFFF) ++ beN 1 (strikes.getD 0xFF)))

/-- A NOTICE REQUEST_REFUSED queued, byte by byte (R164, 10.2): hose, reason and request kind as codes. -/
def noticeRequest (s : State) (hose : Byte) (why : Reason) (kind : Byte) : State :=
  s.cabOrdinary (ownFrame 0 8 [3#8, hose, BitVec.ofNat 8 why.code, kind])

/-- The state once a command taken whole was refused: the frame counted, FAIL queued, nothing else changed (R159). -/
def refusedCommand (s : State) (a : Addr) (code : Byte) (res : ResultCode) : State :=
  (s.countGood .cab).answer a.src .fail code res []

end State

end Sys2Proof.Machine

namespace Sys2Proof

/-- The management command of a row: its nodes, its code (10.5) and the minimum level of its sender (the table of R163). -/
def Instr.command : Instr → Option (Addr × Byte × Machine.Level)
  | .identify a => some (a, 1, .none)
  | .status a _ _ option => if option = 1#8 then none else some (a, 2, .operator)
  | .statusCounterClear a _ _ => some (a, 2, .supervisor)
  | .setClock a _ => some (a, 3, .site)
  | .setPrivilege a _ _ => some (a, 4, .site)
  | .setProtection a _ => some (a, 5, .site)
  | .digest a _ => some (a, 6, .supervisor)
  | .queryEmpty a _ => some (a, 7, .operator)
  | .wipe a => some (a, 8, .site)
  | .restart a => some (a, 9, .site)
  | .loadMachine a _ => some (a, 10, .supervisor)
  | .deleteMachine a _ => some (a, 11, .supervisor)
  | .readMachineByTag a _ => some (a, 12, .operator)
  | .readMachineByIndex a _ => some (a, 12, .operator)
  | .setAllowance a _ _ => some (a, 13, .supervisor)
  | .clearStrikes a _ => some (a, 14, .supervisor)
  | .openPeriod a => some (a, 15, .supervisor)
  | .sweep a => some (a, 16, .site)
  | .setStrikePolicy a _ => some (a, 17, .site)
  | .rollCallStart a => some (a, 18, .supervisor)
  | .rollCallStop a => some (a, 18, .supervisor)
  | .rollCallRead a _ => some (a, 18, .operator)
  | .loadHoseProfile a _ _ => some (a, 20, .site)
  | .siteStop a => some (a, 21, .supervisor)
  | .siteResume a => some (a, 22, .supervisor)
  | .loadCalibration a _ _ => some (a, 23, .site)
  | .loadGrade a _ _ => some (a, 24, .site)
  | .loadCompartment a _ _ => some (a, 25, .site)
  | .ackRestock a _ _ => some (a, 26, .supervisor)
  | .setStock a _ _ => some (a, 27, .supervisor)
  | .reconcile a _ => some (a, 28, .supervisor)
  | .loadTariff a _ => some (a, 30, .site)
  | .loadClassRate a _ _ => some (a, 31, .site)
  | .readLog a _ => some (a, 32, .supervisor)
  | .releaseLog a _ => some (a, 33, .site)
  | .readCentres a _ _ => some (a, 34, .supervisor)
  | .clearCentres a _ => some (a, 35, .site)
  | .rearm a _ => some (a, 36, .supervisor)
  | .loadFrameClass a _ _ => some (a, 37, .site)
  | _ => none

end Sys2Proof

namespace Sys2Proof.Machine

/-! ### What the shared events of a hose leave -/

namespace State

/-- Hose h, on profile p and context c, after it has entered CLOSING with an end cause (R54). -/
def closedAt (s : State) (h : HoseId) (p : Profile) (c : Context) (why : EndCause) : State :=
  ((s.setHose h { s.hose h with
      phase := .closing, ctx := some { c with endCause := some why }, mark := none
      timers := { Timers.stopped with settle := some p.settle }, lastValve := some .close }).setFieldPort
    (s.field.offerControl ⟨.valve h, valveFrame p.head .close⟩)).setCabPort
      (s.cab.offerOrdinary (progressFrame h .closing c.net c.amountSoFar))

/-- Hose h, on profile p and context c, after it has entered HELD with a hold mark (R61): meter silence runs on, the hold
limit is started. -/
def heldAt (s : State) (h : HoseId) (p : Profile) (c : Context) (mark : HoldMark) : State :=
  ((s.setHose h { s.hose h with
      phase := .held, mark := some mark, lastValve := some .close
      timers := { Timers.stopped with silence := (s.hose h).timers.silence, holdLimit := some p.holdLimit } }).setFieldPort
    (s.field.offerControl ⟨.valve h, valveFrame p.head .close⟩)).setCabPort
      (s.cab.offerOrdinary (progressFrame h .held c.net c.amountSoFar))

/-- Hose h, on profile p and context c, after it has gone back to a flowing phase with OPEN_SLOW (R62). -/
def resumedAt (s : State) (h : HoseId) (p : Profile) (c : Context) (ph : Phase) : State :=
  ((s.setHose h { s.hose h with
      phase := ph, mark := none, lastValve := some .openSlow
      timers := { Timers.stopped with noFlow := some p.noFlow, silence := some p.silence } }).setFieldPort
    (s.field.offerControl ⟨.valve h, valveFrame p.head .openSlow⟩)).setCabPort
      (s.cab.offerOrdinary (progressFrame h ph c.net c.amountSoFar))

/-- What ending hose h's transaction c without a record leaves, the frames on the cab port apart (R53, R59): IDLE without a
context, the reservation released, what remained of the commitment removed, the entry released. -/
def Released (s t : State) (h : HoseId) (c : Context) : Prop :=
  t.hoses = vset s.hoses h { s.hose h with phase := .idle, ctx := none, mark := none, timers := .stopped }
    ∧ t.billing = { s.billing with reserved := s.billing.reserved - 1 }
    ∧ t.comps = vset s.comps c.comp ((s.comp c.comp).withCommit c.kind fun v => v - c.term)
    ∧ t.table = (match c.entry with
        | some r => if s.holdsTag r then { s.table with entries := vset s.table.entries r.index (clearBusy h (s.entry r.index)) }
            else s.table
        | none => s.table)
    ∧ t = { s with hoses := t.hoses, billing := t.billing, comps := t.comps, table := t.table, cab := t.cab }

/-- The entry a delivery's settlement leaves: refilled when its period is past, the net deducted from a present allowance but
not below 0, busy hose cleared where it named the hose (R7, R10). A present allowance without a remaining one has nothing
deducted (log entry 27). -/
def settledEntry (s : State) (e : Entry) (net : Nat) (h : HoseId) : Entry :=
  let f := if e.period = s.table.period then e
    else { e with remaining := e.loaded.allowance, period := s.table.period }
  { f with remaining := if f.loaded.allowance.isSome then f.remaining.map (fun v => v - net) else f.remaining
           busy := if f.busy = some h then none else f.busy }

/-- What RESULT entry at hose h, on profile p and context c, leaves, the frames on the cab port apart (R65): the commitment's
remainder removed, the entry of a delivery settled or ENTRY_GONE, amount, end time and calibration counter written,
residues discarded, post delay started unless it is 0. -/
def ResultEntered (s t : State) (h : HoseId) (p : Profile) (c : Context) : Prop :=
  let entry := match c.kind with | .delivery => c.entry | .receipt => none
  let gone := entry.any fun r => !s.holdsTag r
  t.hoses = vset s.hoses h { s.hose h with
      phase := .result, mark := none, resG := 0, resN := 0
      timers := { Timers.stopped with postDelay := if p.postDelay = 0 then none else some p.postDelay }
      ctx := some { c with
        amount := (match c.kind with
          | .delivery => some ((c.net * c.price.getD 0 * c.fraction.getD 0 + 12800000) / 25600000)
          | .receipt => none)
        endTime := some s.resp.clock, calCounter := some s.calCounter
        flags := c.flags ||| flagIf gone .entryGone ||| flagIf (!s.resp.clockSet) .clockUnset } }
    ∧ t.comps = vset s.comps c.comp ((s.comp c.comp).withCommit c.kind fun v => v - c.term)
    ∧ t.table = (match entry with
        | some r => if s.holdsTag r then
            { s.table with entries := vset s.table.entries r.index (s.settledEntry (s.entry r.index) c.net h) }
            else s.table
        | none => s.table)
    ∧ t = { s with hoses := t.hoses, comps := t.comps, table := t.table, cab := t.cab }

/-- What an acceptance at hose h, on profile p with context c, leaves (R36, R39, R41, R186): a slot reserved, E committed, busy
hose written, AUTHORIZED with its window, or SLOW_START at once where the nozzle is lifted and no site stop is in force. On
the cab port LOG_HIGH's ATTENTION where the level meets 960 and the unit was ARMED (R118; ahead of the PROGRESS by log entry
17), the AUTHORIZED PROGRESS, NOTICE
AUTH_GRANTED and, at a flow start, the SLOW_START PROGRESS; on the field port its OPEN_SLOW. -/
def Accepted (s t : State) (h : HoseId) (p : Profile) (c : Context) : Prop :=
  let flows := (s.hose h).nozzle.isLifted && !s.siteStop
  let rises := decide (s.billing.level + 1 = Config.logHighLevel)
  let causes := s.att.causes ||| Cause.logHigh.mask
  let high := if rises && s.att.state == .armed then s.cab.offerControl ⟨.attention, ownFrame 0 9 (be2 causes)⟩ else s.cab
  let amount : Option Nat := match c.kind with | .delivery => some 0 | .receipt => none
  let granted := (high.offerOrdinary (progressFrame h .authorized c.net c.amountSoFar)).offerOrdinary
    (grantedFrame h c.machine c.preset c.flags)
  t.billing = { s.billing with reserved := s.billing.reserved + 1 }
    ∧ t.comps = vset s.comps c.comp ((s.comp c.comp).withCommit c.kind fun v => v + c.preset)
    ∧ t.table = (match c.entry with
        | some r => { s.table with entries := vset s.table.entries r.index { s.entry r.index with busy := some h } }
        | none => s.table)
    ∧ t.hoses = vset s.hoses h
        (if flows then
          { s.hose h with
            phase := .slowStart, mark := none, resG := 0, resN := 0, lastValve := some .openSlow
            ctx := some { c with gross := 0, net := 0, heldTemp := none, startTime := some s.resp.clock,
                                 flags := c.flags ||| flagIf (!s.resp.clockSet) .clockUnset }
            timers := { Timers.stopped with noFlow := some p.noFlow, silence := some p.silence } }
        else
          { s.hose h with
            phase := .authorized, mark := none, ctx := some c
            timers := { Timers.stopped with window := some p.window } })
    ∧ t.att = (if rises then ⟨causes, .fired⟩ else s.att)
    ∧ t.field = (if flows then s.field.offerControl ⟨.valve h, valveFrame p.head .openSlow⟩ else s.field)
    ∧ t.cab = (if flows then granted.offerOrdinary (progressFrame h .slowStart 0 amount) else granted)
    ∧ t = { s with table := t.table, hoses := t.hoses, comps := t.comps, billing := t.billing, att := t.att,
                   field := t.field, cab := t.cab }

end State

/-- A context that no flow has touched: totals 0, and all that a flow's start, its samples and its end write absent (R36, R39,
R41). -/
abbrev Context.Untouched (c : Context) : Prop :=
  c.gross = 0 ∧ c.net = 0 ∧ c.startTime = none ∧ c.heldTemp = none ∧ c.lastTemp = none ∧ c.endCause = none ∧ c.endTime = none
    ∧ c.amount = none ∧ c.calCounter = none

end Sys2Proof.Machine
end

