-- ==== Sys2Proof/Certificates/Slice0/Obligations.lean ====
section
/-! DEFINITION. The statements for the provers, chapter by chapter of the manual. Every equation exec i s = .next t names the
whole next state: what t does not mention stands as it was in s. -/

open Sys2Proof Sys2Proof.Machine

/-! ### The block as a machine -/

/-- One step takes the command at the front of the queue and runs exec on it with the queue's rest. On an empty queue the
block idles (log entry 1, DESIGN CHOICE), a SWEEP in flight at a powered part apart (log entry 4). -/
def Obligations.StepTakesTheFrontCommand : Prop :=
  ∀ s : State,
    (∀ c rest, s.pending = c :: rest → step s = exec c (s.setPending rest))
    ∧ (s.pending = [] → (s.power.main = false ∨ ∀ node work, s.resp.inFlight ≠ some (.sweep node work)) → step s = .next s)

/-- No command stops the part: exec answers a next state for every row in every state. What the state holds beside it is the
model's own queue of waiting commands (log entry 1, DESIGN CHOICE), which stays as it was given. No command's effect is
stated here. -/
def Obligations.EveryCommandCompletes : Prop := ∀ (i : Instr) (s : State), ∃ t, exec i s = .next t ∧ t.pending = s.pending

/-- What is not due changes nothing: with the main supply off, anything but a start-up, the failure of the retention supply and
the loss of a stored value (log entry 8); the expiry of a timer that is stopped or that the phase does not list (R47); the
end of a SWEEP, a DIGEST or a transmission that is not under way; the retention supply with the main supply on (log
entries 6 and 9, the model's choice). -/
def Obligations.NothingHappensThatIsNotDue : Prop :=
  ∀ s : State,
    (s.power.main = false → ∀ i : Instr, (∀ n, i ≠ .startUp n) → i ≠ .retentionSupplyFailure →
        (∀ l d, i ≠ .storeValueLost l d) → exec i s = .next s)
    ∧ (∀ h : HoseId,
        let timers := (s.hose h).timers
        let phase := (s.hose h).phase
        ((timers.window = none ∨ phase ≠ .authorized) → exec (.authWindowExpiry h) s = .next s)
        ∧ ((timers.noFlow = none ∨ phase.flowing = false) → exec (.noFlowExpiry h) s = .next s)
        ∧ ((timers.silence = none ∨ (phase.flowing = false ∧ phase ≠ .held)) → exec (.meterSilenceExpiry h) s = .next s)
        ∧ ((timers.settle = none ∨ phase ≠ .closing) → exec (.settleExpiry h) s = .next s)
        ∧ ((timers.postDelay = none ∨ phase ≠ .result) → exec (.postDelayExpiry h) s = .next s)
        ∧ ((timers.holdLimit = none ∨ phase ≠ .held) → exec (.holdLimitExpiry h) s = .next s))
    ∧ ((∀ node work, s.resp.inFlight ≠ some (.sweep node work)) → exec .sweepDone s = .next s)
    ∧ ((∀ node x, s.resp.inFlight ≠ some (.digest node x)) → exec .digestDone s = .next s)
    ∧ (∀ p : Port, (s.port p).sending = none → exec (.frameSent p) s = .next s)
    ∧ (s.power.main = true → exec .retentionSupplyFailure s = .next s)

/-- The supplies, the clock's second and the retained store. A second raises the count by 1 with wrap (R168); failure of the
retention supply while the main supply is off loses the marker, and the store is valid where the marker is present and the
stored CRC matches the control items (R179). The model's own: loss of the main supply empties both ports and keeps the rest
(log entry 8, DEDUCED); a lost value stands in its entry under the stored check code, as the row's operands name it (log
entry 11, DESIGN CHOICE); a lost control item is given by the change it makes to its CRC, 0 where none is lost, the bytes of
the items are the model's, and every command without such a change leaves a matching CRC matching (log entry 10, DESIGN
CHOICE). -/
def Obligations.SupplyAndStoreEvents : Prop :=
  (∀ s : State,
    (s.power.main = true → exec .siteClockSecond s = .next (s.setResp { s.resp with clock := s.resp.clock + 1#32 }))
    ∧ (s.power.main = true → exec .mainSupplyLoss s = .next
        (((s.setFieldPort { s.field with queue := [], sending := none }).setCabPort
          { s.cab with queue := [], sending := none }).setPower { s.power with main := false }))
    ∧ (s.power.main = false → exec .retentionSupplyFailure s = .next (s.setPower { s.power with marker := false }))
    ∧ (s.storeValid = true ↔ s.power.marker = true ∧ s.controlCrc = crc16 s.controlBytes)
    ∧ (∀ d : Half, ∃ t, exec (.storeValueLost none d) s = .next t ∧ t = s.setPower { s.power with crcDiff := t.power.crcDiff }
        ∧ t.controlCrc = s.controlCrc ^^^ d ∧ t.controlBytes = s.controlBytes)
    ∧ ∀ (e : EntryId) (l : LostValue) (d : Half),
        let x := s.entry e
        ∃ y t, exec (.storeValueLost (some (e, l)) d) s = .next t
          ∧ t = (s.setEntry e y).setPower { s.power with crcDiff := t.power.crcDiff }
          ∧ t.controlCrc = s.controlCrc ^^^ d ∧ t.controlBytes = s.controlBytes
          ∧ y = { x with loaded := y.loaded, next := y.next, check := y.check }
          ∧ ((∀ v, l ≠ .check v) → y.check = x.check) ∧ ((∀ v, l ≠ .link v) → y.next = x.next)
          ∧ (∀ v, l = .tag v → y.loaded = { x.loaded with tag := v })
          ∧ (∀ v, l = .number v → y.loaded = { x.loaded with number := v.toNat })
          ∧ (∀ v, l = .cls v → y.loaded = { x.loaded with cls := v })
          ∧ (∀ v, l = .centre v → y.loaded = { x.loaded with centre := v })
          ∧ (∀ v, l = .grades v → y.loaded = { x.loaded with grades := v })
          ∧ (∀ v, l = .hourCheck v → y.loaded = { x.loaded with hourCheck := v })
          ∧ (∀ v, l = .allowance v → y.loaded = { x.loaded with allowance := v.map BitVec.toNat })
          ∧ (∀ v, l = .link v → y.loaded = x.loaded ∧ y.next = v)
          ∧ (∀ v, l = .check v → y.loaded = x.loaded ∧ y.check = v))
  ∧ ∀ (i : Instr) (s t : State), (∀ l d, i = .storeValueLost l d → d = 0#16) → exec i s = .next t →
      s.controlCrc = crc16 s.controlBytes → t.controlCrc = crc16 t.controlBytes

/-! ### Frames and their reading (8.1, chapter 10) -/

/-- A receiver that runs the CRC over bytes and their check ends with 0 (R140), and its check reads back every frame whose
payload is at most 128 bytes, and nothing else (R139, 8.1). -/
def Obligations.ParseReadsBackEveryFrame : Prop :=
  (∀ bs : List Byte, crc16 (bs ++ be2 (crc16 bs)) = 0#16)
    ∧ (∀ f : Frame, f.payload.length ≤ 128 → parseFrame f.bytes = some f)
    ∧ ∀ (bytes : List Byte) (f : Frame), parseFrame bytes = some f → f.payload.length ≤ 128 ∧ f.bytes = bytes

/-- Decode and encode agree: the frame of every well-formed row that is a frame, SCREEN_DROP apart, is read as that row, with
every operand at every value (R182, R184, the tables of 10.2 and 10.5). -/
def Obligations.FrameIsReadAsItsCommand : Prop :=
  ∀ (i : Instr) (p : Port) (f : Frame), (∀ q g, i ≠ .screenDrop q g) → i.wf = true → i.linkFrame = some (p, f) →
    frameInstr p f = i

/-- The rows that carry a raw frame do what the row that the frame spells does: a good frame given as SCREEN_DROP, as
CARRIAGE_FRAME or as the bytes of BAD_FRAME meets the same fate (log entry 3). -/
def Obligations.RawFrameMeetsTheFateOfItsRow : Prop :=
  ∀ (p : Port) (f : Frame) (s : State), f.payload.length ≤ 128 →
    exec (.screenDrop p f) s = exec (frameInstr p f) s ∧ exec (.carriageFrame p f) s = exec (frameInstr p f) s
      ∧ exec (.badFrame p f.bytes) s = exec (frameInstr p f) s

/-- A bad frame is one of R139's cases, raises the port's bad-check counter by 1, saturating, and changes nothing else. -/
def Obligations.BadFrameIsDroppedAndCounted : Prop :=
  (∀ bytes : List Byte, parseFrame bytes = none ↔
      bytes.length < 6 ∨ bytes.length ≠ 6 + (bytes.getD 3 0#8).toNat ∨ 128 < (bytes.getD 3 0#8).toNat
        ∨ 31 < (bytes.getD 0 0#8).toNat ∨ 31 < (bytes.getD 1 0#8).toNat ∨ 63 < (bytes.getD 2 0#8).toNat
        ∨ bytes.drop (bytes.length - 2) ≠ be2 (crc16 (bytes.take (bytes.length - 2))))
    ∧ ∀ (p : Port) (bytes : List Byte) (s : State), s.power.main = true → parseFrame bytes = none →
        exec (.badFrame p bytes) s = .next (s.setPort p { s.port p with bad := min ((s.port p).bad + 1) 4294967295 })

/-! ### The screen and the ports (8.2 to 8.5) -/

/-- A good device-class frame the part does not hand on: from source 0 or 1 it is stray, whatever its class, port or destination
(R141); in R143's five cases it is misdirected; from a field node without an owner of its kind it is stray (R144); from one
with an owner, failing the form check, it is screened out and counted neither way (R145, R182). -/
def Obligations.DeviceFramesAreScreened : Prop :=
  ∀ (p : Port) (f : Frame) (s : State), s.power.main = true → f.payload.length ≤ 128 → f.cls.val ≤ 12 →
    let dropped := s.setPort p { s.port p with good := min ((s.port p).good + 1) 4294967295
                                               screened := min ((s.port p).screened + 1) 4294967295 }
    let stray := dropped.setScreen { s.screen with stray := min (s.screen.stray + 1) 4294967295 }
    let owned := if f.cls.val = 3 then (s.probeOwner f.src).isSome else (s.headOwner f.src).isSome
    let formOk := (match f.cls.val, f.payload with
      | 0, [_, _, _, _, _, _, _, _, _, _, q] => decide (q.toNat ≤ 3)
      | 1, [v] => decide (1 ≤ v.toNat ∧ v.toNat ≤ 4)
      | 2, [_, _, _, _, _] => true
      | 3, [_, _, _, _, x] => decide (x.toNat ≤ 1)
      | 4, [_] => true
      | _, _ => false)
    (f.src.val < 2 → exec (.screenDrop p f) s = .next stray)
      ∧ (2 ≤ f.src.val →
        ((f.cls.val ≤ 4 ∧ p = .cab) ∨ ((f.cls.val = 6 ∨ f.cls.val = 11) ∧ p = .field)
          ∨ (f.cls.val = 5 ∨ f.cls.val = 7 ∨ f.cls.val = 8 ∨ f.cls.val = 9 ∨ f.cls.val = 10 ∨ f.cls.val = 12)
          ∨ ((f.cls.val ≤ 4 ∨ f.cls.val = 6) ∧ f.dest ≠ 0 ∧ f.dest ≠ 1) ∨ (f.cls.val = 11 ∧ f.dest ≠ 1)) →
        exec (.screenDrop p f) s = .next
          (dropped.setScreen { s.screen with misdirected := min (s.screen.misdirected + 1) 4294967295 }))
      ∧ (2 ≤ f.src.val → f.cls.val ≤ 4 → p = .field → (f.dest = 0 ∨ f.dest = 1) →
        (owned = false → exec (.screenDrop p f) s = .next stray)
        ∧ (owned = true → formOk = false → exec (.screenDrop p f) s = .next dropped))

/-- A carriage frame from source 0 or 1 is screened out and counted in no count of the screen's (R141). One from a node of 2 to
31 is judged on addressing, direction, source and guard (R149, R150): one that passes is offered unchanged to the other
port as an ordinary frame and, queued, counted forwarded at its own; one that fails is screened out. -/
def Obligations.CarriageFrameIsJudgedByItsEntry : Prop :=
  ∀ (p : Port) (f : Frame) (s : State), s.power.main = true → f.payload.length ≤ 128 → 13 ≤ f.cls.val →
    let received : State := s.setPort p { s.port p with good := min ((s.port p).good + 1) 4294967295 }
    let screened : State := s.setPort p { s.port p with good := min ((s.port p).good + 1) 4294967295
                                                        screened := min ((s.port p).screened + 1) 4294967295 }
    (f.src.val < 2 → exec (.carriageFrame p f) s = .next screened)
    ∧ (2 ≤ f.src.val → ∀ k : Fin 51, k.val + 13 = f.cls.val →
      let e := vget s.screen.table k
      let atRest := fun h : HoseId => (s.hose h).phase = .off ∨ (s.hose h).phase = .idle
      let guardHolds : Prop := match e.guard with
        | .always => True
        | .never => False
        | .hoseIdle => ∃ (b : Byte) (rest : List Byte) (h : HoseId), f.payload = b :: rest ∧ b.toNat = h.val ∧ atRest h
        | .allIdle => ∀ h, atRest h
        | .calOpen => s.resp.calProtect = false
      let passes : Prop := f.dest ≠ 1 ∧ (match p with | .field => e.fieldToCab = true | .cab => e.cabToField = true)
        ∧ e.sources.getLsbD f.src.val = true ∧ guardHolds
      (passes → (s.port p.other).room = true → exec (.carriageFrame p f) s = .next
          ((s.setPort p { s.port p with good := min ((s.port p).good + 1) 4294967295
                                        forwarded := min ((s.port p).forwarded + 1) 4294967295 }).setPort p.other
            ((s.port p.other).offerOrdinary f)))
        ∧ (passes → (s.port p.other).room = false → exec (.carriageFrame p f) s = .next
          (received.setPort p.other { s.port p.other with dropped := min ((s.port p.other).dropped + 1) 4294967295 }))
        ∧ (¬ passes → exec (.carriageFrame p f) s = .next screened))

/-- A frame reported sent frees the transmitter, and the arbiter takes the oldest control frame, else the oldest ordinary one
(R155). Where it was the answer of RESTART the part performs a start-up instead (R178), with the straps as its pins last
stood (log entry 7, DESIGN CHOICE). -/
def Obligations.SentFrameGivesWayToTheNext : Prop :=
  ∀ (p : Port) (s : State) (q : Queued), s.power.main = true → (s.port p).sending = some q →
    (q.kind = .response true → exec (.frameSent p) s = exec (.startUp s.power.pins) s)
      ∧ (q.kind ≠ .response true → (s.port p).queue = [] →
          exec (.frameSent p) s = .next (s.setPort p { s.port p with sending := none }))
      ∧ (q.kind ≠ .response true → ∀ before it after, (s.port p).queue = before ++ it :: after → it.kind.control = true →
          (∀ w ∈ before, w.kind.control = false) →
          exec (.frameSent p) s = .next (s.setPort p { s.port p with sending := some it, queue := before ++ after }))
      ∧ (q.kind ≠ .response true → ∀ it rest, (s.port p).queue = it :: rest → (∀ w ∈ it :: rest, w.kind.control = false) →
          exec (.frameSent p) s = .next (s.setPort p { s.port p with sending := some it, queue := rest }))

/-! ### Requests and commands: who is refused (chapter 9.1 to 9.3) -/

/-- Commands the responder turns away: one that arrives while a response waits in the cab queue is dropped unanswered, malformed
or not (R146); one in flight leaves FAIL BUSY (R160), then a sender below the minimum level FAIL PRIVILEGE (R163), each
with no other effect. A malformed command is answered NACK RANGE with its code, 0 where it has none, whatever is in flight
(R159, R161); a ROLL_CALL option of 3 to 255 is well formed and is refused FAIL BUSY, PRIVILEGE
below OPERATOR, or RANGE (R163, R184). -/
def Obligations.CommandsAreRefusedByTheResponder : Prop :=
  (∀ (f : Frame) (s : State), s.power.main = true → f.payload.length ≤ 128 → f.cls = 11 → 2 ≤ f.src.val → f.dest = 1 →
      s.responseWaiting = true →
      exec (frameInstr .cab f) s = .next
        (s.setCabPort { s.cab with good := min (s.cab.good + 1) 4294967295
                                   screened := min (s.cab.screened + 1) 4294967295 }))
    ∧ (∀ (i : Instr) (a : Addr) (code : Byte) (least : Level) (s : State), i.command = some (a, code, least) →
        s.power.main = true → 2 ≤ a.src.val → a.dest = 1 → s.responseWaiting = false →
        (s.resp.inFlight.isSome = true → exec i s = .next (s.refusedCommand a code .busy))
        ∧ (s.resp.inFlight = none → (s.levelOfNode a.src).code < least.code →
            exec i s = .next (s.refusedCommand a code .privilege)))
    ∧ ∀ (a : Addr) (payload : List Byte) (s : State), Instr.wf (.malformedCommand a payload) = true →
        s.power.main = true → 2 ≤ a.src.val → a.dest = 1 → s.responseWaiting = false →
        let odd := ∃ o : Byte, 3 ≤ o.toNat ∧ (payload = [18#8, o] ∨ ∃ x y, payload = [18#8, o, x, y])
        (¬ odd → exec (.malformedCommand a payload) s = .next
            ((s.countGood .cab).answer a.src .nack (payload.headD 0#8) .range []))
        ∧ (odd → s.resp.inFlight.isSome = true →
            exec (.malformedCommand a payload) s = .next (s.refusedCommand a 18#8 .busy))
        ∧ (odd → s.resp.inFlight = none → (s.levelOfNode a.src).code < Level.operator.code →
            exec (.malformedCommand a payload) s = .next (s.refusedCommand a 18#8 .privilege))
        ∧ (odd → s.resp.inFlight = none → Level.operator.code ≤ (s.levelOfNode a.src).code →
            exec (.malformedCommand a payload) s = .next (s.refusedCommand a 18#8 .range))

/-- Operator requests refused with one NOTICE REQUEST_REFUSED and no other effect (R60, R164, R182): a malformed one MALFORMED
with hose and kind absent; one below the minimum level PRIVILEGE; one that names no hose 0 to 5 RANGE; POST, HOLD, RESUME
and STOP in a phase they do not act in WRONG_PHASE. The hose byte of a PRIVILEGE or RANGE refusal is the byte as received,
above 5 as well (10.2; log entry 15, DEDUCED). -/
def Obligations.OperatorRequestsAreRefused : Prop :=
  ∀ (a : Addr) (s : State), s.power.main = true → 2 ≤ a.src.val → a.dest.val < 2 →
    let g := s.countGood .cab
    (∀ payload, Instr.wf (.malformedRequest a payload) = true →
        exec (.malformedRequest a payload) s = .next (g.noticeRequest 0xFF#8 .malformed 0xFF#8))
      ∧ ((s.levelOfNode a.src).code < Level.operator.code →
          (∀ hose, exec (.post a hose) s = .next (g.noticeRequest hose .privilege 1#8)
            ∧ exec (.hold a hose) s = .next (g.noticeRequest hose .privilege 2#8)
            ∧ exec (.resume a hose) s = .next (g.noticeRequest hose .privilege 3#8)
            ∧ exec (.stop a hose) s = .next (g.noticeRequest hose .privilege 4#8))
          ∧ exec (.emergencyStop a) s = .next (g.noticeRequest 0xFF#8 .privilege 5#8))
      ∧ ((s.levelOfNode a.src).code < Level.supervisor.code → ∀ hose z c pr m ref vol,
          exec (.manualAuth a hose z c pr m ref) s = .next (g.noticeRequest hose .privilege 6#8)
            ∧ exec (.receiveStart a hose vol pr ref) s = .next (g.noticeRequest hose .privilege 7#8))
      ∧ (Level.operator.code ≤ (s.levelOfNode a.src).code → ∀ hose : Byte,
          (6 ≤ hose.toNat → exec (.post a hose) s = .next (g.noticeRequest hose .range 1#8)
            ∧ exec (.hold a hose) s = .next (g.noticeRequest hose .range 2#8)
            ∧ exec (.resume a hose) s = .next (g.noticeRequest hose .range 3#8)
            ∧ exec (.stop a hose) s = .next (g.noticeRequest hose .range 4#8))
          ∧ ∀ h : HoseId, hose.toNat = h.val →
            ((s.hose h).phase ≠ .result → exec (.post a hose) s = .next (g.noticeRequest hose .wrongPhase 1#8))
            ∧ ((s.hose h).phase.flowing = false → exec (.hold a hose) s = .next (g.noticeRequest hose .wrongPhase 2#8))
            ∧ ((s.hose h).phase ≠ .held → exec (.resume a hose) s = .next (g.noticeRequest hose .wrongPhase 3#8))
            ∧ ((s.hose h).phase.active = false ∨ (s.hose h).phase = .closing →
                exec (.stop a hose) s = .next (g.noticeRequest hose .wrongPhase 4#8)))

/-! ### Machine Table (chapter 1) -/

/-- CLEAR_STRIKES (R17), SET_ALLOWANCE (R16) and OPEN_PERIOD (R8): strikes 0 and ACTIVE; remaining the lesser of the volume and
the allowance, at the current period, ADJUSTED where the volume exceeded it; the current period up by 1 with wrap and no
entry written. Without a reachable entry NOT_FOUND, a chain cut made on the way being kept (R6). -/
def Obligations.AllowanceStrikesAndPeriod : Prop :=
  ∀ (a : Addr) (s : State), s.CommandReady a .supervisor →
    let g := s.countGood .cab
    (∀ (tag : TagId) (i : EntryId) (pred : Option EntryId), (s.table.walk (bucketOf tag) (some tag)).1 = .found i pred →
        exec (.clearStrikes a tag) s = .next
          ((g.setEntry i { s.entry i with strikes := 0, barred := false }).answer a.src .pass 14#8 .ok []))
      ∧ (∀ (tag : TagId) (volume : Word), 99999999 < volume.toNat →
          exec (.setAllowance a tag volume) s = .next (s.refusedCommand a 13#8 .range))
      ∧ (∀ (tag : TagId) (volume : Word) (i : EntryId) (pred : Option EntryId), volume.toNat ≤ 99999999 →
          (s.table.walk (bucketOf tag) (some tag)).1 = .found i pred →
          (∀ v, (s.entry i).loaded.allowance = some v → exec (.setAllowance a tag volume) s = .next
            ((g.setEntry i { s.entry i with remaining := some (min volume.toNat v), period := s.table.period }).answer a.src
              .pass 13#8 (if v < volume.toNat then .adjusted else .ok) (beN 4 (min volume.toNat v))))
          ∧ ((s.entry i).loaded.allowance = none →
            exec (.setAllowance a tag volume) s = .next (s.refusedCommand a 13#8 .state)))
      ∧ (∀ (tag : TagId), (s.table.walk (bucketOf tag) (some tag)).1 = .missing →
          exec (.clearStrikes a tag) s = .next (s.refusedCommand a 14#8 .notFound)
          ∧ ∀ volume : Word, volume.toNat ≤ 99999999 →
            exec (.setAllowance a tag volume) s = .next (s.refusedCommand a 13#8 .notFound))
      ∧ (∀ (tag : TagId) (pred : Option EntryId), (s.table.walk (bucketOf tag) (some tag)).1 = .fault pred →
          exec (.clearStrikes a tag) s = .next ((g.afterCut tag pred).answer a.src .fail 14#8 .notFound [])
          ∧ ∀ volume : Word, volume.toNat ≤ 99999999 →
            exec (.setAllowance a tag volume) s = .next ((g.afterCut tag pred).answer a.src .fail 13#8 .notFound []))
      ∧ exec (.openPeriod a) s = .next
          ((g.setTable { s.table with period := s.table.period + 1#32 }).answer a.src .pass 15#8 .ok
            (be4 (s.table.period + 1#32)))

/-- LOAD_MACHINE (R4, R6, R11, R12): an unacceptable form is RANGE; a found entry gets the new loaded fields, its strikes, bar,
marks, hours, busy hose and link kept and its remaining allowance by the table of R12; otherwise, after the cut of a chain
at fault, the top of the free stack is linked at its bucket's head with fresh kept fields, or TABLE_FULL. -/
def Obligations.LoadMachineWritesTheEntry : Prop :=
  ∀ (a : Addr) (m : MachineForm) (s : State), s.CommandReady a .supervisor →
    let g := s.countGood .cab
    ((m.tag = 0 ∨ m.number = 0 ∨ m.number = 0xFFFF#16 ∨ 15 < m.cls.toNat ∨ 63 < m.centre.toNat ∨ m.grades = 0
        ∨ 1 < m.hourCheck.toNat ∨ m.allowance = 0 ∨ (99999999 < m.allowance.toNat ∧ m.allowance ≠ 0xFFFFFFFF#32)) →
      exec (.loadMachine a m) s = .next (s.refusedCommand a 10#8 .range))
    ∧ ∀ (c : ClassId) (z : CentreId) (b : Bool), m.tag ≠ 0 → m.number ≠ 0 → m.number ≠ 0xFFFF#16 → m.cls.toNat = c.val →
      m.centre.toNat = z.val → m.grades ≠ 0 → m.hourCheck.toNat = b.toNat → m.allowance ≠ 0 →
      (m.allowance.toNat ≤ 99999999 ∨ m.allowance = 0xFFFFFFFF#32) →
      let allowance : Option Nat := if m.allowance = 0xFFFFFFFF#32 then none else some m.allowance.toNat
      let l : Loaded := ⟨m.tag, m.number.toNat, c, z, m.grades, b, allowance⟩
      let head := fun u : State => vget u.table.heads (bucketOf m.tag)
      let linked := fun (u : State) (i : EntryId) (rest : List EntryId) =>
        State.answer a.src .pass 10#8 .ok (beN 2 i.val) (u.setTable { u.table with
          free := rest, heads := vset u.table.heads (bucketOf m.tag) (some i)
          entries := vset u.table.entries i
            { loaded := l, remaining := allowance, period := u.table.period, strikes := 0, barred := false,
              sighted := false, lastHours := none, busy := u.activeHolder ⟨i, m.tag⟩, inUse := true, next := head u,
              check := checkCode l (head u) } })
      (∀ i pred, (s.table.walk (bucketOf m.tag) (some m.tag)).1 = .found i pred →
        ∃ r, exec (.loadMachine a m) s = .next
            ((g.setEntry i { s.entry i with loaded := l, remaining := r, period := s.table.period,
                                            check := checkCode l (s.entry i).next }).answer a.src .pass 10#8 .replaced
              (beN 2 i.val))
          ∧ ((s.entry i).period ≠ s.table.period → r = allowance)
          ∧ ((s.entry i).period = s.table.period → allowance = none → r = none)
          ∧ ((s.entry i).period = s.table.period → ∀ v, allowance = some v → (s.entry i).loaded.allowance = none → r = some v)
          ∧ ((s.entry i).period = s.table.period → ∀ v old, allowance = some v → (s.entry i).loaded.allowance = some old →
              ∀ left, (s.entry i).remaining = some left → r = some (min left v)))
      ∧ ((s.table.walk (bucketOf m.tag) (some m.tag)).1 = .missing →
        (∀ i rest, s.table.free = i :: rest → exec (.loadMachine a m) s = .next (linked g i rest))
        ∧ (s.table.free = [] → exec (.loadMachine a m) s = .next (s.refusedCommand a 10#8 .tableFull)))
      ∧ (∀ pred, (s.table.walk (bucketOf m.tag) (some m.tag)).1 = .fault pred →
        (∀ i rest, s.table.free = i :: rest → exec (.loadMachine a m) s = .next (linked (g.afterCut m.tag pred) i rest))
        ∧ (s.table.free = [] →
            exec (.loadMachine a m) s = .next ((g.afterCut m.tag pred).answer a.src .fail 10#8 .tableFull [])))

/-- DELETE_MACHINE of a found tag (R13): the entry leaves its chain, at the head or after its predecessor, whose check code is
recomputed; its in-use mark is cleared and its index pushed on the free stack. Without a reachable entry NOT_FOUND. -/
def Obligations.DeleteMachineUnlinksTheEntry : Prop :=
  ∀ (a : Addr) (tag : TagId) (s : State) (i : EntryId), s.CommandReady a .supervisor →
    let g := s.countGood .cab
    ((s.table.walk (bucketOf tag) (some tag)).1 = .found i none →
        exec (.deleteMachine a tag) s = .next
          ((g.setTable
              { s.table with
                heads := vset s.table.heads (bucketOf tag) (s.entry i).next, free := i :: s.table.free
                entries := vset s.table.entries i { s.entry i with inUse := false } }).answer a.src .pass 11#8 .ok
            (beN 2 i.val)))
      ∧ (∀ j, (s.table.walk (bucketOf tag) (some tag)).1 = .found i (some j) →
          let linked := vset s.table.entries j
            { s.entry j with next := (s.entry i).next, check := checkCode (s.entry j).loaded (s.entry i).next }
          exec (.deleteMachine a tag) s = .next
            ((g.setTable
                { s.table with
                  free := i :: s.table.free
                  entries := vset linked i { vget linked i with inUse := false } }).answer a.src .pass 11#8 .ok
              (beN 2 i.val)))
      ∧ ((s.table.walk (bucketOf tag) (some tag)).1 = .missing →
          exec (.deleteMachine a tag) s = .next (s.refusedCommand a 11#8 .notFound))
      ∧ (∀ pred, (s.table.walk (bucketOf tag) (some tag)).1 = .fault pred →
          exec (.deleteMachine a tag) s = .next ((g.afterCut tag pred).answer a.src .fail 11#8 .notFound []))

/-- READ_MACHINE by tag and by index (R14, R15): the entries read are refilled when their period is past and returned in their
read form, by index up to three in ascending order with the index to go on from; nothing else changes. -/
def Obligations.ReadMachineRefillsWhatItReads : Prop :=
  ∀ (a : Addr) (s : State), s.CommandReady a .operator →
    let g := s.countGood .cab
    let refilled := fun i : EntryId => if (s.entry i).period = s.table.period then s.entry i
      else { s.entry i with remaining := (s.entry i).loaded.allowance, period := s.table.period }
    (∀ tag i pred, (s.table.walk (bucketOf tag) (some tag)).1 = .found i pred →
        exec (.readMachineByTag a tag) s = .next
          ((g.setEntry i (refilled i)).answer a.src .pass 12#8 .ok ([1#8, 0xFF#8, 0xFF#8] ++ (refilled i).readForm i)))
      ∧ (∀ tag, (s.table.walk (bucketOf tag) (some tag)).1 = .missing →
          exec (.readMachineByTag a tag) s = .next (s.refusedCommand a 12#8 .notFound))
      ∧ (∀ tag pred, (s.table.walk (bucketOf tag) (some tag)).1 = .fault pred →
          exec (.readMachineByTag a tag) s = .next ((g.afterCut tag pred).answer a.src .fail 12#8 .notFound []))
      ∧ (∀ start : Half, start.toNat ≤ 511 →
          let inUse := (ids 512).filter fun i => decide (start.toNat ≤ i.val) && (s.entry i).inUse
          let got := inUse.take 3
          ∃ (t : State) (next : Option Nat), exec (.readMachineByIndex a start) s = .next
              (t.answer a.src .pass 12#8 .ok
                (beN 1 got.length ++ optN 2 next ++ (got.map fun i => (refilled i).readForm i).flatten))
            ∧ t = g.setTable { s.table with entries := t.table.entries }
            ∧ (∀ i, t.entry i = if i ∈ got then refilled i else s.entry i)
            ∧ (inUse.length < 3 → next = none)
            ∧ (∀ i : EntryId, got.length = 3 → got.getLast? = some i → next = if i.val = 511 then none else some (i.val + 1)))
      ∧ (∀ start : Half, 511 < start.toNat →
          exec (.readMachineByIndex a start) s = .next (s.refusedCommand a 12#8 .range))

/-- SWEEP is in flight, unanswered, with nothing walked. Its moments, which the model takes at idle steps (log entry 4, DESIGN
CHOICE): bucket by bucket, 0 to 63, every entry a walk reaches is marked, and a chain at fault is cut, counted, and sets
TABLE_FAULT (R6, R18); then entry by entry, 511 down to 0, an in-use entry without a mark is freed. SWEEP_DONE frees what
is left to free, answers with its three counts and ends the flight (R18, R160); it leaves the same whether a moment before
it passed at an idle step or not. -/
def Obligations.SweepFreesWhatNoChainReaches : Prop :=
  (∀ (a : Addr) (s : State), s.CommandReady a .site →
      exec (.sweep a) s = .next ((s.countGood .cab).setResp
        { s.resp with inFlight := some (.sweep a.src ⟨0, 512, [], 0, 0⟩) }))
    ∧ ∀ (s : State) (node : Node) (w : SweepWork), s.power.main = true → s.resp.inFlight = some (.sweep node w) →
      let goesOn := fun (u : State) (v : SweepWork) => u.setResp { s.resp with inFlight := some (.sweep node v) }
      (s.pending = [] →
        (∀ b : Bucket, w.walked = b.val →
          let walk := s.table.walk b none
          let v : SweepWork := { w with walked := b.val + 1, marks := w.marks ++ walk.2 }
          (walk.1 = .missing → step s = .next (goesOn s v))
          ∧ ∀ pred, walk.1 = .fault pred → step s = .next
              (goesOn ((s.setTable (s.table.cut b pred)).setCause .tableFault) { v with faults := w.faults + 1 }))
        ∧ (∀ i : EntryId, 64 ≤ w.walked → w.left = i.val + 1 →
          let stray := (s.entry i).inUse = true ∧ i ∉ w.marks
          (stray → step s = .next (goesOn
              (s.setTable { s.table with free := i :: s.table.free
                                         entries := vset s.table.entries i { s.entry i with inUse := false } })
              { w with left := i.val, freed := w.freed + 1 }))
          ∧ (¬ stray → step s = .next (goesOn s { w with left := i.val })))
        ∧ (64 ≤ w.walked → w.left = 0 → step s = .next s))
      ∧ (64 ≤ w.walked →
        let freed := (ids 512).filter fun i => decide (i.val < w.left) && (s.entry i).inUse && !w.marks.contains i
        ∃ t : State, exec .sweepDone s = .next
            (t.answer node .pass 16#8 .ok
              (beN 2 (w.freed + freed.length) ++ beN 2 ((ids 512).filter fun i => (t.entry i).inUse).length
                ++ beN 2 w.faults))
          ∧ t = (s.setTable t.table).setResp { s.resp with inFlight := none }
          ∧ t.table = { s.table with free := freed ++ s.table.free, entries := t.table.entries }
          ∧ ∀ i, t.entry i = if i ∈ freed then { s.entry i with inUse := false } else s.entry i)
      ∧ ∀ t, s.pending = [] → step s = .next t → exec .sweepDone t = exec .sweepDone s

/-- Chains: an entry just loaded is found at the head of its chain (R3, R5, R11); a walk that seeks a tag finds only an in-use
entry that holds it, in that tag's bucket, under a good check code; a chain cut at a fault has no fault left (R6). -/
def Obligations.WalksFindWhatIsLoaded : Prop :=
  (∀ (s : State) (l : Loaded) (i : EntryId) (rest : List EntryId),
      ((s.linkNew l i rest).table.walk (bucketOf l.tag) (some l.tag)).1 = .found i none)
    ∧ (∀ (t : Table) (b : Bucket) (tag : TagId) (i : EntryId) (pred : Option EntryId),
      (t.walk b (some tag)).1 = .found i pred →
      (vget t.entries i).inUse = true ∧ (vget t.entries i).loaded.tag = tag ∧ bucketOf tag = b
        ∧ (vget t.entries i).check = checkCode (vget t.entries i).loaded (vget t.entries i).next)
    ∧ ∀ (t : Table) (b : Bucket) (seek : Option TagId) (pred : Option EntryId),
      (t.walk b seek).1 = .fault pred → ((t.cut b pred).walk b seek).1 = .missing

/-! ### Identification and authorization (chapter 2) -/

/-- Refused tag reads, in the order of R23's steps: a quality of 0, a hose not IDLE or not ISSUE are ignored; then
UNCALIBRATED, SITE_STOPPED, UNKNOWN_TAG, TABLE_FAULT with the chain cut, BARRED and BUSY_ELSEWHERE queue one NOTICE
AUTH_REFUSED and change nothing else (R21, R24 to R26, R37). A zero tag is UNKNOWN_TAG even at an entry that a damaged store
makes its walk end at (R21; where that walk ends is log entry 32, DEDUCED). -/
def Obligations.TagReadIsRefusedBeforeItsTests : Prop :=
  ∀ (a : Addr) (tag : TagId) (hours : Word) (quality : Byte) (s : State) (h : HoseId) (p : Profile),
    s.HeadReady a h → quality.toNat ≤ 3 → (s.hose h).profile = some p →
    let g := s.countGood .field
    let read := exec (.tagRead a tag hours quality) s
    ((quality = 0#8 ∨ (s.hose h).phase ≠ .idle ∨ p.mode ≠ .issue) → read = .next g)
      ∧ (quality ≠ 0#8 → (s.hose h).phase = .idle → p.mode = .issue →
        ((s.hose h).cal = none ∨ (s.comp p.comp).settings = none → read = .next (g.noticeRefused h .uncalibrated tag none none))
        ∧ ((s.hose h).cal ≠ none → (s.comp p.comp).settings ≠ none →
          (s.siteStop = true → read = .next (g.noticeRefused h .siteStopped tag none none))
          ∧ (s.siteStop = false →
            ((s.table.walk (bucketOf tag) (some tag)).1 = .missing →
                read = .next (g.noticeRefused h .unknownTag tag none none))
            ∧ (tag = 0#48 → (∀ pred, (s.table.walk (bucketOf tag) (some tag)).1 ≠ .fault pred) →
                read = .next (g.noticeRefused h .unknownTag tag none none))
            ∧ (∀ pred, (s.table.walk (bucketOf tag) (some tag)).1 = .fault pred →
                read = .next ((g.afterCut tag pred).noticeRefused h .tableFault tag none none))
            ∧ (∀ i pred, tag ≠ 0#48 → (s.table.walk (bucketOf tag) (some tag)).1 = .found i pred →
                let number := some (s.entry i).loaded.number
                let strikes := some (s.entry i).strikes
                ((s.entry i).barred = true → read = .next (g.noticeRefused h .barred tag number strikes))
                ∧ ((s.entry i).barred = false → (s.entry i).busy ≠ none →
                    read = .next (g.noticeRefused h .busyElsewhere tag number strikes))))))

/-- A read that fails test A or test B (R27 to R29): the fail operation is applied to the entry's strike count, the entry is
barred when the count meets a threshold that is not 0, MACHINE_BARRED is set where it was ACTIVE, and the read is refused
with the count as it then stands. A zero tag reaches no test (R21). -/
def Obligations.FailedTestStrikesTheMachine : Prop :=
  ∀ (a : Addr) (tag : TagId) (hours : Word) (quality : Byte) (s : State) (h : HoseId) (p : Profile) (st : Settings)
    (i : EntryId) (pred : Option EntryId),
    s.HeadReady a h → 1 ≤ quality.toNat → quality.toNat ≤ 3 → (s.hose h).profile = some p → (s.hose h).phase = .idle →
    p.mode = .issue → (s.hose h).cal.isSome = true → (s.comp p.comp).settings = some st → s.siteStop = false →
    tag ≠ 0#48 → (s.table.walk (bucketOf tag) (some tag)).1 = .found i pred → (s.entry i).barred = false → (s.entry i).busy = none →
    let e := s.entry i
    let threshold := s.table.policy.threshold
    let gradeOk := e.loaded.grades.getLsbD st.grade.val
    let classOk := p.classMask.getLsbD e.loaded.cls.val
    let after := fun (op : StrikeOp) (why : Reason) =>
      let n := match op with | .zero => 0 | .keep => e.strikes | .incr => min (e.strikes + 1) 7 | .decr => e.strikes - 1
      let bars := decide (threshold ≠ 0 ∧ threshold ≤ n)
      let u := (s.countGood .field).setEntry i { e with strikes := n, barred := bars }
      (if bars then u.setCause .machineBarred else u).noticeRefused h why tag (some e.loaded.number) (some n)
    (gradeOk = false →
        exec (.tagRead a tag hours quality) s = .next (after s.table.policy.aFail .wrongGrade))
      ∧ (gradeOk = true → classOk = false →
        exec (.tagRead a tag hours quality) s = .next (after s.table.policy.aFail .wrongClass))
      ∧ (gradeOk = true → classOk = true → e.loaded.hourCheck = true → hours.toNat ≤ 999999 →
        ∀ last, e.lastHours = some last → (hours.toNat < last ∨ last + s.table.policy.maxJump < hours.toNat) →
        exec (.tagRead a tag hours quality) s = .next (after s.table.policy.bFail .hoursCheck))

/-- A read that passes both tests and is still refused (R30, R33 to R35): the pass operation is applied; where it bars, BARRED
with MACHINE_BARRED and no mark or hours written; else the sighted mark under roll call and the hours are written, a full log
is LOG_FULL, and an E below the minimum delivery, after the refill, LOW_ALLOWANCE or LOW_STOCK. The model's own, where a
damaged store leaves it open: a present allowance without a remaining one sets no limit (log entry 27, DESIGN CHOICE). -/
def Obligations.TagReadIsRefusedAfterItsTests : Prop :=
  ∀ (a : Addr) (tag : TagId) (hours : Word) (quality : Byte) (s : State) (h : HoseId) (p : Profile) (st : Settings)
    (i : EntryId) (pred : Option EntryId),
    s.HeadReady a h → 1 ≤ quality.toNat → quality.toNat ≤ 3 → (s.hose h).profile = some p → (s.hose h).phase = .idle →
    p.mode = .issue → (s.hose h).cal.isSome = true → (s.comp p.comp).settings = some st → s.siteStop = false →
    tag ≠ 0#48 → (s.table.walk (bucketOf tag) (some tag)).1 = .found i pred → (s.entry i).barred = false → (s.entry i).busy = none →
    let e := s.entry i
    let r : Option Nat := if hours.toNat ≤ 999999 then some hours.toNat else none
    let strikes := s.table.policy.pass.apply e.strikes
    let bars := s.table.policy.threshold ≠ 0 ∧ s.table.policy.threshold ≤ strikes
    let full := 1024 ≤ s.billing.level ∨ 4294967295 ≤ s.billing.nextSeq + s.billing.reserved
    let left := if e.period = s.table.period then e.remaining else e.loaded.allowance
    let allowance := if e.loaded.allowance.isSome then left else none
    let stock := ((s.comp p.comp).book - (s.comp p.comp).committedIssue - st.dead).toNat
    let written : Entry := { e with strikes := strikes, sighted := e.sighted || s.table.rollCall,
                                    lastHours := (match r with | some x => some x | none => e.lastHours) }
    let g := s.countGood .field
    let refused := fun (u : State) (why : Reason) => u.noticeRefused h why tag (some e.loaded.number) (some strikes)
    e.loaded.grades.getLsbD st.grade.val = true → p.classMask.getLsbD e.loaded.cls.val = true →
    (∀ x last, e.loaded.hourCheck = true → r = some x → e.lastHours = some last →
      last ≤ x ∧ x ≤ last + s.table.policy.maxJump) →
    (bars → exec (.tagRead a tag hours quality) s = .next
        (refused ((g.setEntry i { e with strikes := strikes, barred := true }).setCause .machineBarred) .barred))
      ∧ (¬ bars → full → exec (.tagRead a tag hours quality) s = .next (refused (g.setEntry i written) .logFull))
      ∧ (¬ bars → ¬ full → min p.maxPreset (min stock (allowance.getD stock)) < p.minDelivery →
        exec (.tagRead a tag hours quality) s = .next
          (refused (g.setEntry i { written with remaining := left, period := s.table.period })
            (match allowance with | some v => if v ≤ stock then .lowAllowance else .lowStock | none => .lowStock)))

/-- An accepted tag read (R23 to R36): an IDLE ISSUE hose with a calibration and a configured compartment, no site stop, an
ACTIVE entry that is not busy, both tests passed, no bar by the pass operation, log space, and E at least the minimum
delivery. The entry's strike, marks, hours and allowance are written and the transaction accepted with E and its limits, its
totals 0 and its flags no others. The model's own: where a damaged store leaves it open, a present allowance without a
remaining one sets no limit (log entry 27, DESIGN CHOICE); LOG_HIGH's ATTENTION (R118) goes ahead of the PROGRESS (log entry
17, DEDUCED). -/
def Obligations.TagReadIsAccepted : Prop :=
  ∀ (a : Addr) (tag : TagId) (hours : Word) (quality : Byte) (s : State) (h : HoseId) (p : Profile) (st : Settings)
    (i : EntryId) (pred : Option EntryId),
    s.HeadReady a h → 1 ≤ quality.toNat → quality.toNat ≤ 3 → (s.hose h).profile = some p → (s.hose h).phase = .idle →
    p.mode = .issue → (s.hose h).cal.isSome = true → (s.comp p.comp).settings = some st → s.siteStop = false →
    tag ≠ 0#48 → (s.table.walk (bucketOf tag) (some tag)).1 = .found i pred →
    let e := s.entry i
    let r : Option Nat := if hours.toNat ≤ 999999 then some hours.toNat else none
    let strikes := s.table.policy.pass.apply e.strikes
    let threshold := s.table.policy.threshold
    let left := if e.period = s.table.period then e.remaining else e.loaded.allowance
    let allowance := if e.loaded.allowance.isSome then left else none
    let stock := ((s.comp p.comp).book - (s.comp p.comp).committedIssue - st.dead).toNat
    let preset := min p.maxPreset (min stock (allowance.getD stock))
    e.barred = false → e.busy = none → e.loaded.grades.getLsbD st.grade.val = true →
    p.classMask.getLsbD e.loaded.cls.val = true →
    (∀ x last, e.loaded.hourCheck = true → r = some x → e.lastHours = some last →
      last ≤ x ∧ x ≤ last + s.table.policy.maxJump) →
    (threshold = 0 ∨ strikes < threshold) → s.billing.level < 1024 → s.billing.nextSeq + s.billing.reserved < 4294967295 →
    p.minDelivery ≤ preset →
    ∃ t c, exec (.tagRead a tag hours quality) s = .next t
      ∧ State.Accepted
          ((s.countGood .field).setEntry i
            { e with strikes := strikes, sighted := e.sighted || s.table.rollCall,
                     lastHours := (match r with | some x => some x | none => e.lastHours), remaining := left,
                     period := s.table.period }) t h p c
      ∧ c.kind = .delivery ∧ c.entry = some ⟨i, e.loaded.tag⟩ ∧ c.machine = some e.loaded.number
      ∧ c.cls = some e.loaded.cls ∧ c.centre = some e.loaded.centre ∧ c.grade = st.grade ∧ c.comp = p.comp
      ∧ c.price = some (vget s.billing.prices st.grade) ∧ c.fraction = some (vget s.billing.fractions e.loaded.cls)
      ∧ c.period = s.table.period ∧ c.preset = preset ∧ c.hoursRef = r
      ∧ (hasFlag c.flags .allowanceLimited = true ↔ ∃ v, allowance = some v ∧ v < p.maxPreset ∧ v = preset)
      ∧ (hasFlag c.flags .stockLimited = true ↔ stock < p.maxPreset ∧ stock = preset)
      ∧ (hasFlag c.flags .noHours = true ↔ r = none) ∧ hasFlag c.flags .manual = false
      ∧ c.flags = flagIf (allowance.any fun v => decide (v < p.maxPreset ∧ v = preset)) .allowanceLimited
          ||| flagIf (decide (stock < p.maxPreset ∧ stock = preset)) .stockLimited ||| flagIf r.isNone .noHours
      ∧ c.Untouched

/-- MANUAL_AUTH and RECEIVE_START of a SUPERVISOR refused, in the order of R38 and R40 (R41): RANGE, HOSE_BUSY and WRONG_MODE by
NOTICE REQUEST_REFUSED; UNCALIBRATED, SITE_STOPPED, LOG_FULL, and LOW_STOCK or LOW_ULLAGE or SHORT_REQUEST by NOTICE
AUTH_REFUSED without a tag. Nothing else changes. The hose byte of a RANGE refusal is the byte as received, above 5 as well
(10.2; log entry 15, DEDUCED). -/
def Obligations.OperatorStartIsRefused : Prop :=
  ∀ (a : Addr) (hose centre cls presence : Byte) (machine : Half) (reference volume : Word) (s : State),
    s.RequestReady a .supervisor →
    let g := s.countGood .cab
    let manual := exec (.manualAuth a hose centre cls presence machine reference) s
    let receive := exec (.receiveStart a hose volume presence reference) s
    let manualOk := hose.toNat < 6 ∧ centre.toNat < 64 ∧ cls.toNat < 16 ∧ machine ≠ 0
    let receiveOk := hose.toNat < 6 ∧ 1 ≤ volume.toNat ∧ volume.toNat ≤ 99999999
    (¬ manualOk → manual = .next (g.noticeRequest hose .range 6#8))
      ∧ (¬ receiveOk → receive = .next (g.noticeRequest hose .range 7#8))
      ∧ ∀ h : HoseId, hose.toNat = h.val →
        ((s.hose h).phase ≠ .idle →
          (manualOk → manual = .next (g.noticeRequest hose .hoseBusy 6#8))
          ∧ (receiveOk → receive = .next (g.noticeRequest hose .hoseBusy 7#8)))
        ∧ ((s.hose h).phase = .idle → ∀ p, (s.hose h).profile = some p →
          (manualOk → p.mode ≠ .issue → manual = .next (g.noticeRequest hose .wrongMode 6#8))
          ∧ (receiveOk → p.mode ≠ .receive → receive = .next (g.noticeRequest hose .wrongMode 7#8))
          ∧ ∀ start, ((manualOk ∧ p.mode = .issue ∧ start = manual) ∨ (receiveOk ∧ p.mode = .receive ∧ start = receive)) →
            ((s.hose h).cal = none ∨ (s.comp p.comp).settings = none → start = .next (g.noticeRefused h .uncalibrated 0 none none))
            ∧ ∀ st, (s.hose h).cal ≠ none → (s.comp p.comp).settings = some st →
              let full := 1024 ≤ s.billing.level ∨ 4294967295 ≤ s.billing.nextSeq + s.billing.reserved
              let stock := ((s.comp p.comp).book - (s.comp p.comp).committedIssue - st.dead).toNat
              let avail := ((st.high : Int) - (s.comp p.comp).book - (s.comp p.comp).committedReceive).toNat
              (s.siteStop = true → start = .next (g.noticeRefused h .siteStopped 0 none none))
              ∧ (s.siteStop = false → full → start = .next (g.noticeRefused h .logFull 0 none none))
              ∧ (s.siteStop = false → ¬ full →
                (p.mode = .issue → min p.maxPreset stock < p.minDelivery →
                    start = .next (g.noticeRefused h .lowStock 0 none none))
                ∧ (p.mode = .receive → min volume.toNat avail < p.minDelivery →
                    start = .next (g.noticeRefused h (if avail ≤ volume.toNat then .lowUllage else .shortRequest) 0 none none))))

/-- Accepted MANUAL_AUTH and RECEIVE_START (R38 to R41): the context is filled from the operands, E is the lesser of the hose
maximum and the stock term, or of the request and the receive availability, and the transaction is accepted, its totals 0
and its flags no others. LOG_HIGH's ATTENTION (R118) goes ahead of the PROGRESS: log entry 17 (DEDUCED). -/
def Obligations.OperatorStartIsAccepted : Prop :=
  ∀ (a : Addr) (s : State) (h : HoseId) (p : Profile) (st : Settings),
    s.RequestReady a .supervisor → (s.hose h).profile = some p → (s.hose h).phase = .idle → (s.hose h).cal.isSome = true →
    (s.comp p.comp).settings = some st → s.siteStop = false → s.billing.level < 1024 →
    s.billing.nextSeq + s.billing.reserved < 4294967295 →
    (∀ (centre cls presence : Byte) (machine : Half) (reference : Word) (z : CentreId) (k : ClassId),
        p.mode = .issue → centre.toNat = z.val → cls.toNat = k.val → machine ≠ 0#16 →
        let stock := ((s.comp p.comp).book - (s.comp p.comp).committedIssue - st.dead).toNat
        let preset := min p.maxPreset stock
        p.minDelivery ≤ preset →
        ∃ t c, exec (.manualAuth a (BitVec.ofNat 8 h.val) centre cls presence machine reference) s = .next t
          ∧ State.Accepted (s.countGood .cab) t h p c
          ∧ c.kind = .delivery ∧ c.entry = none ∧ c.machine = (if machine = 0xFFFF#16 then none else some machine.toNat)
          ∧ c.cls = some k ∧ c.centre = some z ∧ c.grade = st.grade ∧ c.comp = p.comp
          ∧ c.price = some (vget s.billing.prices st.grade) ∧ c.fraction = some (vget s.billing.fractions k)
          ∧ c.period = s.table.period ∧ c.preset = preset
          ∧ c.hoursRef = (if presence.getLsbD 0 then some reference.toNat else none)
          ∧ hasFlag c.flags .manual = true ∧ (hasFlag c.flags .stockLimited = true ↔ stock < p.maxPreset)
          ∧ c.flags = flagIf (decide (stock < p.maxPreset)) .stockLimited ||| Flag.manual.mask ∧ c.Untouched)
      ∧ (∀ (volume : Word) (presence : Byte) (reference : Word),
        p.mode = .receive → 1 ≤ volume.toNat → volume.toNat ≤ 99999999 →
        let avail := ((st.high : Int) - (s.comp p.comp).book - (s.comp p.comp).committedReceive).toNat
        p.minDelivery ≤ min volume.toNat avail →
        ∃ t c, exec (.receiveStart a (BitVec.ofNat 8 h.val) volume presence reference) s = .next t
          ∧ State.Accepted (s.countGood .cab) t h p c
          ∧ c.kind = .receipt ∧ c.entry = none ∧ c.machine = none ∧ c.cls = none ∧ c.centre = none ∧ c.grade = st.grade
          ∧ c.comp = p.comp ∧ c.price = none ∧ c.fraction = none ∧ c.period = s.table.period
          ∧ c.preset = min volume.toNat avail ∧ c.hoursRef = (if presence.getLsbD 0 then some reference.toNat else none)
          ∧ (hasFlag c.flags .ullageLimited = true ↔ avail < volume.toNat)
          ∧ c.flags = flagIf (decide (avail < volume.toNat)) .ullageLimited ∧ c.Untouched)

/-- The frames of one acceptance, by a tag read, MANUAL_AUTH or RECEIVE_START, stand in the order of R186: the AUTHORIZED
PROGRESS, NOTICE AUTH_GRANTED, then, where the nozzle is already lifted and flow starts at once, VALVE OPEN_SLOW on the
field port and the SLOW_START PROGRESS. AUTH_GRANTED carries the flags of the acceptance, before a flow start adds
CLOCK_UNSET (R36, R49). -/
def Obligations.AcceptanceQueuesItsFramesInOrder : Prop :=
  ∀ (i : Instr) (s t : State) (h : HoseId) (p : Profile), (s.hose h).profile = some p → (s.hose h).phase = .idle →
    ((∃ a tag hours quality, i = .tagRead a tag hours quality ∧ s.HeadReady a h)
      ∨ (∃ a hose centre cls presence machine reference, i = .manualAuth a hose centre cls presence machine reference
          ∧ s.RequestReady a .supervisor ∧ hose.toNat = h.val)
      ∨ (∃ a hose volume presence reference, i = .receiveStart a hose volume presence reference
          ∧ s.RequestReady a .supervisor ∧ hose.toNat = h.val)) →
    exec i s = .next t → (t.hose h).phase ≠ .idle →
    s.billing.level + 1 ≠ 960 → s.cab.sending.isSome = true → s.cab.queue.length ≤ 29 → s.cab.ordinaryWaiting ≤ 17 →
    ∃ c, (t.hose h).ctx = some c ∧
      let amount : Option Nat := match c.kind with | .delivery => some 0 | .receipt => none
      let granted := ownFrame 0 8 ([1#8] ++ beN 1 h.val ++ optN 2 c.machine ++ beN 4 c.preset
        ++ be2 (c.flags &&& 0x1FFF#16 &&& ~~~Flag.clockUnset.mask))
      let first : List Queued := [⟨.ordinary, progressFrame h .authorized 0 amount⟩, ⟨.ordinary, granted⟩]
      let field := { s.field with good := t.field.good }
      ((s.hose h).nozzle.isLifted = true →
          t.cab.queue = s.cab.queue ++ first ++ [⟨.ordinary, progressFrame h .slowStart 0 amount⟩]
            ∧ t.field = field.offerControl ⟨.valve h, valveFrame p.head .openSlow⟩)
        ∧ ((s.hose h).nozzle.isLifted = false → t.cab.queue = s.cab.queue ++ first ∧ t.field = field)

/-- ROLL_CALL (R42, R43): START clears every sighted mark, in use or free, and turns the switch on; STOP turns it off and clears
none; READ returns up to 60 machine numbers of in-use sighted entries in ascending index order and changes nothing. -/
def Obligations.RollCallMarksAndReads : Prop :=
  ∀ (a : Addr) (s : State),
    let g := s.countGood .cab
    (s.CommandReady a .supervisor →
        (∃ v, (∀ i, vget v i = { s.entry i with sighted := false })
          ∧ exec (.rollCallStart a) s = .next
              ((g.setTable { s.table with entries := v, rollCall := true }).answer a.src .pass 18#8 .ok []))
        ∧ exec (.rollCallStop a) s = .next
            ((g.setTable { s.table with rollCall := false }).answer a.src .pass 18#8 .ok []))
      ∧ (s.CommandReady a .operator → ∀ start : Half,
          (511 < start.toNat → exec (.rollCallRead a start) s = .next (s.refusedCommand a 18#8 .range))
          ∧ (start.toNat ≤ 511 →
              let marked := (ids 512).filter fun i =>
                decide (start.toNat ≤ i.val) && (s.entry i).inUse && (s.entry i).sighted
              let got := marked.take 60
              ∃ next, exec (.rollCallRead a start) s = .next
                  (g.answer a.src .pass 18#8 .ok
                    (beN 1 got.length ++ optN 2 next ++ (got.map fun i => beN 2 (s.entry i).loaded.number).flatten))
                ∧ (marked.length < 60 → next = none)
                ∧ ∀ i : EntryId, got.length = 60 → got.getLast? = some i →
                    next = if i.val = 511 then none else some (i.val + 1)))

/-- The loads under TABLE_PROTECT (R31, R109, R110, R152), refused FAIL PROTECTED while it is set: the strike policy, a jump of 0
taken as 1 with ADJUSTED; the eight prices together, each at most 99,999,999; one class's fraction, at most 511; one carriage
entry, nodes 0 and 1 removed from its sources with ADJUSTED. A field outside its range is RANGE. -/
def Obligations.TableProtectedLoads : Prop :=
  ∀ (a : Addr) (s : State), s.CommandReady a .site →
    let g := s.countGood .cab
    (s.resp.tableProtect = true →
        (∀ f, exec (.setStrikePolicy a f) s = .next (s.refusedCommand a 17#8 .protectedFlag))
        ∧ (∀ p, exec (.loadTariff a p) s = .next (s.refusedCommand a 30#8 .protectedFlag))
        ∧ (∀ cls x, exec (.loadClassRate a cls x) s = .next (s.refusedCommand a 31#8 .protectedFlag))
        ∧ (∀ cls f, exec (.loadFrameClass a cls f) s = .next (s.refusedCommand a 37#8 .protectedFlag)))
      ∧ (s.resp.tableProtect = false →
        (∀ f : PolicyForm,
          ((4 ≤ f.aFail.toNat ∨ 4 ≤ f.bFail.toNat ∨ 4 ≤ f.pass.toNat ∨ 7 < f.threshold.toNat) →
            exec (.setStrikePolicy a f) s = .next (s.refusedCommand a 17#8 .range))
          ∧ ∀ x y z : StrikeOp, f.aFail.toNat = x.code → f.bFail.toNat = y.code → f.pass.toNat = z.code →
            f.threshold.toNat ≤ 7 →
            let policy : StrikePolicy := ⟨x, y, z, f.threshold.toNat, max 1 f.maxJump.toNat⟩
            exec (.setStrikePolicy a f) s = .next ((g.setTable { s.table with policy := policy }).answer a.src .pass 17#8
              (if f.maxJump = 0#16 then .adjusted else .ok) policy.bytes))
        ∧ (∀ p : PriceForm,
          let prices := [p.p0.toNat, p.p1.toNat, p.p2.toNat, p.p3.toNat, p.p4.toNat, p.p5.toNat, p.p6.toNat, p.p7.toNat]
          ((∃ v ∈ prices, 99999999 < v) → exec (.loadTariff a p) s = .next (s.refusedCommand a 30#8 .range))
          ∧ ((∀ v ∈ prices, v ≤ 99999999) → ∃ v : Vector Nat 8, v.toList = prices
              ∧ exec (.loadTariff a p) s = .next
                  ((g.setBilling { s.billing with prices := v }).answer a.src .pass 30#8 .ok [])))
        ∧ (∀ (cls : Byte) (fraction : Half),
          ((15 < cls.toNat ∨ 511 < fraction.toNat) →
            exec (.loadClassRate a cls fraction) s = .next (s.refusedCommand a 31#8 .range))
          ∧ ∀ k : ClassId, cls.toNat = k.val → fraction.toNat ≤ 511 →
            exec (.loadClassRate a cls fraction) s = .next
              ((g.setBilling { s.billing with fractions := vset s.billing.fractions k fraction.toNat }).answer a.src .pass
                31#8 .ok []))
        ∧ ∀ (cls : Byte) (f : CarriageForm),
          ((cls.toNat < 13 ∨ 63 < cls.toNat ∨ 3 < f.directions.toNat ∨ 4 < f.guard.toNat) →
            exec (.loadFrameClass a cls f) s = .next (s.refusedCommand a 37#8 .range))
          ∧ ∀ (k : Fin 51) (guard : Guard), cls.toNat = k.val + 13 → f.directions.toNat ≤ 3 → f.guard.toNat = guard.code →
            let e : CarriageEntry := ⟨f.directions.getLsbD 0, f.directions.getLsbD 1, f.sources &&& 0xFFFFFFFC#32, guard⟩
            exec (.loadFrameClass a cls f) s = .next
              ((g.setScreen { s.screen with table := vset s.screen.table k e }).answer a.src .pass 37#8
                (if f.sources.getLsbD 0 || f.sources.getLsbD 1 then .adjusted else .ok) e.bytes))

/-! ### Hose transactions (chapter 3) -/

/-- A NOZZLE frame sets the nozzle state (R48). LIFTED or CONNECTED at an AUTHORIZED hose without site stop starts flow (R49);
HUNG or DISCONNECTED in a flowing phase or HELD enters CLOSING with NOZZLE_HUNG; elsewhere, CLOSING with a hang apart, the
state is all it sets. -/
def Obligations.NozzleStartsAndEndsFlow : Prop :=
  ∀ (a : Addr) (value : Byte) (v : Nozzle) (s : State) (h : HoseId), s.HeadReady a h → value.toNat = v.code →
    let g := s.countGood .field
    let set := g.setHose h { s.hose h with nozzle := v }
    (∀ p c, (s.hose h).profile = some p → (s.hose h).ctx = some c →
      ((s.hose h).phase = .authorized → (v = .lifted ∨ v = .connected) → s.siteStop = false →
          exec (.nozzle a value) s = .next
            (((g.setHose h { s.hose h with
                nozzle := v, phase := .slowStart, mark := none, resG := 0, resN := 0, lastValve := some .openSlow
                ctx := some { c with gross := 0, net := 0, heldTemp := none, startTime := some s.resp.clock,
                                     flags := c.flags ||| flagIf (!s.resp.clockSet) .clockUnset }
                timers := { Timers.stopped with noFlow := some p.noFlow, silence := some p.silence } }).setFieldPort
              (g.field.offerControl ⟨.valve h, valveFrame p.head .openSlow⟩)).setCabPort
                (s.cab.offerOrdinary (progressFrame h .slowStart 0
                  (match c.kind with | .delivery => some 0 | .receipt => none)))))
        ∧ (((s.hose h).phase.flowing = true ∨ (s.hose h).phase = .held) → (v = .hung ∨ v = .disconnected) →
          exec (.nozzle a value) s = .next (set.closedAt h p c .nozzleHung)))
      ∧ (((s.hose h).phase = .off ∨ (s.hose h).phase = .idle ∨ (s.hose h).phase = .result
          ∨ ((v = .lifted ∨ v = .connected) ∧ (s.hose h).phase ≠ .authorized)
          ∨ ((s.hose h).phase = .authorized ∧ (v = .hung ∨ v = .disconnected ∨ s.siteStop = true))) →
          exec (.nozzle a value) s = .next set)

/-- The events that take a flowing or held hose into CLOSING (R54, R56, R57, R60, R61): no-flow, meter-silence with
METER_SILENT, hold limit, a head fault with HEAD_FAULT, and STOP. A head fault in another phase sets its cause alone, and
a head status of 0 does nothing. The cause is set before CLOSING is entered, so that an ATTENTION frame goes ahead of the
PROGRESS: R131 says it of METER_SILENT, and of HEAD_FAULT it is log entry 17 (DEDUCED). -/
def Obligations.FlowEndsInClosing : Prop :=
  ∀ (s : State) (h : HoseId), s.power.main = true →
    let flowing := (s.hose h).phase.flowing = true
    let held := (s.hose h).phase = .held
    (∀ (p : Profile) (c : Context), (s.hose h).profile = some p → (s.hose h).ctx = some c →
      (flowing → (s.hose h).timers.noFlow.isSome = true →
        exec (.noFlowExpiry h) s = .next (s.closedAt h p c .noFlow))
      ∧ (flowing ∨ held → (s.hose h).timers.silence.isSome = true →
        exec (.meterSilenceExpiry h) s = .next ((s.setCause .meterSilent).closedAt h p c .meterSilent))
      ∧ (held → (s.hose h).timers.holdLimit.isSome = true →
        exec (.holdLimitExpiry h) s = .next (s.closedAt h p c .holdExpired))
      ∧ (flowing ∨ held →
        (∀ a code, s.HeadReady a h → code ≠ 0#8 → exec (.headStatus a code) s = .next
            (((s.countGood .field).setCause .headFault).closedAt h p c .headFault))
        ∧ (∀ a, s.RequestReady a .operator → exec (.stop a (BitVec.ofNat 8 h.val)) s = .next
            ((s.countGood .cab).closedAt h p c .operatorStop))))
    ∧ ∀ a code, s.HeadReady a h →
      (code = 0#8 → exec (.headStatus a code) s = .next (s.countGood .field))
      ∧ (code ≠ 0#8 → ¬ flowing → ¬ held →
        exec (.headStatus a code) s = .next ((s.countGood .field).setCause .headFault))

/-- HOLD of a flowing hose enters HELD with mark OPERATOR (R61); RESUME of a held hose goes back to SLOW_START or SLOW_STOP by
the remaining volume, or to CLOSING where nothing remains, and is refused under site stop, or below SUPERVISOR where the
mark is SITE (R60, R62). -/
def Obligations.HoldAndResume : Prop :=
  ∀ (a : Addr) (s : State) (h : HoseId) (p : Profile) (c : Context), s.RequestReady a .operator →
    (s.hose h).profile = some p → (s.hose h).ctx = some c →
    let g := s.countGood .cab
    let hose := BitVec.ofNat 8 h.val
    let refused := fun (why : Reason) => g.cabOrdinary (ownFrame 0 8 [3#8, hose, BitVec.ofNat 8 why.code, 3#8])
    ((s.hose h).phase.flowing = true → exec (.hold a hose) s = .next (g.heldAt h p c .operator))
      ∧ ((s.hose h).phase ≠ .held → exec (.resume a hose) s = .next (refused .wrongPhase))
      ∧ ((s.hose h).phase = .held →
        (s.siteStop = true → exec (.resume a hose) s = .next (refused .siteStopped))
        ∧ (s.siteStop = false → (s.hose h).mark = some .site → (s.levelOfNode a.src).code < Level.supervisor.code →
            exec (.resume a hose) s = .next (refused .privilege))
        ∧ (s.siteStop = false → ((s.hose h).mark ≠ some .site ∨ Level.supervisor.code ≤ (s.levelOfNode a.src).code) →
            (c.preset ≤ c.net → exec (.resume a hose) s = .next (g.closedAt h p c .presetReached))
            ∧ (c.net < c.preset → c.preset ≤ c.net + p.slowStop →
                exec (.resume a hose) s = .next (g.resumedAt h p c .slowStop))
            ∧ (c.net + p.slowStop < c.preset → exec (.resume a hose) s = .next (g.resumedAt h p c .slowStart))))

/-- Site stop, by EMERGENCY_STOP or SITE_STOP (R63): every flowing hose enters HELD with mark SITE, with VALVE CLOSE on the field
port and its PROGRESS on the cab port, hose by hose in ascending number (R187); a held hose's mark becomes SITE; no other
hose changes; a stop already in force changes nothing. SITE_RESUME clears it and changes no hose (R64). -/
def Obligations.SiteStopHoldsEveryFlowingHose : Prop :=
  ∀ (a : Addr) (s : State), s.HosesOk →
    let stopped : HoseId → Hose := fun h =>
      if (s.hose h).phase.flowing then
        { s.hose h with
          phase := .held, mark := some .site, lastValve := some .close
          timers := { Timers.stopped with silence := (s.hose h).timers.silence
                                          holdLimit := (s.hose h).profile.map Profile.holdLimit } }
      else if (s.hose h).phase = .held then { s.hose h with mark := some .site } else s.hose h
    let closes := (ids 6).foldl (fun (q : PortState) h => match (s.hose h).profile with
      | some p => if (s.hose h).phase.flowing then q.offerControl ⟨.valve h, valveFrame p.head .close⟩ else q
      | none => q) s.field
    let progresses := (ids 6).foldl (fun (q : PortState) h => match (s.hose h).ctx with
      | some c => if (s.hose h).phase.flowing then q.offerOrdinary (progressFrame h .held c.net c.amountSoFar) else q
      | none => q) { s.cab with good := min (s.cab.good + 1) 4294967295 }
    (s.RequestReady a .operator → s.siteStop = false →
        ∃ t, exec (.emergencyStop a) s = .next t ∧ (∀ h, t.hose h = stopped h)
          ∧ t = { s with siteStop := true, hoses := t.hoses, field := closes, cab := progresses })
      ∧ (s.RequestReady a .operator → s.siteStop = true → exec (.emergencyStop a) s = .next (s.countGood .cab))
      ∧ (s.CommandReady a .supervisor → s.siteStop = false →
        ∃ t : State, exec (.siteStop a) s = .next (t.answer a.src .pass 21#8 .ok []) ∧ (∀ h, t.hose h = stopped h)
          ∧ t = { s with siteStop := true, hoses := t.hoses, field := closes, cab := progresses })
      ∧ (s.CommandReady a .supervisor → s.siteStop = true →
        exec (.siteStop a) s = .next ((s.countGood .cab).answer a.src .pass 21#8 .ok []))
      ∧ (s.CommandReady a .supervisor →
        exec (.siteResume a) s = .next (((s.countGood .cab).setSiteStop false).answer a.src .pass 22#8 .ok []))

/-- The end of a transaction. An AUTHORIZED hose whose window expires, or which is stopped, returns to IDLE without a record,
with NOTICE REQUEST_REFUSED AUTH_EXPIRED or OPERATOR_CANCEL and its PROGRESS (R53, R60), and so, with its PROGRESS alone,
does CLOSING that ends, by the settle timer or a hang, with nothing metered (R59). With something metered it enters RESULT
with its PROGRESS (R58, R65): the commitment's remainder is removed, the entry settled, and amount, end time and
calibration counter are written. A settlement under a present allowance without a remaining one deducts nothing: log entry
27 (DESIGN CHOICE). -/
def Obligations.TransactionsEndInResultOrIdle : Prop :=
  ∀ (s : State) (h : HoseId) (p : Profile) (c : Context), s.power.main = true → (s.hose h).profile = some p →
    (s.hose h).ctx = some c →
    let refused := fun (u : State) (reason kind : Byte) =>
      (u.cab.offerOrdinary (ownFrame 0 8 [3#8, BitVec.ofNat 8 h.val, reason, kind])).offerOrdinary (progressFrame h .idle 0 none)
    let ended := fun (u t : State) =>
      (c.gross = 0 ∧ c.net = 0 → State.Released u t h c ∧ t.cab = u.cab.offerOrdinary (progressFrame h .idle 0 none))
        ∧ (¬ (c.gross = 0 ∧ c.net = 0) →
          State.ResultEntered u t h p c ∧ t.cab = u.cab.offerOrdinary (progressFrame h .result c.net c.amountSoFar))
    ((s.hose h).phase = .authorized →
        ((s.hose h).timers.window.isSome = true →
          ∃ t, exec (.authWindowExpiry h) s = .next t ∧ State.Released s t h c ∧ t.cab = refused s 20#8 0xFF#8)
        ∧ ∀ a, s.RequestReady a .operator →
          ∃ t, exec (.stop a (BitVec.ofNat 8 h.val)) s = .next t ∧ State.Released (s.countGood .cab) t h c
            ∧ t.cab = refused (s.countGood .cab) 21#8 4#8)
      ∧ ((s.hose h).phase = .closing →
        ((s.hose h).timers.settle.isSome = true → ∃ t, exec (.settleExpiry h) s = .next t ∧ ended s t)
        ∧ ∀ a value v, s.HeadReady a h → value.toNat = Nozzle.code v → (v = .hung ∨ v = .disconnected) →
          ∃ t, exec (.nozzle a value) s = .next t
            ∧ ended ((s.countGood .field).setHose h { s.hose h with nozzle := v }) t)

/-- Posting a hose in RESULT, by POST or by the post delay (R66, R116, R119, R126): the record joins the log under the next
sequence number, the reservation is turned into it, a delivery is booked to its cost centre, the hose enters IDLE. -/
def Obligations.PostingWritesTheRecord : Prop :=
  ∀ (s : State) (h : HoseId) (c : Context), (s.hose h).phase = .result → (s.hose h).ctx = some c →
    let record : Record :=
      { seq := s.billing.nextSeq, kind := (match c.kind with | .delivery => .delivery | .receipt => .receipt),
        endCause := c.endCause.getD .powerLost, flags := c.flags, hose := some h, comp := c.comp, grade := c.grade,
        cls := c.cls, centre := c.centre, machine := c.machine, tag := c.entry.map EntryRef.tag, period := c.period,
        startTime := c.startTime.getD 0, endTime := c.endTime.getD 0, gross := c.gross, net := c.net,
        lastTemp := c.lastTemp, calCounter := c.calCounter.getD 0, amount := c.amount, hoursRef := c.hoursRef }
    let posted := fun (g t : State) =>
      t.billing = { s.billing with
          stored := s.billing.stored ++ [record], nextSeq := s.billing.nextSeq + 1, reserved := s.billing.reserved - 1
          centres := t.billing.centres }
        ∧ (∀ z, vget t.billing.centres z =
            if c.kind = .delivery ∧ c.centre = some z then
              let x := vget s.billing.centres z
              { net := min (x.net + c.net) 999999999999, amount := min (x.amount + c.amount.getD 0) 999999999999,
                count := min (x.count + 1) 65535, changed := true,
                saturated := x.saturated || decide (999999999999 < x.net + c.net)
                  || decide (999999999999 < x.amount + c.amount.getD 0) || decide (65535 < x.count + 1) }
            else vget s.billing.centres z)
        ∧ t.hoses = vset s.hoses h { s.hose h with phase := .idle, ctx := none, mark := none, timers := .stopped }
        ∧ t.cab = (g.cab.offerOrdinary (ownFrame 0 8 ([4#8] ++ beN 1 h.val ++ beN 4 s.billing.nextSeq))).offerOrdinary
            (progressFrame h .idle 0 none)
        ∧ t = { s with billing := t.billing, hoses := t.hoses, cab := t.cab }
    (s.power.main = true → (s.hose h).timers.postDelay.isSome = true →
        ∃ t, exec (.postDelayExpiry h) s = .next t ∧ posted s t)
      ∧ (∀ a, s.RequestReady a .operator →
        ∃ t, exec (.post a (BitVec.ofNat 8 h.val)) s = .next t ∧ posted (s.countGood .cab) t)

/-- An applied sample in an execution phase, whole (R50 to R52, R71 to R79). The factor is that of the rate's band, and
OVERSPEED a rate above the overspeed bound (R73); a temperature outside −40.0 to 70.0 degrees is clamped, a missing one the
held one, else 15.0 (R75); VCF is 1,000,000 less the coefficient per tenth of a degree above 15.0 (R76). Totals and
residues follow, the book moves by the net increment and is judged, the commitment falls by the term's fall, the running
timers restart, the phase follows the remaining volume with its VALVE and PROGRESS frames, and the sample PROGRESS is queued
where there is room. The model's own: TOTAL_SATURATED joins strictly past the bound (log entry 29), and a book outside 48
bits takes a free value (log entry 13). -/
def Obligations.AppliedSampleIsMetered : Prop :=
  ∀ (a : Addr) (seq : Byte) (total temp : Half) (s : State) (h : HoseId) (p : Profile) (c : Context) (cal : Calibration)
    (st : Settings) (r : PulseRef),
    s.HeadReady a h → (s.hose h).profile = some p → (s.hose h).ctx = some c → (s.hose h).cal = some cal →
    (s.comp c.comp).settings = some st → (s.hose h).phase.executing = true → (s.hose h).pulse = some r → seq ≠ r.seq →
    let old := s.hose h
    -- the stages
    let step := (seq - r.seq).toNat
    let pulses := (total - r.total).toNat
    let rate := pulses / step
    let factor := if rate ≤ cal.u1 then cal.c1 else if rate ≤ cal.u2 then cal.c2 else if rate ≤ cal.u3 then cal.c3 else cal.c4
    let product := pulses * cal.weight * factor + old.resG
    let g := product / 100000000
    let given : Option Int := if temp = 0x8000#16 then none else some temp.toInt
    let held : Option Int := match given with | some x => some (max (-400) (min x 700)) | none => c.heldTemp
    let used := held.getD 150
    let correction : Int := 1000000 - ((vget s.betas c.grade : Nat) : Int) * (used - 150)
    let sum := g * correction.toNat + old.resN
    let n := sum / 1000000
    -- the context and the phase
    let net := min (c.net + n) 4294967295
    let phase := match old.phase with
      | .slowStart => if c.preset ≤ net then .closing else if c.preset ≤ net + p.slowStop then .slowStop
          else if p.slowStart ≤ net then .fullFlow else .slowStart
      | .fullFlow => if c.preset ≤ net then .closing else if c.preset ≤ net + p.slowStop then .slowStop else .fullFlow
      | .slowStop => if c.preset ≤ net then .closing else .slowStop
      | ph => ph
    let moves := decide (phase ≠ old.phase)
    let ends := moves && decide (phase = .closing)
    let ctx : Context :=
      { c with
        gross := min (c.gross + g) 4294967295, net := net, heldTemp := held
        lastTemp := if 0 < g then some used else c.lastTemp
        endCause := if ends then some .presetReached else c.endCause
        flags := c.flags ||| flagIf (decide (1 < step)) .sampleGap ||| flagIf (decide (cal.uOver < rate)) .overspeed
          ||| flagIf (given.any fun x => decide (x < -400 ∨ 700 < x)) .tempClamped
          ||| flagIf (given.isNone && c.heldTemp.isSome && decide (0 < g)) .tempHeld
          ||| flagIf (given.isNone && c.heldTemp.isNone && decide (0 < g)) .uncompensated
          ||| flagIf (decide (4294967295 < c.gross + g ∨ 4294967295 < c.net + n)) .totalSaturated }
    let valve : Option ValveCmd := if ends then some .close
      else match old.phase, phase with | .slowStart, .fullFlow => some .openFull | .fullFlow, .slowStop => some .openSlow | _, _ => none
    let running : Timers :=
      { old.timers with
        silence := if old.timers.silence.isSome then some p.silence else none
        noFlow := if 0 < pulses ∧ old.phase.flowing = true then some p.noFlow else old.timers.noFlow
        settle := if 0 < pulses ∧ old.phase = .closing then some p.settle else old.timers.settle }
    let hose : Hose :=
      { old with
        phase := phase, ctx := some ctx, pulse := some ⟨total, seq⟩, resG := product % 100000000, resN := sum % 1000000
        mark := if moves then none else old.mark
        timers := if ends then { Timers.stopped with settle := some p.settle }
          else if moves then { Timers.stopped with noFlow := running.noFlow, silence := running.silence } else running
        lastValve := match valve with | some v => some v | none => old.lastValve }
    -- the compartment
    let x := s.comp c.comp
    let exact : Int := match c.kind with | .delivery => x.book - n | .receipt => x.book + n
    let book := if fits48 exact then exact else (Config.unstated48 s.draws exact).toInt
    let low := decide (x.restock = .normal ∧ book < st.low)
    let back := decide (x.restock ≠ .normal ∧ (st.low : Int) + st.hysteresis ≤ book)
    let fall := (c.preset - c.net) - (c.preset - net)
    let comp : Compartment :=
      { x with
        book := book
        committedIssue := match c.kind with | .delivery => x.committedIssue - fall | .receipt => x.committedIssue
        committedReceive := match c.kind with | .receipt => x.committedReceive - fall | .delivery => x.committedReceive
        restock := if low then .low else if back then .normal else x.restock
        orderRef := if back then none else x.orderRef
        requestTime := if low then some s.resp.clock else if back then none else x.requestTime }
    -- the ports
    let progress := progressFrame h phase net
      (match c.kind with
        | .delivery => some ((net * c.price.getD 0 * c.fraction.getD 0 + 12800000) / 25600000)
        | .receipt => none)
    let judged := if low then s.cab.offerControl ⟨.restock c.comp, ownFrame 0 10 (beN 1 c.comp.val ++ beN 1 st.grade.val
      ++ be48 (BitVec.ofInt 48 book) ++ beN 4 st.capacity ++ be4 s.resp.clock)⟩ else s.cab
    let entered := if moves then judged.offerOrdinary progress else judged
    let received := { s.field with good := min (s.field.good + 1) 4294967295 }
    exec (.meterSample a seq total temp) s = .next
      { s with
        hoses := vset s.hoses h hose
        comps := vset s.comps c.comp comp
        field := match valve with | some v => received.offerControl ⟨.valve h, valveFrame p.head v⟩ | none => received
        cab := if entered.room then entered.offerOrdinary progress else entered
        draws := if fits48 exact then s.draws else s.draws + 1 }

/-- Samples that meter no transaction: at an OFF hose, or a duplicate, nothing changes; a reference-only one sets the pulse
reference and restarts a running silence timer (R71); without a calibration pulses set UNAUTHORIZED_FLOW alone (R81). Pulses
at an IDLE, AUTHORIZED or RESULT hose, whole (R67, R80): measured from residues of 0 at 15.0 degrees, they join the unbilled
counter and, where the compartment is configured, leave its book for the unattributed draw (for a RECEIVE hose the reverse),
the book is judged with its RESTOCK (R89, R96, R97), and UNAUTHORIZED_FLOW is set; no timer restarts and no PROGRESS is
queued. The model's own: RESTOCK ahead of ATTENTION (log entry 17, DEDUCED), and a book or draw outside 48 bits takes a free
value (log entry 13). -/
def Obligations.UnbilledAndIgnoredSamples : Prop :=
  ∀ (a : Addr) (seq : Byte) (total temp : Half) (s : State) (h : HoseId) (p : Profile),
    s.HeadReady a h → (s.hose h).profile = some p →
    let g := s.countGood .field
    let referenced := { s.hose h with pulse := some ⟨total, seq⟩ }
    let sampled := exec (.meterSample a seq total temp) s
    ((s.hose h).phase = .off → sampled = .next g)
      ∧ (∀ r, (s.hose h).pulse = some r → seq = r.seq → sampled = .next g)
      ∧ ((s.hose h).phase ≠ .off → (s.hose h).pulse = none → sampled = .next
        (g.setHose h { referenced with timers := { (s.hose h).timers with
          silence := if (s.hose h).timers.silence.isSome then some p.silence else none } }))
      ∧ (∀ r, (s.hose h).phase ≠ .off → (s.hose h).pulse = some r → seq ≠ r.seq → (s.hose h).phase.executing = false →
        let pulses := (total - r.total).toNat
        (pulses = 0 → sampled = .next (g.setHose h referenced))
        ∧ (pulses ≠ 0 → (s.hose h).cal = none → sampled = .next ((g.setHose h referenced).setCause .unauthorizedFlow))
        ∧ (pulses ≠ 0 → ∀ cal, (s.hose h).cal = some cal →
          -- the volume, and the book's change
          let rate := pulses / (seq - r.seq).toNat
          let factor := if rate ≤ cal.u1 then cal.c1 else if rate ≤ cal.u2 then cal.c2 else if rate ≤ cal.u3 then cal.c3 else cal.c4
          let n := pulses * cal.weight * factor / 100000000
          let d : Int := match p.mode with | .receive => n | _ => -(n : Int)
          let x := s.comp p.comp
          let hoses := vset s.hoses h { referenced with unbilled := min ((s.hose h).unbilled + n) 4294967295 }
          let received := { s.field with good := min (s.field.good + 1) 4294967295 }
          -- the cause
          let causes := s.att.causes ||| 0x0001#16
          let attended := fun q : PortState => match s.att.state with
            | .armed => q.offerControl ⟨.attention, ownFrame 0 9 (be2 causes)⟩
            | .fired => q
          (x.settings = none → sampled = .next
            { s with hoses := hoses, field := received, att := ⟨causes, .fired⟩, cab := attended s.cab })
          ∧ ∀ st, x.settings = some st →
            let fits := fun v : Int => decide (-(2 ^ 47) ≤ v ∧ v < 2 ^ 47)
            let bookSum := x.book + d
            let drawSum := x.unattributed - d
            let book := if fits bookSum then bookSum else (Config.unstated48 s.draws bookSum).toInt
            let draws := if fits bookSum then s.draws else s.draws + 1
            let low := decide (x.restock = .normal ∧ book < st.low)
            let back := decide (x.restock ≠ .normal ∧ (st.low : Int) + st.hysteresis ≤ book)
            let judged := if low then s.cab.offerControl ⟨.restock p.comp, ownFrame 0 10 (beN 1 p.comp.val
              ++ beN 1 st.grade.val ++ be48 (BitVec.ofInt 48 book) ++ beN 4 st.capacity ++ be4 s.resp.clock)⟩ else s.cab
            sampled = .next
              { s with
                hoses := hoses, field := received, att := ⟨causes, .fired⟩, cab := attended judged
                comps := vset s.comps p.comp
                  { x with
                    book := book
                    unattributed := if fits drawSum then drawSum else (Config.unstated48 draws drawSum).toInt
                    restock := if low then .low else if back then .normal else x.restock
                    orderRef := if back then none else x.orderRef
                    requestTime := if low then some s.resp.clock else if back then none else x.requestTime }
                draws := if fits drawSum then draws else draws + 1 }))

/-- LOAD_HOSE_PROFILE (R45, R46): a hose above 5 RANGE; a hose not IDLE or OFF BUSY; an operand outside its range, a taken head node
or a DEFAULT maximum preset RANGE; a VALVE waiting for another node BUSY; else the profile is stored with each field at its
default where DEFAULT and clamped to its range, a maximum preset below the minimum delivery raised to it, ADJUSTED exactly
where a field was clamped or raised; the hose is OFF or IDLE by its mode, with nozzle HUNG and no pulse reference; the rest of the hose stays. -/
def Obligations.HoseProfileIsLoadedAtRest : Prop :=
  ∀ (a : Addr) (hose : Byte) (f : ProfileForm) (s : State), s.CommandReady a .site →
    let load := exec (.loadHoseProfile a hose f) s
    (6 ≤ hose.toNat → load = .next (s.refusedCommand a 20#8 .range))
    ∧ ∀ h : HoseId, hose.toNat = h.val →
      ((s.hose h).phase ≠ .off → (s.hose h).phase ≠ .idle → load = .next (s.refusedCommand a 20#8 .busy))
      ∧ ((s.hose h).phase = .off ∨ (s.hose h).phase = .idle →
        ((2 < f.mode.toNat ∨ f.head.toNat < 2 ∨ 31 < f.head.toNat ∨ 3 < f.comp.toNat ∨ f.maxPreset = 0xFFFFFFFF#32) →
          load = .next (s.refusedCommand a 20#8 .range))
        ∧ ∀ (m : Mode) (n : Node) (c : CompId), f.mode.toNat = m.code → f.head.toNat = n.val → 2 ≤ n.val →
          f.comp.toNat = c.val → f.maxPreset ≠ 0xFFFFFFFF#32 →
          let taken := (∃ k q, k ≠ h ∧ (s.hose k).profile = some q ∧ q.head = n) ∨ (s.probeOwner n).isSome = true
          let elsewhere := ∃ it ∈ s.field.queue, it.kind = .valve h ∧ it.frame.dest ≠ n
          let stored := fun (ones dflt lo hi v : Nat) => if v = ones then dflt else max lo (min v hi)
          let asGiven := fun (ones lo hi v : Nat) => v = ones ∨ (lo ≤ v ∧ v ≤ hi)
          let least := stored 4294967295 1000 100 100000 f.minDelivery.toNat
          let p : Profile :=
            { mode := m, head := n, comp := c, classMask := f.classMask
              maxPreset := max (max 1 (min f.maxPreset.toNat 99999999)) least, minDelivery := least
              slowStart := stored 65535 2000 0 50000 f.slowStart.toNat, slowStop := stored 65535 3000 0 50000 f.slowStop.toNat
              window := stored 65535 120 10 600 f.window.toNat, noFlow := stored 65535 45 5 300 f.noFlow.toNat
              silence := stored 255 20 5 100 f.silence.toNat, settle := stored 255 30 5 100 f.settle.toNat
              postDelay := stored 65535 60 0 600 f.postDelay.toNat, holdLimit := stored 65535 300 30 1800 f.holdLimit.toNat }
          let unchanged := p.maxPreset = f.maxPreset.toNat ∧ asGiven 4294967295 100 100000 f.minDelivery.toNat
            ∧ asGiven 65535 0 50000 f.slowStart.toNat ∧ asGiven 65535 0 50000 f.slowStop.toNat
            ∧ asGiven 65535 10 600 f.window.toNat ∧ asGiven 65535 5 300 f.noFlow.toNat ∧ asGiven 255 5 100 f.silence.toNat
            ∧ asGiven 255 5 100 f.settle.toNat ∧ asGiven 65535 0 600 f.postDelay.toNat
            ∧ asGiven 65535 30 1800 f.holdLimit.toNat
          let ph : Phase := if m = .off then .off else .idle
          (taken → load = .next (s.refusedCommand a 20#8 .range))
          ∧ (¬ taken → elsewhere → load = .next (s.refusedCommand a 20#8 .busy))
          ∧ (¬ taken → ¬ elsewhere → load = .next
            ((((s.countGood .cab).setHose h { s.hose h with
                profile := some p, phase := ph, mark := none, timers := .stopped, nozzle := .hung, pulse := none,
                lastValve := none }).cabOrdinary
              (progressFrame h ph ((s.hose h).ctx.elim 0 Context.net) ((s.hose h).ctx.bind Context.amountSoFar))).answer
                a.src .pass 20#8 (if unchanged then .ok else .adjusted) p.bytes)))

/-! ### Flow computation (chapter 4) -/

/-- Nothing is lost between samples (R74, R77, R78): over any applied samples at one calibration and coefficient, starting from
residues of 0, gross is the floor of the exact sum of p × W × C over 100,000,000 and net the floor of the exact sum of
g × VCF over 1,000,000. -/
def Obligations.TotalsAreFloorsOfTheExactSums : Prop :=
  ∀ (cal : Calibration) (beta : Nat) (samples : List (Nat × Nat × Option Int)), beta ≤ 200 →
    let runs := samples.foldl
      (fun (acc : Nat × Nat × Nat × Nat × Option Int × Nat × Nat) x =>
        let (gross, net, resG, resN, held, sumG, sumN) := acc
        let m := measure cal beta x.1 x.2.1 resG resN x.2.2 held
        (gross + m.g, net + m.n, m.resG, m.resN, m.temp.held,
          sumG + x.2.1 * cal.weight * cal.factor (x.2.1 / x.1), sumN + m.g * (vcf beta m.temp.used).toNat))
      (0, 0, 0, 0, none, 0, 0)
    runs.1 = runs.2.2.2.2.2.1 / 100000000 ∧ runs.2.1 = runs.2.2.2.2.2.2 / 1000000
      ∧ runs.2.2.1 < 100000000 ∧ runs.2.2.2.1 < 1000000

/-- LOAD_CALIBRATION and LOAD_GRADE (R82 to R86): refused PROTECTED first, RANGE and BUSY in R82's and R84's order, else the form
is stored clamped, the change counter rises by 1, saturating, and the answer carries both. -/
def Obligations.CalibrationLoadsAreCounted : Prop :=
  ∀ (a : Addr) (s : State), s.CommandReady a .site →
    let g := s.countGood .cab
    let n := min (s.calCounter + 1) 65535
    (∀ (hose : Byte) (f : CalForm),
        let load := exec (.loadCalibration a hose f) s
        let ordered := 1 ≤ f.u1.toNat ∧ f.u1.toNat < f.u2.toNat ∧ f.u2.toNat < f.u3.toNat ∧ f.u3.toNat ≤ 4095
          ∧ f.u3.toNat < f.uOver.toNat
        let factor := fun v : Word => min (max v.toNat 99000) 101000
        let cal : Calibration :=
          { weight := min (max f.weight.toNat 1000) 100000, u1 := f.u1.toNat, u2 := f.u2.toNat, u3 := f.u3.toNat,
            c1 := factor f.c1, c2 := factor f.c2, c3 := factor f.c3, c4 := factor f.c4, uOver := f.uOver.toNat }
        (s.resp.calProtect = true → load = .next (s.refusedCommand a 23#8 .protectedFlag))
        ∧ (s.resp.calProtect = false → 6 ≤ hose.toNat → load = .next (s.refusedCommand a 23#8 .range))
        ∧ ∀ h : HoseId, s.resp.calProtect = false → hose.toNat = h.val →
            let rest := (s.hose h).phase = .off ∨ (s.hose h).phase = .idle
            (¬ rest → load = .next (s.refusedCommand a 23#8 .busy))
            ∧ (rest → ¬ ordered → load = .next (s.refusedCommand a 23#8 .range))
            ∧ (rest → ordered → load = .next
              (((g.setHose h { s.hose h with cal := some cal }).setCalCounter n).answer a.src .pass 23#8
                (if cal.weight = f.weight.toNat ∧ cal.c1 = f.c1.toNat ∧ cal.c2 = f.c2.toNat ∧ cal.c3 = f.c3.toNat
                  ∧ cal.c4 = f.c4.toNat then .ok else .adjusted) (beN 2 n ++ cal.bytes))))
      ∧ (∀ (grade : Byte) (beta : Half),
        let load := exec (.loadGrade a grade beta) s
        (s.resp.calProtect = true → load = .next (s.refusedCommand a 24#8 .protectedFlag))
        ∧ (s.resp.calProtect = false → 8 ≤ grade.toNat → load = .next (s.refusedCommand a 24#8 .range))
        ∧ ∀ k : Grade, s.resp.calProtect = false → grade.toNat = k.val →
            let active := ∃ (h : HoseId) (c : CompId) (st : Settings), (s.hose h).phase.active = true
              ∧ (s.hose h).drawsOn c = true ∧ (s.comp c).settings = some st ∧ st.grade = k
            (active → load = .next (s.refusedCommand a 24#8 .busy))
            ∧ (¬ active → load = .next
              (((g.setBetas (vset s.betas k (min beta.toNat 200))).setCalCounter n).answer a.src .pass 24#8
                (if 200 < beta.toNat then .adjusted else .ok) (beN 2 n ++ beN 2 (min beta.toNat 200)))))

/-! ### Compartments (chapter 5) -/

/-- A PROBE fault raises the compartment's fault count and changes nothing else; an OK reading becomes the last reading at the
clock's time (R92), and at rest a book within the tolerance sets the variance count to 0 while one outside it raises the
count, up to 15, setting the flag and VARIANCE when the count first meets the limit (R93). -/
def Obligations.ProbeReadingsKeepTheVarianceCount : Prop :=
  ∀ (a : Addr) (volume : Word) (s : State) (c : CompId) (st : Settings), s.ProbeReady a c → (s.comp c).settings = some st →
    let g := s.countGood .field
    let x := s.comp c
    let read : Compartment := { x with lastReading := some volume.toNat, readingTime := some s.resp.clock }
    exec (.probe a volume 1#8) s = .next (g.setComp c { x with probeFaults := min (x.probeFaults + 1) 65535 })
      ∧ (volume.toNat < st.high →
        ((∃ h, (s.hose h).drawsOn c = true ∧ (s.hose h).phase.executing = true) →
            exec (.probe a volume 0#8) s = .next (g.setComp c read))
        ∧ ((∀ h, (s.hose h).drawsOn c = true → (s.hose h).phase.executing = false) →
          ((x.book - volume.toNat).natAbs ≤ st.tolerance →
              exec (.probe a volume 0#8) s = .next (g.setComp c { read with varCount := 0 }))
          ∧ (st.tolerance < (x.book - volume.toNat).natAbs →
              let u := g.setComp c { read with
                varCount := min (x.varCount + 1) 15, varFlag := x.varFlag || decide (st.limit ≤ x.varCount + 1) }
              exec (.probe a volume 0#8) s = .next
                (if st.limit ≤ x.varCount + 1 ∧ x.varFlag = false then u.setCause .variance else u))))

/-- An OK reading at or above the high threshold, whole (R92 to R95, R187): it becomes the last reading at the clock's time and
takes the variance check, paused while a hose drawing on the compartment executes. Every flowing receipt that draws on it
enters CLOSING with OVERFILL_STOP, CLOSE, the settle timer and its PROGRESS, in ascending hose number, then OVERFILL is set;
every other hose stays. Where none is stopped no OVERFILL is set. -/
def Obligations.OverfillStopsFlowingReceipts : Prop :=
  ∀ (a : Addr) (volume : Word) (s : State) (c : CompId) (st : Settings), s.ProbeReady a c →
    (s.comp c).settings = some st → st.high ≤ volume.toNat →
    let g := s.countGood .field
    let x := s.comp c
    let read : Compartment := { x with lastReading := some volume.toNat, readingTime := some s.resp.clock }
    let executing := (ids 6).any fun h => (s.hose h).drawsOn c && (s.hose h).phase.executing
    let outside := decide (st.tolerance < (x.book - volume.toNat).natAbs)
    let meets := decide (st.limit ≤ x.varCount + 1)
    let checked : Compartment := if executing then read
      else if outside then { read with varCount := min (x.varCount + 1) 15, varFlag := x.varFlag || meets }
      else { read with varCount := 0 }
    let stops : HoseId → Bool := fun h => (s.hose h).drawsOn c && (s.hose h).phase.flowing
      && (s.hose h).ctx.any fun k => decide (k.kind = .receipt)
    let closed : HoseId → Hose := fun h =>
      if stops h then
        { s.hose h with
          phase := .closing, mark := none, lastValve := some .close
          timers := { Timers.stopped with settle := (s.hose h).profile.map Profile.settle }
          ctx := (s.hose h).ctx.map fun k => { k with endCause := some .overfillStop } }
      else s.hose h
    let closes := (ids 6).foldl (fun (q : PortState) h => match (s.hose h).profile with
      | some p => if stops h then q.offerControl ⟨.valve h, valveFrame p.head .close⟩ else q
      | none => q) g.field
    let progresses := (ids 6).foldl (fun (q : PortState) h => match (s.hose h).ctx with
      | some k => if stops h then q.offerOrdinary (progressFrame h .closing k.net none) else q
      | none => q) s.cab
    ((∀ h, stops h = false) →
        exec (.probe a volume 0#8) s = .next
          (if !executing && outside && meets && !x.varFlag then (g.setComp c checked).setCause .variance
            else g.setComp c checked))
      ∧ ((∃ h, stops h = true) → ∃ hoses : Vector Hose 6, (∀ h, vget hoses h = closed h)
          ∧ exec (.probe a volume 0#8) s = .next
            (State.setCause .overfill
              { s with hoses := hoses, comps := vset s.comps c read, field := closes, cab := progresses }))

/-- LOAD_COMPARTMENT, ACK_RESTOCK and SET_STOCK (R98 to R102) and the restock judgement of every book change and load (R96, R97).
A load is refused RANGE or BUSY (a new grade under an active hose), else stores the ordered settings, in a fresh record for
an unconfigured compartment; ACK_RESTOCK sets ORDERED and the reference, STATE in NORMAL; SET_STOCK sets book and base and
clears the variance. A book below the low threshold in NORMAL enters LOW and queues RESTOCK; at the low threshold plus
the hysteresis LOW and ORDERED return to NORMAL. -/
def Obligations.CompartmentCommands : Prop :=
  ∀ (a : Addr) (s : State) (comp : Byte),
    let g := s.countGood .cab
    (3 < comp.toNat →
      (s.CommandReady a .site → ∀ f, exec (.loadCompartment a comp f) s = .next (s.refusedCommand a 25#8 .range))
      ∧ (s.CommandReady a .supervisor →
        (∀ r, exec (.ackRestock a comp r) s = .next (s.refusedCommand a 26#8 .range))
        ∧ ∀ v, exec (.setStock a comp v) s = .next (s.refusedCommand a 27#8 .range)))
    ∧ ∀ c : CompId, comp.toNat = c.val →
      let x := s.comp c
      let drawnBy := fun ph : Phase → Bool => ∃ h, (s.hose h).drawsOn c = true ∧ ph (s.hose h).phase = true
      (s.CommandReady a .site → ∀ f : CompForm,
        let load := exec (.loadCompartment a comp f) s
        ((7 < f.grade.toNat ∨ f.probe.toNat < 2 ∨ (31 < f.probe.toNat ∧ f.probe ≠ 0xFF#8) ∨ f.capacity = 0
            ∨ 99999999 < f.capacity.toNat) → load = .next (s.refusedCommand a 25#8 .range))
        ∧ ∀ (k : Grade) (n : Option Node), f.grade.toNat = k.val → f.capacity ≠ 0 → f.capacity.toNat ≤ 99999999 →
          (match n with | none => f.probe = 0xFF#8 | some y => f.probe.toNat = y.val ∧ 2 ≤ y.val) →
          let taken := ∃ y, n = some y ∧ ((s.headOwner y).isSome = true
            ∨ ∃ d st, d ≠ c ∧ (s.comp d).settings = some st ∧ st.probe = some y)
          let regraded := ∃ st, x.settings = some st ∧ st.grade ≠ k ∧ drawnBy Phase.active
          let high := max 1 (min f.high.toNat f.capacity.toNat)
          let low := min f.low.toNat high
          let st : Settings :=
            { grade := k, probe := n, capacity := f.capacity.toNat, dead := min f.dead.toNat low, low := low,
              hysteresis := min f.hysteresis.toNat (high - low), high := high, tolerance := min f.tolerance.toNat 999999,
              limit := if f.limit = 0xFF#8 then 3 else min (max f.limit.toNat 1) 15 }
          let loaded : Compartment := match x.settings with
            | none => { Compartment.cold with settings := some st }
            | some old => if old.probe = n then { x with settings := some st }
                else { x with settings := some st, lastReading := none, readingTime := none, varCount := 0 }
          (taken → load = .next (s.refusedCommand a 25#8 .range))
          ∧ (¬ taken → regraded → load = .next (s.refusedCommand a 25#8 .busy))
          ∧ (¬ taken → ¬ regraded → load = .next (((g.setComp c loaded).judge c).answer a.src .pass 25#8
              (if st.high = f.high.toNat ∧ st.low = f.low.toNat ∧ st.dead = f.dead.toNat ∧ st.hysteresis = f.hysteresis.toNat
                ∧ st.tolerance = f.tolerance.toNat ∧ (f.limit = 0xFF#8 ∨ st.limit = f.limit.toNat) then .ok else .adjusted)
              st.bytes)))
      ∧ (s.CommandReady a .supervisor → ∀ reference : Word,
        ((x.settings = none ∨ x.restock = .normal) →
            exec (.ackRestock a comp reference) s = .next (s.refusedCommand a 26#8 .state))
        ∧ (x.settings ≠ none → x.restock ≠ .normal →
            exec (.ackRestock a comp reference) s = .next
              ((g.setComp c { x with restock := .ordered, orderRef := some reference }).answer a.src .pass 26#8 .ok [])))
      ∧ (s.CommandReady a .supervisor → ∀ volume : Word,
        (x.settings = none → exec (.setStock a comp volume) s = .next (s.refusedCommand a 27#8 .state))
        ∧ ∀ st, x.settings = some st →
          (st.capacity < volume.toNat → exec (.setStock a comp volume) s = .next (s.refusedCommand a 27#8 .range))
          ∧ (volume.toNat ≤ st.capacity → drawnBy Phase.executing →
              exec (.setStock a comp volume) s = .next (s.refusedCommand a 27#8 .busy))
          ∧ (volume.toNat ≤ st.capacity → ¬ drawnBy Phase.executing →
              exec (.setStock a comp volume) s = .next
                (((g.setComp c { x with book := volume.toNat, base := volume.toNat, unattributed := 0, varCount := 0,
                                        varFlag := false }).judge c).answer a.src .pass 27#8 .ok [])))
      ∧ ∀ st, x.settings = some st →
        (x.restock = .normal → x.book < st.low → s.judge c =
            (s.setComp c { x with restock := .low, requestTime := some s.resp.clock }).cabControl (.restock c)
              (ownFrame 0 10 (beN 1 c.val ++ beN 1 st.grade.val ++ be48 (BitVec.ofInt 48 x.book) ++ beN 4 st.capacity
                ++ be4 s.resp.clock)))
        ∧ (x.restock = .normal → (st.low : Int) ≤ x.book → s.judge c = s)
        ∧ (x.restock ≠ .normal → (st.low : Int) + st.hysteresis ≤ x.book → s.judge c =
            s.setComp c { x with restock := .normal, orderRef := none, requestTime := none })
        ∧ (x.restock ≠ .normal → x.book < (st.low : Int) + st.hysteresis → s.judge c = s)

/-- RECONCILE (R103, R104, R117, R118): RANGE, STATE, BUSY, STATE without a reading and LOG_FULL in this order, else an
ADJUSTMENT record of the variance and the unattributed draw joins the log without a reservation, LOG_HIGH is set where the
level rises to 960, and book and base become the last reading. -/
def Obligations.ReconcilePostsTheAdjustment : Prop :=
  ∀ (a : Addr) (comp : Byte) (s : State), s.CommandReady a .supervisor →
    let done := exec (.reconcile a comp) s
    (3 < comp.toNat → done = .next (s.refusedCommand a 28#8 .range))
    ∧ ∀ c : CompId, comp.toNat = c.val →
      let x := s.comp c
      let executing := ∃ h, (s.hose h).drawsOn c = true ∧ (s.hose h).phase.executing = true
      let full := 1024 ≤ s.billing.level ∨ 4294967295 ≤ s.billing.nextSeq + s.billing.reserved
      (x.settings = none → done = .next (s.refusedCommand a 28#8 .state))
      ∧ ∀ st, x.settings = some st →
        (executing → done = .next (s.refusedCommand a 28#8 .busy))
        ∧ (¬ executing → x.lastReading = none → done = .next (s.refusedCommand a 28#8 .state))
        ∧ ∀ reading, ¬ executing → x.lastReading = some reading →
          let adjustment : Int := reading - x.book
          (full → done = .next (s.refusedCommand a 28#8 .logFull))
          ∧ (¬ full → fits48 adjustment = true →
            let record : Record :=
              { seq := s.billing.nextSeq, kind := .adjustment, endCause := .reconciled,
                flags := if s.resp.clockSet then 0#16 else Flag.clockUnset.mask, hose := none, comp := c, grade := st.grade,
                cls := none, centre := none, machine := none, tag := none, period := s.table.period,
                startTime := x.readingTime.getD 0, endTime := s.resp.clock, gross := x.unattributed, net := adjustment,
                lastTemp := none, calCounter := s.calCounter, amount := none, hoursRef := none }
            let g := (s.countGood .cab).setBilling
              { s.billing with stored := s.billing.stored ++ [record], nextSeq := s.billing.nextSeq + 1 }
            let u := if s.billing.level + 1 = 960 then g.setCause .logHigh else g
            done = .next
              (((u.setComp c { x with book := reading, base := reading, unattributed := 0, varCount := 0,
                                      varFlag := false }).judge c).answer a.src .pass 28#8 .ok
                (beN 4 s.billing.nextSeq ++ be48 (BitVec.ofInt 48 adjustment))))

/-! ### Site billing (chapter 6) -/

/-- READ_LOG returns up to two whole records from the greater of its number and the oldest, and changes nothing (R122), each
in the 56 bytes of 10.4, a field whose presence bit is clear as 0 (R183). RELEASE_LOG removes the stored records up to and
including its number and changes nothing else (R123): RANGE at or above the next number, a count of 0 below the oldest, where
the answer's bytes are the model's reading of 10.5 (log entry 24, DEDUCED). -/
def Obligations.LogIsReadAndReleased : Prop :=
  ∀ (a : Addr) (seq : Word) (s : State), s.LogOk →
    let g := s.countGood .cab
    let b := s.billing
    let oldest := b.nextSeq - b.stored.length
    -- bit 0 first
    let bits := fun l : List Bool => beN 1 (l.foldr (fun x n => x.toNat + 2 * n) 0)
    let kind := fun k : RecordKind => match k with | .delivery => 0 | .receipt => 1 | .adjustment => 2
    let cause := fun e : EndCause => match e with
      | .presetReached => 1 | .nozzleHung => 2 | .noFlow => 3 | .meterSilent => 4 | .headFault => 5 | .operatorStop => 6
      | .overfillStop => 7 | .holdExpired => 8 | .powerLost => 9 | .reconciled => 10
    let form := fun r : Record =>
      beN 4 r.seq ++ beN 1 (16 * (r.cls.elim 0 Fin.val) + cause r.endCause)
        ++ beN 2 (16384 * kind r.kind + (r.flags &&& 0x1FFF#16).toNat)
        ++ beN 1 (32 * (r.hose.elim 7 Fin.val) + 8 * r.comp.val + r.grade.val)
        ++ bits [r.cls.isSome, r.centre.isSome, r.machine.isSome, r.tag.isSome, r.lastTemp.isSome, r.amount.isSome,
            r.hoursRef.isSome]
        ++ beN 1 (r.centre.elim 0 Fin.val) ++ beN 2 (r.machine.getD 0) ++ be6 (r.tag.getD 0) ++ be4 r.period
        ++ be4 r.startTime ++ be4 r.endTime ++ be48 (BitVec.ofInt 48 r.gross) ++ be48 (BitVec.ofInt 48 r.net)
        ++ be2 (BitVec.ofInt 16 (r.lastTemp.getD 0)) ++ beN 2 r.calCounter ++ beN 6 (r.amount.getD 0)
        ++ beN 4 (r.hoursRef.getD 0)
    (s.CommandReady a .supervisor →
        let got := (b.stored.drop (seq.toNat - oldest)).take 2
        exec (.readLog a seq) s = .next
          (g.answer a.src .pass 32#8 .ok (beN 1 got.length ++ beN 4 oldest ++ beN 4 b.nextSeq ++ (got.map form).flatten))
        ∧ ∀ r ∈ got, (form r).length = 56)
      ∧ (s.CommandReady a .site →
        let count := seq.toNat + 1 - oldest
        (b.nextSeq ≤ seq.toNat → exec (.releaseLog a seq) s = .next (s.refusedCommand a 33#8 .range))
        ∧ (seq.toNat < oldest → exec (.releaseLog a seq) s = .next
            (g.answer a.src .pass 33#8 .ok (beN 2 0 ++ beN 4 oldest)))
        ∧ (oldest ≤ seq.toNat → seq.toNat < b.nextSeq → exec (.releaseLog a seq) s = .next
            ((g.setBilling { b with stored := b.stored.drop count, oldestIndex := (b.oldestIndex + count) % 1024 }).answer
              a.src .pass 33#8 .ok (beN 2 count ++ beN 4 (seq.toNat + 1)))))

/-- READ_CENTRES and CLEAR_CENTRES (R127, R128): up to seven accumulators, all or the changed ones, are returned with the number
to go on from, their changed marks are cleared and no other; a cleared accumulator has totals, count and both marks at
rest. -/
def Obligations.CentresAreReadAndCleared : Prop :=
  ∀ (a : Addr) (s : State),
    let g := s.countGood .cab
    (s.CommandReady a .supervisor → ∀ start option : Byte,
        (63 < start.toNat ∨ 1 < option.toNat → exec (.readCentres a start option) s = .next (s.refusedCommand a 34#8 .range))
        ∧ (start.toNat ≤ 63 → option.toNat ≤ 1 →
            let wanted := (ids 64).filter fun z => decide (start.toNat ≤ z.val) &&
              (option == 0#8 || (vget s.billing.centres z).changed)
            let got := wanted.take 7
            ∃ v next, exec (.readCentres a start option) s = .next
                ((g.setBilling { s.billing with centres := v }).answer a.src .pass 34#8 .ok
                  (beN 1 got.length ++ optN 1 next ++ (got.map fun z => (vget s.billing.centres z).bytes z).flatten))
              ∧ (∀ z, vget v z = if z ∈ got then { vget s.billing.centres z with changed := false }
                  else vget s.billing.centres z)
              ∧ (wanted.length < 7 → next = none)
              ∧ ∀ z : CentreId, got.length = 7 → got.getLast? = some z → next = if z.val = 63 then none else some (z.val + 1)))
      ∧ (s.CommandReady a .site → ∀ n : Byte,
        (∀ z : CentreId, n.toNat = z.val → exec (.clearCentres a n) s = .next
            ((g.setBilling { s.billing with centres := vset s.billing.centres z ⟨0, 0, 0, false, false⟩ }).answer a.src .pass
              35#8 .ok []))
        ∧ (n = 0xFF#8 → ∃ v, (∀ z, vget v z = ⟨0, 0, 0, false, false⟩) ∧ exec (.clearCentres a n) s = .next
            ((g.setBilling { s.billing with centres := v }).answer a.src .pass 35#8 .ok []))
        ∧ (63 < n.toNat → n ≠ 0xFF#8 → exec (.clearCentres a n) s = .next (s.refusedCommand a 35#8 .range)))

/-! ### Attention (chapter 7) -/

/-- REARM (R134): the acknowledged causes leave the set and the unit enters ARMED; a non-empty rest is reissued in one ATTENTION
frame before the answer and the unit is FIRED; a set that names more than the ten causes is refused RANGE. -/
def Obligations.RearmRemovesAndReissues : Prop :=
  ∀ (a : Addr) (causes : Half) (s : State), s.CommandReady a .supervisor →
    let g := s.countGood .cab
    let rest := s.att.causes &&& ~~~causes
    (0x0400#16 ≤ causes → exec (.rearm a causes) s = .next (s.refusedCommand a 36#8 .range))
      ∧ (causes < 0x0400#16 → rest = 0#16 → exec (.rearm a causes) s = .next
          ((g.setAtt ⟨0#16, .armed⟩).answer a.src .pass 36#8 .ok [0#8, 0#8, 0#8]))
      ∧ (causes < 0x0400#16 → rest ≠ 0#16 → exec (.rearm a causes) s = .next
          (((g.setAtt ⟨rest, .fired⟩).cabControl .attention (ownFrame 0 9 (be2 rest))).answer a.src .pass 36#8 .ok
            (be2 rest ++ [1#8])))

/-! ### The responder's own commands (chapter 9) -/

/-- IDENTIFY, STATUS and QUERY_EMPTY change nothing but the cab port (R170, R171, R175): IDENTIFY answers its items and STATUS
the section asked for, in the bytes of 10.5 and 10.7, RANGE where there is none, QUERY_EMPTY EMPTY or NOT_EMPTY. STATUS with
counter clear answers the section as it stood, then sets the ports' counters, the screen's counts, every probe fault count
and every unbilled flow counter to 0, and changes nothing else (R172). The model's own: the revision and an availability
outside 48 bits are free values (log entries 14 and 13), absent readings and times are 0 and an unconfigured compartment's
presence bits stand (log entry 24, DEDUCED), the nozzle value is the word as sent (log entry 26, DEDUCED). -/
def Obligations.ReadingCommandsAndCounterClear : Prop :=
  ∀ (a : Addr) (s : State),
    let g := s.countGood .cab
    -- bit 0 first; absent as all ones (R181)
    let bits := fun l : List Bool => beN 1 (l.foldr (fun x n => x.toNat + 2 * n) 0)
    let absent := fun (n : Nat) (v : Option Nat) => beN n (v.getD (256 ^ n - 1))
    let signed := fun v : Int => be48 (BitVec.ofInt 48 (if -(2 ^ 47) ≤ v ∧ v < 2 ^ 47 then v else (Config.unstated48 s.draws v).toInt))
    -- the codes of 10.6
    let strike := fun o : StrikeOp => match o with | .zero => 0 | .keep => 1 | .incr => 2 | .decr => 3
    let level := fun l : Level => match l with | .none => 0 | .operator => 1 | .supervisor => 2 | .site => 3
    let mode := fun m : Mode => match m with | .off => 0 | .issue => 1 | .receive => 2
    let phase := fun x : Phase => match x with
      | .off => 0 | .idle => 1 | .authorized => 2 | .slowStart => 3 | .fullFlow => 4 | .slowStop => 5 | .held => 6
      | .closing => 7 | .result => 8
    let nozzle := fun x : Nozzle => match x with | .lifted => 1 | .hung => 2 | .connected => 3 | .disconnected => 4
    let mark := fun x : Option HoldMark => match x with | none => 0 | some .operator => 1 | some .site => 2
    let cause := fun x : Option EndCause => match x with
      | none => 0 | some .presetReached => 1 | some .nozzleHung => 2 | some .noFlow => 3 | some .meterSilent => 4
      | some .headFault => 5 | some .operatorStop => 6 | some .overfillStop => 7 | some .holdExpired => 8 | some .powerLost => 9
      | some .reconciled => 10
    let restock := fun x : Restock => match x with | .normal => 0 | .low => 1 | .ordered => 2
    -- IDENTIFY
    let protection := bits [s.resp.calProtect, s.resp.tableProtect]
    let policy := s.table.policy
    let identity := beN 2 0x2A61 ++ beN 2 0x0B06 ++ [Config.revision] ++ beN 2 512 ++ beN 2 64 ++ beN 2 6 ++ beN 2 4 ++ beN 2 8
      ++ beN 2 16 ++ beN 2 64 ++ beN 2 1024 ++ beN 2 32 ++ beN 2 32 ++ beN 1 s.resp.straps.val ++ protection
      ++ beN 2 s.calCounter ++ ((ids 8).map fun k => beN 4 (vget s.billing.prices k)).flatten
      ++ ((ids 16).map fun k => beN 2 (vget s.billing.fractions k)).flatten ++ beN 1 (strike policy.aFail)
      ++ beN 1 (strike policy.bFail) ++ beN 1 (strike policy.pass) ++ beN 1 policy.threshold ++ beN 2 policy.maxJump
    -- STATUS
    let general := be4 s.resp.clock ++ bits [s.resp.clockSet, s.siteStop, s.table.rollCall] ++ be2 s.att.causes
      ++ beN 1 (match s.att.state with | .armed => 0 | .fired => 1) ++ be4 s.table.period ++ beN 2 s.table.faults
      ++ beN 2 ((ids 512).filter fun i => (s.entry i).inUse).length ++ beN 2 s.table.free.length
      ++ beN 2 s.billing.stored.length ++ beN 1 s.billing.reserved
      ++ beN 4 (match s.billing.stored with | r :: _ => r.seq | [] => s.billing.nextSeq) ++ beN 4 s.billing.nextSeq ++ protection
    let hose := fun h : HoseId =>
      let x := s.hose h
      beN 1 h.val
        ++ (match x.profile with
          | none => List.replicate 28 0#8
          | some p => [1#8] ++ beN 1 (mode p.mode) ++ beN 1 p.head.val ++ beN 1 p.comp.val ++ be2 p.classMask ++ beN 4 p.maxPreset
            ++ beN 4 p.minDelivery ++ beN 2 p.slowStart ++ beN 2 p.slowStop ++ beN 2 p.window ++ beN 2 p.noFlow
            ++ beN 1 p.silence ++ beN 1 p.settle ++ beN 2 p.postDelay ++ beN 2 p.holdLimit)
        ++ beN 1 (phase x.phase) ++ beN 1 (nozzle x.nozzle) ++ beN 1 (mark x.mark) ++ beN 4 x.unbilled
        ++ (match x.ctx with
          | none => List.replicate 22 0#8
          | some c => beN 1 ((match c.kind with | .delivery => 1 | .receipt => 2) + 128 * c.startTime.isSome.toNat)
            ++ absent 2 c.machine ++ beN 4 c.preset ++ beN 4 c.gross ++ beN 4 c.net ++ be2 (c.flags &&& 0x1FFF#16)
            ++ beN 1 (cause c.endCause) ++ be4 (c.startTime.getD 0))
    let compartment := fun c : CompId =>
      let x := s.comp c
      beN 1 c.val
        ++ bits [x.settings.isSome, x.lastReading.isSome, x.orderRef.isSome, x.requestTime.isSome, x.varFlag]
        ++ (match x.settings with
          | none => List.replicate 59 0#8
          | some st => beN 1 (restock x.restock) ++ beN 1 st.grade.val ++ be48 (BitVec.ofInt 48 x.book)
            ++ be48 (BitVec.ofInt 48 x.base) ++ be48 (BitVec.ofInt 48 x.unattributed) ++ beN 4 x.committedIssue
            ++ beN 4 x.committedReceive ++ signed (max 0 (x.book - x.committedIssue - st.dead))
            ++ signed (max 0 (st.high - x.book - x.committedReceive)) ++ beN 4 (x.lastReading.getD 0)
            ++ be4 (x.readingTime.getD 0) ++ beN 2 x.probeFaults ++ beN 1 x.varCount ++ be4 (x.orderRef.getD 0)
            ++ be4 (x.requestTime.getD 0))
    let counters := fun q : PortState => beN 4 q.good ++ beN 4 q.bad ++ beN 4 q.screened ++ beN 4 q.forwarded ++ beN 4 q.dropped
    let link := counters s.field ++ counters { s.cab with good := min (s.cab.good + 1) 4294967295 }
      ++ beN 4 s.screen.misdirected ++ beN 4 s.screen.stray
    let nodes := ((ids 32).map fun n => beN 1 (level (s.levelOfNode n))).flatten
    (s.CommandReady a .none → exec (.identify a) s = .next (g.answer a.src .pass 1#8 .ok identity) ∧ identity.length = 99)
      ∧ (∀ (sect number : Byte),
        ((sect = 0#8 ∨ 5 < sect.toNat ∨ (sect = 2#8 ∧ 5 < number.toNat) ∨ (sect = 3#8 ∧ 3 < number.toNat)) →
          (s.CommandReady a .supervisor →
            exec (.statusCounterClear a sect number) s = .next (s.refusedCommand a 2#8 .range))
          ∧ ∀ option : Byte, option ≠ 1#8 → s.CommandReady a .operator →
            exec (.status a sect number option) s = .next (s.refusedCommand a 2#8 .range))
        ∧ (∀ option : Byte, 1 < option.toNat → s.CommandReady a .operator →
            exec (.status a sect number option) s = .next (s.refusedCommand a 2#8 .range))
        ∧ ∀ data, ((sect = 1#8 ∧ data = general) ∨ (∃ h : HoseId, sect = 2#8 ∧ number.toNat = h.val ∧ data = hose h)
            ∨ (∃ c : CompId, sect = 3#8 ∧ number.toNat = c.val ∧ data = compartment c)
            ∨ (sect = 4#8 ∧ data = link) ∨ (sect = 5#8 ∧ data = nodes)) →
          data.length = (if sect = 1#8 then 30 else if sect = 2#8 then 58 else if sect = 3#8 then 61 else if sect = 4#8 then 48
            else 32)
          ∧ (s.CommandReady a .operator → exec (.status a sect number 0#8) s = .next (g.answer a.src .pass 2#8 .ok data))
          ∧ (s.CommandReady a .supervisor →
            ∃ t : State, exec (.statusCounterClear a sect number) s = .next (t.answer a.src .pass 2#8 .ok data)
              ∧ t.field = { s.field with good := 0, bad := 0, screened := 0, forwarded := 0, dropped := 0 }
              ∧ t.cab = { s.cab with good := 0, bad := 0, screened := 0, forwarded := 0, dropped := 0 }
              ∧ t.screen = { s.screen with misdirected := 0, stray := 0 }
              ∧ (∀ c, t.comp c = { s.comp c with probeFaults := 0 }) ∧ (∀ h, t.hose h = { s.hose h with unbilled := 0 })
              ∧ t = { s with field := t.field, cab := t.cab, screen := t.screen, comps := t.comps, hoses := t.hoses }))
      ∧ (s.CommandReady a .operator →
        exec (.queryEmpty a 1#8) s = .next (g.answer a.src .pass 7#8 .ok
            [1#8, if (ids 512).all (fun i => !(s.entry i).inUse) then 0#8 else 1#8])
        ∧ exec (.queryEmpty a 2#8) s = .next (g.answer a.src .pass 7#8 .ok
            [2#8, if s.billing.stored = [] then 0#8 else 1#8])
        ∧ exec (.queryEmpty a 3#8) s = .next (g.answer a.src .pass 7#8 .ok
            [3#8, if (∀ h : HoseId, (s.hose h).cal = none) ∧ (∀ k : Grade, vget s.betas k = 0) then 0#8 else 1#8])
        ∧ ∀ x : Byte, x = 0#8 ∨ 3 < x.toNat → exec (.queryEmpty a x) s = .next (s.refusedCommand a 7#8 .range))

/-- SET_CLOCK replaces the count and sets the mark (R169); SET_PRIVILEGE replaces a level, RANGE outside nodes 2 to 31 and the
four levels, STATE where it would leave no SITE node (R165); SET_PROTECTION sets flags and never clears one (R167). -/
def Obligations.ClockPrivilegeAndProtection : Prop :=
  ∀ (a : Addr) (s : State), s.CommandReady a .site →
    let g := s.countGood .cab
    (∀ v : Word, exec (.setClock a v) s = .next
        ((g.setResp { s.resp with clock := v, clockSet := true }).answer a.src .pass 3#8 .ok (be4 v)))
      ∧ (∀ (node level : Byte) (n : Node) (l : Level), node.toNat = n.val → level.toNat = l.code → 2 ≤ n.val →
          let lone := s.levelOfNode n = .site ∧ ∀ k, k ≠ n → s.levelOfNode k ≠ .site
          (lone → l ≠ .site → exec (.setPrivilege a node level) s = .next (s.refusedCommand a 4#8 .state))
          ∧ (¬ lone ∨ l = .site → exec (.setPrivilege a node level) s = .next
              ((g.setResp { s.resp with levels := vset s.resp.levels n l }).answer a.src .pass 4#8 .ok [node, level])))
      ∧ (∀ node level : Byte, node.toNat < 2 ∨ 31 < node.toNat ∨ 3 < level.toNat →
          exec (.setPrivilege a node level) s = .next (s.refusedCommand a 4#8 .range))
      ∧ (∀ flags : Byte, 3 < flags.toNat → exec (.setProtection a flags) s = .next (s.refusedCommand a 5#8 .range))
      ∧ (∀ cal table : Bool,
          let flags := (if cal then 1#8 else 0#8) ||| (if table then 2#8 else 0#8)
          ((s.resp.calProtect = true ∧ cal = false) ∨ (s.resp.tableProtect = true ∧ table = false) →
              exec (.setProtection a flags) s = .next (s.refusedCommand a 5#8 .protectedFlag))
          ∧ ((s.resp.calProtect = true → cal = true) → (s.resp.tableProtect = true → table = true) →
              exec (.setProtection a flags) s = .next
                ((g.setResp { s.resp with calProtect := cal, tableProtect := table }).answer a.src .pass 5#8 .ok [flags])))

/-- DIGEST of a listed selector is in flight, unanswered; DIGEST_DONE answers its sender with the selector, the CRC-16 over the
bytes of R185 and the item count, and ends the flight (R160, R173; its moment is log entry 5). The bytes: the in-use
entries' load forms; prices, fractions and policy; each hose's calibration under a presence byte and the coefficients; the
51 carriage entries; each hose's profile, and each compartment's settings, under a presence byte. -/
def Obligations.DigestAnswersTheCrc : Prop :=
  (∀ (a : Addr) (s : State) (x : Selector), s.CommandReady a .supervisor →
      exec (.digest a (BitVec.ofNat 8 x.code)) s = .next ((s.countGood .cab).setResp
        { s.resp with inFlight := some (.digest a.src x) }))
    ∧ (∀ (a : Addr) (s : State) (x : Byte), s.CommandReady a .supervisor → x = 0#8 ∨ 6 < x.toNat →
      exec (.digest a x) s = .next (s.refusedCommand a 6#8 .range))
    ∧ ∀ (s : State) (node : Node) (x : Selector), s.power.main = true → s.resp.inFlight = some (.digest node x) →
      let inUse := (ids 512).filter fun i => (s.entry i).inUse
      let present := fun (n : Nat) (form : Option (List Byte)) => match form with
        | some bytes => 1#8 :: bytes
        | none => 0#8 :: List.replicate n 0#8
      let policy := s.table.policy
      let bytes : List Byte := match x with
        | .machines => (inUse.map fun i => (s.entry i).loaded.bytes).flatten
        | .tariff => ((ids 8).map fun k => beN 4 (vget s.billing.prices k)).flatten
            ++ ((ids 16).map fun k => beN 2 (vget s.billing.fractions k)).flatten
            ++ beN 1 policy.aFail.code ++ beN 1 policy.bFail.code ++ beN 1 policy.pass.code ++ beN 1 policy.threshold
            ++ beN 2 policy.maxJump
        | .calibration => ((ids 6).map fun h => present 28 ((s.hose h).cal.map Calibration.bytes)).flatten
            ++ ((ids 8).map fun k => beN 2 (vget s.betas k)).flatten
        | .carriage => ((ids 51).map fun k => (vget s.screen.table k).bytes).flatten
        | .hoses => ((ids 6).map fun h => present 27 ((s.hose h).profile.map Profile.bytes)).flatten
        | .compartments => ((ids 4).map fun c => present 27 ((s.comp c).settings.map Settings.bytes)).flatten
      let count := match x with
        | .machines => inUse.length | .tariff => 25 | .calibration => 14 | .carriage => 51 | .hoses => 6 | .compartments => 4
      exec .digestDone s = .next ((s.setResp { s.resp with inFlight := none }).answer node .pass 6#8 .ok
          (beN 1 x.code ++ be2 (crc16 bytes) ++ beN 2 count))
        ∧ bytes.length = (match x with
          | .machines => 16 * inUse.length | .tariff => 70 | .calibration => 190 | .carriage => 306 | .hoses => 168
          | .compartments => 112)

/-- WIPE (R176, R177): LOG_NOT_EMPTY with stored records, BUSY with a hose neither IDLE nor OFF, else the site tables are empty
and what R177 keeps is kept. RESTART answers PASS OK and changes nothing else (R178). -/
def Obligations.WipeEmptiesTheSiteTables : Prop :=
  ∀ (a : Addr) (s : State), s.CommandReady a .site →
    let g := s.countGood .cab
    (s.billing.stored ≠ [] → exec (.wipe a) s = .next (s.refusedCommand a 8#8 .logNotEmpty))
      ∧ (s.billing.stored = [] → (∃ h, (s.hose h).phase ≠ .off ∧ (s.hose h).phase ≠ .idle) →
          exec (.wipe a) s = .next (s.refusedCommand a 8#8 .busy))
      ∧ (s.billing.stored = [] → (∀ h, (s.hose h).phase = .off ∨ (s.hose h).phase = .idle) →
          exec (.wipe a) s = .next
            (State.answer a.src .pass 8#8 .ok []
              { g with
                table := { Table.cold with period := s.table.period }
                hoses := Vector.replicate 6 Hose.cold
                betas := Vector.replicate 8 0
                comps := Vector.replicate 4 Compartment.cold
                billing := { Billing.cold with oldestIndex := s.billing.oldestIndex, nextSeq := s.billing.nextSeq }
                screen := { s.screen with table := Vector.replicate 51 CarriageEntry.cold }
                resp := { s.resp with calProtect := false, tableProtect := false } }))
      ∧ exec (.restart a) s = .next (g.cabControl (.response true) (ownFrame a.src 12 [0#8, 9#8, 0#8]))

/-! ### Start-up (chapter 9.9) -/

/-- A START_UP over an invalid store is a cold start (R179, R180, R137): every item at its cold value, the strap node at SITE
where it is 2 to 31, RETENTION_LOST fired. Invalid is a store without its marker or whose CRC no longer matches, held as a
difference (log entry 10). The queue of commands and the draw counter are the model's own and stay. -/
def Obligations.ColdStartTakesEveryColdValue : Prop :=
  ∀ (straps : Node) (s : State), (s.power.marker = false ∨ s.power.crcDiff ≠ 0#16) →
    ∃ levels, exec (.startUp straps) s = .next
        { table := .cold, hoses := Vector.replicate 6 .cold, siteStop := false, betas := Vector.replicate 8 0,
          calCounter := 0, comps := Vector.replicate 4 .cold, billing := .cold, att := ⟨0x0200#16, .fired⟩, field := .cold,
          cab := { PortState.cold with sending := some ⟨.attention, ownFrame 0 9 [0x02#8, 0x00#8]⟩ }, screen := .cold,
          resp := { levels := levels, calProtect := false, tableProtect := false, clock := 0, clockSet := false,
                    inFlight := none, straps := straps },
          power := ⟨true, true, 0#16, straps⟩, pending := s.pending, draws := s.draws }
      ∧ ∀ n, vget levels n = if n = straps ∧ 2 ≤ n.val then .site else .none

/-- A START_UP over a valid store is a warm start (R179, R180), whole. Privileges, protection, clock, tables, prices, log,
settings and books are kept, a command in flight is ended; of an entry only what release and settlement write changes, and
only where an active hose's context names it (R10); the commitments of active hoses are removed, AUTHORIZED hoses' slots
released (R69, R105, R129). Each hose follows its phase: AUTHORIZED to IDLE, execution phases to RESULT with POWER_LOST
(R69). The ports start empty and take CLOSE and PROGRESS of every hose that is not OFF in ascending number, then the
ATTENTION frame of RESTARTED (R136, R157, R187). The model's own, of an entry that a damaged store has changed meanwhile
(DESIGN CHOICE): a present allowance without a remaining one has nothing deducted (log entry 27), and another tag keeps its
busy hose (log entry 31). -/
def Obligations.WarmStartActsByPhase : Prop :=
  ∀ (straps : Node) (s : State), s.power.marker = true → s.power.crcDiff = 0#16 → s.HosesOk →
    let names := fun (h : HoseId) (i : EntryId) => (s.hose h).phase.active && (s.hose h).ctx.any fun c =>
      c.entry.any fun r => decide (r.index = i)
    let off := fun h : HoseId => decide ((s.hose h).phase = .off)
    ∃ t, exec (.startUp straps) s = .next t
      ∧ t = { s with table := t.table, hoses := t.hoses, comps := t.comps, billing := t.billing, att := t.att,
                     field := t.field, cab := t.cab, screen := t.screen, resp := t.resp, power := t.power }
      ∧ t.resp = { s.resp with inFlight := none, straps := straps }
      ∧ t.power = { s.power with main := true, pins := straps }
      ∧ t.screen = { s.screen with misdirected := 0, stray := 0 } ∧ t.att = ⟨0x0100#16, .fired⟩
      ∧ t.billing = { s.billing with
          reserved := s.billing.reserved - ((ids 6).filter fun h => decide ((s.hose h).phase = .authorized)).length }
      ∧ (∀ c, t.comp c = { s.comp c with
          committedIssue := (s.comp c).committedIssue - s.committed .delivery c
          committedReceive := (s.comp c).committedReceive - s.committed .receipt c })
      ∧ t.table = { s.table with entries := t.table.entries }
      ∧ (∀ i, t.entry i = { s.entry i with
          remaining := (t.entry i).remaining, period := (t.entry i).period, busy := (t.entry i).busy })
      ∧ (∀ i, (∀ h, names h i = false) → t.entry i = s.entry i)
      ∧ (∀ h c r, (s.hose h).phase.active = true → (s.hose h).ctx = some c → c.kind = .delivery → c.entry = some r →
          (∀ k, k ≠ h → names k r.index = false) →
          t.entry r.index = (if s.holdsTag r then
              if (s.hose h).phase = .authorized then State.clearBusy h (s.entry r.index)
                else s.settledEntry (s.entry r.index) c.net h
            else s.entry r.index))
      ∧ (∀ h,
          let x := { s.hose h with
            nozzle := .hung, pulse := none, mark := none, timers := .stopped, resG := 0, resN := 0
            lastValve := if off h then none else some .close }
          let delayed := { Timers.stopped with
            postDelay := (s.hose h).profile.bind fun p => if p.postDelay = 0 then none else some p.postDelay }
          ((s.hose h).phase = .off ∨ (s.hose h).phase = .idle → t.hose h = x)
          ∧ ((s.hose h).phase = .authorized → t.hose h = { x with phase := .idle, ctx := none })
          ∧ ((s.hose h).phase = .result → t.hose h = { x with timers := delayed })
          ∧ ((s.hose h).phase.executing = true → ∃ c, (s.hose h).ctx = some c ∧
              let gone := decide (c.kind = .delivery) && c.entry.any fun r => !s.holdsTag r
              t.hose h = { x with
                phase := .result, timers := delayed
                ctx := some { c with
                  endCause := some .powerLost, amount := c.amountSoFar, endTime := some s.resp.clock
                  calCounter := some s.calCounter
                  flags := c.flags ||| flagIf gone .entryGone ||| flagIf (!s.resp.clockSet) .clockUnset } }))
      ∧ t.field = (ids 6).foldl (fun (q : PortState) h => match (s.hose h).profile with
          | some p => if off h then q else q.offerControl ⟨.valve h, valveFrame p.head .close⟩
          | none => q) PortState.cold
      ∧ t.cab = ((ids 6).foldl (fun (q : PortState) h => if off h then q else
          q.offerOrdinary (match (t.hose h).ctx with
            | some c => progressFrame h (t.hose h).phase c.net c.amountSoFar
            | none => progressFrame h (t.hose h).phase 0 none)) PortState.cold).offerControl
          ⟨.attention, ownFrame 0 9 [0x01#8, 0x00#8]⟩

/-! ### Invariants -/

/-- The machine right after reset meets every invariant below. -/
def Obligations.ResetMeetsEveryInvariant : Prop :=
  State.reset.AttentionOk ∧ State.reset.HosesOk ∧ State.reset.ValvesOk ∧ State.reset.ResiduesOk ∧ State.reset.FreeStackOk
    ∧ State.reset.ReservationsOk ∧ State.reset.LogOk ∧ State.reset.CommitmentsOk ∧ State.reset.AccountsOk
    ∧ State.reset.QueuesOk ∧ State.reset.PrivilegesOk ∧ State.reset.HasSite

/-- The unit is never seen in ARMED with a non-empty set: a step keeps it (R130). -/
def Obligations.StepKeepsAttention : Prop := ∀ s t : State, s.AttentionOk → step s = .next t → t.AttentionOk

/-- A step keeps every hose in order (R44, R47, R55, R61, R74, R77): the phase in agreement with profile, context, hold mark and
timers; the last valve command open exactly in the flowing phases; the residues remainders of their divisions. -/
def Obligations.StepKeepsTheHoses : Prop :=
  (∀ s t : State, s.HosesOk → step s = .next t → t.HosesOk)
    ∧ (∀ s t : State, s.ValvesOk → step s = .next t → t.ValvesOk)
    ∧ ∀ s t : State, s.ResiduesOk → step s = .next t → t.ResiduesOk

/-- A step keeps the free stack the list, without repeats, of the entries not in use (R4). -/
def Obligations.StepKeepsTheFreeStack : Prop := ∀ s t : State, s.FreeStackOk → step s = .next t → t.FreeStackOk

/-- A step keeps one log reservation per transaction held, within the log's slots and sequence numbers (R114, R115), and the
stored records under consecutive sequence numbers up to the next one (R113, R116, R117, R123). -/
def Obligations.StepKeepsTheLog : Prop :=
  (∀ s t : State, s.ReservationsOk → step s = .next t → t.ReservationsOk)
    ∧ ∀ s t : State, s.LogOk → step s = .next t → t.LogOk

/-- A step keeps each committed volume the sum of its transactions' terms (R90), and the signed items of every compartment
within their 48 bits (R87, R181), an item whose exact sum leaves them among them (log entry 13). -/
def Obligations.StepKeepsCommitments : Prop :=
  (∀ s t : State, s.CommitmentsOk → step s = .next t → t.CommitmentsOk)
    ∧ ∀ s t : State, s.AccountsOk → step s = .next t → t.AccountsOk

/-- A step keeps the bounds of both transmit queues: at most 20 ordinary frames, one waiting frame of each replaced kind and key,
two responses, and no frame waiting behind a free transmitter (R146, R153 to R155); no queue within them passes 27 of its
32 slots (R153). -/
def Obligations.StepKeepsTheQueueBounds : Prop :=
  (∀ s t : State, s.QueuesOk → step s = .next t → t.QueuesOk)
    ∧ ∀ s : State, s.QueuesOk → s.field.queue.length ≤ 26 ∧ s.cab.queue.length ≤ 27

/-- A step leaves nodes 0 and 1 at NONE, and a SITE node in the table unless a cold start takes the table from the straps
(R162, R165, R178): a start-up, by START_UP or by the sending of RESTART's answer, is taken over a valid store here. -/
def Obligations.StepKeepsPrivileges : Prop :=
  (∀ s t : State, s.PrivilegesOk → step s = .next t → t.PrivilegesOk)
    ∧ ∀ s t : State, s.HasSite →
        (∀ i rest, s.pending = i :: rest → ((∃ n, i = .startUp n) ∨ ∃ p, i = .frameSent p) → s.storeValid = true) →
        step s = .next t → t.HasSite
end

