-- ==== Sys2Proof/Laws/State.lean ====
section
/-! SUPPORT. One lemma per field per update of State, true by rfl, and the reads of one hose, compartment, entry or port after
an update. -/

namespace Sys2Proof.Machine.State

variable (s : State)

/-! ### setTable -/

@[simp] theorem setTable_table (x : Table) : (s.setTable x).table = x := rfl
@[simp] theorem setTable_hoses (x : Table) : (s.setTable x).hoses = s.hoses := rfl
@[simp] theorem setTable_siteStop (x : Table) : (s.setTable x).siteStop = s.siteStop := rfl
@[simp] theorem setTable_betas (x : Table) : (s.setTable x).betas = s.betas := rfl
@[simp] theorem setTable_calCounter (x : Table) : (s.setTable x).calCounter = s.calCounter := rfl
@[simp] theorem setTable_comps (x : Table) : (s.setTable x).comps = s.comps := rfl
@[simp] theorem setTable_billing (x : Table) : (s.setTable x).billing = s.billing := rfl
@[simp] theorem setTable_att (x : Table) : (s.setTable x).att = s.att := rfl
@[simp] theorem setTable_field (x : Table) : (s.setTable x).field = s.field := rfl
@[simp] theorem setTable_cab (x : Table) : (s.setTable x).cab = s.cab := rfl
@[simp] theorem setTable_screen (x : Table) : (s.setTable x).screen = s.screen := rfl
@[simp] theorem setTable_resp (x : Table) : (s.setTable x).resp = s.resp := rfl
@[simp] theorem setTable_power (x : Table) : (s.setTable x).power = s.power := rfl
@[simp] theorem setTable_pending (x : Table) : (s.setTable x).pending = s.pending := rfl
@[simp] theorem setTable_draws (x : Table) : (s.setTable x).draws = s.draws := rfl
@[simp] theorem setTable_hose (x : Table) (k : HoseId) : (s.setTable x).hose k = s.hose k := rfl
@[simp] theorem setTable_comp (x : Table) (k : CompId) : (s.setTable x).comp k = s.comp k := rfl
@[simp] theorem setTable_levelOfNode (x : Table) (k : Node) : (s.setTable x).levelOfNode k = s.levelOfNode k := rfl

/-! ### setHose -/

@[simp] theorem setHose_table (h : HoseId) (x : Hose) : (s.setHose h x).table = s.table := rfl
@[simp] theorem setHose_hoses (h : HoseId) (x : Hose) : (s.setHose h x).hoses = vset s.hoses h x := rfl
@[simp] theorem setHose_siteStop (h : HoseId) (x : Hose) : (s.setHose h x).siteStop = s.siteStop := rfl
@[simp] theorem setHose_betas (h : HoseId) (x : Hose) : (s.setHose h x).betas = s.betas := rfl
@[simp] theorem setHose_calCounter (h : HoseId) (x : Hose) : (s.setHose h x).calCounter = s.calCounter := rfl
@[simp] theorem setHose_comps (h : HoseId) (x : Hose) : (s.setHose h x).comps = s.comps := rfl
@[simp] theorem setHose_billing (h : HoseId) (x : Hose) : (s.setHose h x).billing = s.billing := rfl
@[simp] theorem setHose_att (h : HoseId) (x : Hose) : (s.setHose h x).att = s.att := rfl
@[simp] theorem setHose_field (h : HoseId) (x : Hose) : (s.setHose h x).field = s.field := rfl
@[simp] theorem setHose_cab (h : HoseId) (x : Hose) : (s.setHose h x).cab = s.cab := rfl
@[simp] theorem setHose_screen (h : HoseId) (x : Hose) : (s.setHose h x).screen = s.screen := rfl
@[simp] theorem setHose_resp (h : HoseId) (x : Hose) : (s.setHose h x).resp = s.resp := rfl
@[simp] theorem setHose_power (h : HoseId) (x : Hose) : (s.setHose h x).power = s.power := rfl
@[simp] theorem setHose_pending (h : HoseId) (x : Hose) : (s.setHose h x).pending = s.pending := rfl
@[simp] theorem setHose_draws (h : HoseId) (x : Hose) : (s.setHose h x).draws = s.draws := rfl
@[simp] theorem setHose_comp (h : HoseId) (x : Hose) (k : CompId) : (s.setHose h x).comp k = s.comp k := rfl
@[simp] theorem setHose_entry (h : HoseId) (x : Hose) (k : EntryId) : (s.setHose h x).entry k = s.entry k := rfl
@[simp] theorem setHose_levelOfNode (h : HoseId) (x : Hose) (k : Node) : (s.setHose h x).levelOfNode k = s.levelOfNode k := rfl

/-! ### setHoses -/

@[simp] theorem setHoses_table (x : Vector Hose 6) : (s.setHoses x).table = s.table := rfl
@[simp] theorem setHoses_hoses (x : Vector Hose 6) : (s.setHoses x).hoses = x := rfl
@[simp] theorem setHoses_siteStop (x : Vector Hose 6) : (s.setHoses x).siteStop = s.siteStop := rfl
@[simp] theorem setHoses_betas (x : Vector Hose 6) : (s.setHoses x).betas = s.betas := rfl
@[simp] theorem setHoses_calCounter (x : Vector Hose 6) : (s.setHoses x).calCounter = s.calCounter := rfl
@[simp] theorem setHoses_comps (x : Vector Hose 6) : (s.setHoses x).comps = s.comps := rfl
@[simp] theorem setHoses_billing (x : Vector Hose 6) : (s.setHoses x).billing = s.billing := rfl
@[simp] theorem setHoses_att (x : Vector Hose 6) : (s.setHoses x).att = s.att := rfl
@[simp] theorem setHoses_field (x : Vector Hose 6) : (s.setHoses x).field = s.field := rfl
@[simp] theorem setHoses_cab (x : Vector Hose 6) : (s.setHoses x).cab = s.cab := rfl
@[simp] theorem setHoses_screen (x : Vector Hose 6) : (s.setHoses x).screen = s.screen := rfl
@[simp] theorem setHoses_resp (x : Vector Hose 6) : (s.setHoses x).resp = s.resp := rfl
@[simp] theorem setHoses_power (x : Vector Hose 6) : (s.setHoses x).power = s.power := rfl
@[simp] theorem setHoses_pending (x : Vector Hose 6) : (s.setHoses x).pending = s.pending := rfl
@[simp] theorem setHoses_draws (x : Vector Hose 6) : (s.setHoses x).draws = s.draws := rfl
@[simp] theorem setHoses_comp (x : Vector Hose 6) (k : CompId) : (s.setHoses x).comp k = s.comp k := rfl
@[simp] theorem setHoses_entry (x : Vector Hose 6) (k : EntryId) : (s.setHoses x).entry k = s.entry k := rfl
@[simp] theorem setHoses_levelOfNode (x : Vector Hose 6) (k : Node) : (s.setHoses x).levelOfNode k = s.levelOfNode k := rfl

/-! ### setSiteStop -/

@[simp] theorem setSiteStop_table (x : Bool) : (s.setSiteStop x).table = s.table := rfl
@[simp] theorem setSiteStop_hoses (x : Bool) : (s.setSiteStop x).hoses = s.hoses := rfl
@[simp] theorem setSiteStop_siteStop (x : Bool) : (s.setSiteStop x).siteStop = x := rfl
@[simp] theorem setSiteStop_betas (x : Bool) : (s.setSiteStop x).betas = s.betas := rfl
@[simp] theorem setSiteStop_calCounter (x : Bool) : (s.setSiteStop x).calCounter = s.calCounter := rfl
@[simp] theorem setSiteStop_comps (x : Bool) : (s.setSiteStop x).comps = s.comps := rfl
@[simp] theorem setSiteStop_billing (x : Bool) : (s.setSiteStop x).billing = s.billing := rfl
@[simp] theorem setSiteStop_att (x : Bool) : (s.setSiteStop x).att = s.att := rfl
@[simp] theorem setSiteStop_field (x : Bool) : (s.setSiteStop x).field = s.field := rfl
@[simp] theorem setSiteStop_cab (x : Bool) : (s.setSiteStop x).cab = s.cab := rfl
@[simp] theorem setSiteStop_screen (x : Bool) : (s.setSiteStop x).screen = s.screen := rfl
@[simp] theorem setSiteStop_resp (x : Bool) : (s.setSiteStop x).resp = s.resp := rfl
@[simp] theorem setSiteStop_power (x : Bool) : (s.setSiteStop x).power = s.power := rfl
@[simp] theorem setSiteStop_pending (x : Bool) : (s.setSiteStop x).pending = s.pending := rfl
@[simp] theorem setSiteStop_draws (x : Bool) : (s.setSiteStop x).draws = s.draws := rfl
@[simp] theorem setSiteStop_hose (x : Bool) (k : HoseId) : (s.setSiteStop x).hose k = s.hose k := rfl
@[simp] theorem setSiteStop_comp (x : Bool) (k : CompId) : (s.setSiteStop x).comp k = s.comp k := rfl
@[simp] theorem setSiteStop_entry (x : Bool) (k : EntryId) : (s.setSiteStop x).entry k = s.entry k := rfl
@[simp] theorem setSiteStop_levelOfNode (x : Bool) (k : Node) : (s.setSiteStop x).levelOfNode k = s.levelOfNode k := rfl

/-! ### setBetas -/

@[simp] theorem setBetas_table (x : Vector Nat 8) : (s.setBetas x).table = s.table := rfl
@[simp] theorem setBetas_hoses (x : Vector Nat 8) : (s.setBetas x).hoses = s.hoses := rfl
@[simp] theorem setBetas_siteStop (x : Vector Nat 8) : (s.setBetas x).siteStop = s.siteStop := rfl
@[simp] theorem setBetas_betas (x : Vector Nat 8) : (s.setBetas x).betas = x := rfl
@[simp] theorem setBetas_calCounter (x : Vector Nat 8) : (s.setBetas x).calCounter = s.calCounter := rfl
@[simp] theorem setBetas_comps (x : Vector Nat 8) : (s.setBetas x).comps = s.comps := rfl
@[simp] theorem setBetas_billing (x : Vector Nat 8) : (s.setBetas x).billing = s.billing := rfl
@[simp] theorem setBetas_att (x : Vector Nat 8) : (s.setBetas x).att = s.att := rfl
@[simp] theorem setBetas_field (x : Vector Nat 8) : (s.setBetas x).field = s.field := rfl
@[simp] theorem setBetas_cab (x : Vector Nat 8) : (s.setBetas x).cab = s.cab := rfl
@[simp] theorem setBetas_screen (x : Vector Nat 8) : (s.setBetas x).screen = s.screen := rfl
@[simp] theorem setBetas_resp (x : Vector Nat 8) : (s.setBetas x).resp = s.resp := rfl
@[simp] theorem setBetas_power (x : Vector Nat 8) : (s.setBetas x).power = s.power := rfl
@[simp] theorem setBetas_pending (x : Vector Nat 8) : (s.setBetas x).pending = s.pending := rfl
@[simp] theorem setBetas_draws (x : Vector Nat 8) : (s.setBetas x).draws = s.draws := rfl
@[simp] theorem setBetas_hose (x : Vector Nat 8) (k : HoseId) : (s.setBetas x).hose k = s.hose k := rfl
@[simp] theorem setBetas_comp (x : Vector Nat 8) (k : CompId) : (s.setBetas x).comp k = s.comp k := rfl
@[simp] theorem setBetas_entry (x : Vector Nat 8) (k : EntryId) : (s.setBetas x).entry k = s.entry k := rfl
@[simp] theorem setBetas_levelOfNode (x : Vector Nat 8) (k : Node) : (s.setBetas x).levelOfNode k = s.levelOfNode k := rfl

/-! ### setCalCounter -/

@[simp] theorem setCalCounter_table (x : Nat) : (s.setCalCounter x).table = s.table := rfl
@[simp] theorem setCalCounter_hoses (x : Nat) : (s.setCalCounter x).hoses = s.hoses := rfl
@[simp] theorem setCalCounter_siteStop (x : Nat) : (s.setCalCounter x).siteStop = s.siteStop := rfl
@[simp] theorem setCalCounter_betas (x : Nat) : (s.setCalCounter x).betas = s.betas := rfl
@[simp] theorem setCalCounter_calCounter (x : Nat) : (s.setCalCounter x).calCounter = x := rfl
@[simp] theorem setCalCounter_comps (x : Nat) : (s.setCalCounter x).comps = s.comps := rfl
@[simp] theorem setCalCounter_billing (x : Nat) : (s.setCalCounter x).billing = s.billing := rfl
@[simp] theorem setCalCounter_att (x : Nat) : (s.setCalCounter x).att = s.att := rfl
@[simp] theorem setCalCounter_field (x : Nat) : (s.setCalCounter x).field = s.field := rfl
@[simp] theorem setCalCounter_cab (x : Nat) : (s.setCalCounter x).cab = s.cab := rfl
@[simp] theorem setCalCounter_screen (x : Nat) : (s.setCalCounter x).screen = s.screen := rfl
@[simp] theorem setCalCounter_resp (x : Nat) : (s.setCalCounter x).resp = s.resp := rfl
@[simp] theorem setCalCounter_power (x : Nat) : (s.setCalCounter x).power = s.power := rfl
@[simp] theorem setCalCounter_pending (x : Nat) : (s.setCalCounter x).pending = s.pending := rfl
@[simp] theorem setCalCounter_draws (x : Nat) : (s.setCalCounter x).draws = s.draws := rfl
@[simp] theorem setCalCounter_hose (x : Nat) (k : HoseId) : (s.setCalCounter x).hose k = s.hose k := rfl
@[simp] theorem setCalCounter_comp (x : Nat) (k : CompId) : (s.setCalCounter x).comp k = s.comp k := rfl
@[simp] theorem setCalCounter_entry (x : Nat) (k : EntryId) : (s.setCalCounter x).entry k = s.entry k := rfl
@[simp] theorem setCalCounter_levelOfNode (x : Nat) (k : Node) : (s.setCalCounter x).levelOfNode k = s.levelOfNode k := rfl

/-! ### setComp -/

@[simp] theorem setComp_table (c : CompId) (x : Compartment) : (s.setComp c x).table = s.table := rfl
@[simp] theorem setComp_hoses (c : CompId) (x : Compartment) : (s.setComp c x).hoses = s.hoses := rfl
@[simp] theorem setComp_siteStop (c : CompId) (x : Compartment) : (s.setComp c x).siteStop = s.siteStop := rfl
@[simp] theorem setComp_betas (c : CompId) (x : Compartment) : (s.setComp c x).betas = s.betas := rfl
@[simp] theorem setComp_calCounter (c : CompId) (x : Compartment) : (s.setComp c x).calCounter = s.calCounter := rfl
@[simp] theorem setComp_comps (c : CompId) (x : Compartment) : (s.setComp c x).comps = vset s.comps c x := rfl
@[simp] theorem setComp_billing (c : CompId) (x : Compartment) : (s.setComp c x).billing = s.billing := rfl
@[simp] theorem setComp_att (c : CompId) (x : Compartment) : (s.setComp c x).att = s.att := rfl
@[simp] theorem setComp_field (c : CompId) (x : Compartment) : (s.setComp c x).field = s.field := rfl
@[simp] theorem setComp_cab (c : CompId) (x : Compartment) : (s.setComp c x).cab = s.cab := rfl
@[simp] theorem setComp_screen (c : CompId) (x : Compartment) : (s.setComp c x).screen = s.screen := rfl
@[simp] theorem setComp_resp (c : CompId) (x : Compartment) : (s.setComp c x).resp = s.resp := rfl
@[simp] theorem setComp_power (c : CompId) (x : Compartment) : (s.setComp c x).power = s.power := rfl
@[simp] theorem setComp_pending (c : CompId) (x : Compartment) : (s.setComp c x).pending = s.pending := rfl
@[simp] theorem setComp_draws (c : CompId) (x : Compartment) : (s.setComp c x).draws = s.draws := rfl
@[simp] theorem setComp_hose (c : CompId) (x : Compartment) (k : HoseId) : (s.setComp c x).hose k = s.hose k := rfl
@[simp] theorem setComp_entry (c : CompId) (x : Compartment) (k : EntryId) : (s.setComp c x).entry k = s.entry k := rfl
@[simp] theorem setComp_levelOfNode (c : CompId) (x : Compartment) (k : Node) : (s.setComp c x).levelOfNode k = s.levelOfNode k := rfl

/-! ### setComps -/

@[simp] theorem setComps_table (x : Vector Compartment 4) : (s.setComps x).table = s.table := rfl
@[simp] theorem setComps_hoses (x : Vector Compartment 4) : (s.setComps x).hoses = s.hoses := rfl
@[simp] theorem setComps_siteStop (x : Vector Compartment 4) : (s.setComps x).siteStop = s.siteStop := rfl
@[simp] theorem setComps_betas (x : Vector Compartment 4) : (s.setComps x).betas = s.betas := rfl
@[simp] theorem setComps_calCounter (x : Vector Compartment 4) : (s.setComps x).calCounter = s.calCounter := rfl
@[simp] theorem setComps_comps (x : Vector Compartment 4) : (s.setComps x).comps = x := rfl
@[simp] theorem setComps_billing (x : Vector Compartment 4) : (s.setComps x).billing = s.billing := rfl
@[simp] theorem setComps_att (x : Vector Compartment 4) : (s.setComps x).att = s.att := rfl
@[simp] theorem setComps_field (x : Vector Compartment 4) : (s.setComps x).field = s.field := rfl
@[simp] theorem setComps_cab (x : Vector Compartment 4) : (s.setComps x).cab = s.cab := rfl
@[simp] theorem setComps_screen (x : Vector Compartment 4) : (s.setComps x).screen = s.screen := rfl
@[simp] theorem setComps_resp (x : Vector Compartment 4) : (s.setComps x).resp = s.resp := rfl
@[simp] theorem setComps_power (x : Vector Compartment 4) : (s.setComps x).power = s.power := rfl
@[simp] theorem setComps_pending (x : Vector Compartment 4) : (s.setComps x).pending = s.pending := rfl
@[simp] theorem setComps_draws (x : Vector Compartment 4) : (s.setComps x).draws = s.draws := rfl
@[simp] theorem setComps_hose (x : Vector Compartment 4) (k : HoseId) : (s.setComps x).hose k = s.hose k := rfl
@[simp] theorem setComps_entry (x : Vector Compartment 4) (k : EntryId) : (s.setComps x).entry k = s.entry k := rfl
@[simp] theorem setComps_levelOfNode (x : Vector Compartment 4) (k : Node) : (s.setComps x).levelOfNode k = s.levelOfNode k := rfl

/-! ### setBilling -/

@[simp] theorem setBilling_table (x : Billing) : (s.setBilling x).table = s.table := rfl
@[simp] theorem setBilling_hoses (x : Billing) : (s.setBilling x).hoses = s.hoses := rfl
@[simp] theorem setBilling_siteStop (x : Billing) : (s.setBilling x).siteStop = s.siteStop := rfl
@[simp] theorem setBilling_betas (x : Billing) : (s.setBilling x).betas = s.betas := rfl
@[simp] theorem setBilling_calCounter (x : Billing) : (s.setBilling x).calCounter = s.calCounter := rfl
@[simp] theorem setBilling_comps (x : Billing) : (s.setBilling x).comps = s.comps := rfl
@[simp] theorem setBilling_billing (x : Billing) : (s.setBilling x).billing = x := rfl
@[simp] theorem setBilling_att (x : Billing) : (s.setBilling x).att = s.att := rfl
@[simp] theorem setBilling_field (x : Billing) : (s.setBilling x).field = s.field := rfl
@[simp] theorem setBilling_cab (x : Billing) : (s.setBilling x).cab = s.cab := rfl
@[simp] theorem setBilling_screen (x : Billing) : (s.setBilling x).screen = s.screen := rfl
@[simp] theorem setBilling_resp (x : Billing) : (s.setBilling x).resp = s.resp := rfl
@[simp] theorem setBilling_power (x : Billing) : (s.setBilling x).power = s.power := rfl
@[simp] theorem setBilling_pending (x : Billing) : (s.setBilling x).pending = s.pending := rfl
@[simp] theorem setBilling_draws (x : Billing) : (s.setBilling x).draws = s.draws := rfl
@[simp] theorem setBilling_hose (x : Billing) (k : HoseId) : (s.setBilling x).hose k = s.hose k := rfl
@[simp] theorem setBilling_comp (x : Billing) (k : CompId) : (s.setBilling x).comp k = s.comp k := rfl
@[simp] theorem setBilling_entry (x : Billing) (k : EntryId) : (s.setBilling x).entry k = s.entry k := rfl
@[simp] theorem setBilling_levelOfNode (x : Billing) (k : Node) : (s.setBilling x).levelOfNode k = s.levelOfNode k := rfl

/-! ### setAtt -/

@[simp] theorem setAtt_table (x : Attention) : (s.setAtt x).table = s.table := rfl
@[simp] theorem setAtt_hoses (x : Attention) : (s.setAtt x).hoses = s.hoses := rfl
@[simp] theorem setAtt_siteStop (x : Attention) : (s.setAtt x).siteStop = s.siteStop := rfl
@[simp] theorem setAtt_betas (x : Attention) : (s.setAtt x).betas = s.betas := rfl
@[simp] theorem setAtt_calCounter (x : Attention) : (s.setAtt x).calCounter = s.calCounter := rfl
@[simp] theorem setAtt_comps (x : Attention) : (s.setAtt x).comps = s.comps := rfl
@[simp] theorem setAtt_billing (x : Attention) : (s.setAtt x).billing = s.billing := rfl
@[simp] theorem setAtt_att (x : Attention) : (s.setAtt x).att = x := rfl
@[simp] theorem setAtt_field (x : Attention) : (s.setAtt x).field = s.field := rfl
@[simp] theorem setAtt_cab (x : Attention) : (s.setAtt x).cab = s.cab := rfl
@[simp] theorem setAtt_screen (x : Attention) : (s.setAtt x).screen = s.screen := rfl
@[simp] theorem setAtt_resp (x : Attention) : (s.setAtt x).resp = s.resp := rfl
@[simp] theorem setAtt_power (x : Attention) : (s.setAtt x).power = s.power := rfl
@[simp] theorem setAtt_pending (x : Attention) : (s.setAtt x).pending = s.pending := rfl
@[simp] theorem setAtt_draws (x : Attention) : (s.setAtt x).draws = s.draws := rfl
@[simp] theorem setAtt_hose (x : Attention) (k : HoseId) : (s.setAtt x).hose k = s.hose k := rfl
@[simp] theorem setAtt_comp (x : Attention) (k : CompId) : (s.setAtt x).comp k = s.comp k := rfl
@[simp] theorem setAtt_entry (x : Attention) (k : EntryId) : (s.setAtt x).entry k = s.entry k := rfl
@[simp] theorem setAtt_levelOfNode (x : Attention) (k : Node) : (s.setAtt x).levelOfNode k = s.levelOfNode k := rfl

/-! ### setFieldPort -/

@[simp] theorem setFieldPort_table (x : PortState) : (s.setFieldPort x).table = s.table := rfl
@[simp] theorem setFieldPort_hoses (x : PortState) : (s.setFieldPort x).hoses = s.hoses := rfl
@[simp] theorem setFieldPort_siteStop (x : PortState) : (s.setFieldPort x).siteStop = s.siteStop := rfl
@[simp] theorem setFieldPort_betas (x : PortState) : (s.setFieldPort x).betas = s.betas := rfl
@[simp] theorem setFieldPort_calCounter (x : PortState) : (s.setFieldPort x).calCounter = s.calCounter := rfl
@[simp] theorem setFieldPort_comps (x : PortState) : (s.setFieldPort x).comps = s.comps := rfl
@[simp] theorem setFieldPort_billing (x : PortState) : (s.setFieldPort x).billing = s.billing := rfl
@[simp] theorem setFieldPort_att (x : PortState) : (s.setFieldPort x).att = s.att := rfl
@[simp] theorem setFieldPort_field (x : PortState) : (s.setFieldPort x).field = x := rfl
@[simp] theorem setFieldPort_cab (x : PortState) : (s.setFieldPort x).cab = s.cab := rfl
@[simp] theorem setFieldPort_screen (x : PortState) : (s.setFieldPort x).screen = s.screen := rfl
@[simp] theorem setFieldPort_resp (x : PortState) : (s.setFieldPort x).resp = s.resp := rfl
@[simp] theorem setFieldPort_power (x : PortState) : (s.setFieldPort x).power = s.power := rfl
@[simp] theorem setFieldPort_pending (x : PortState) : (s.setFieldPort x).pending = s.pending := rfl
@[simp] theorem setFieldPort_draws (x : PortState) : (s.setFieldPort x).draws = s.draws := rfl
@[simp] theorem setFieldPort_hose (x : PortState) (k : HoseId) : (s.setFieldPort x).hose k = s.hose k := rfl
@[simp] theorem setFieldPort_comp (x : PortState) (k : CompId) : (s.setFieldPort x).comp k = s.comp k := rfl
@[simp] theorem setFieldPort_entry (x : PortState) (k : EntryId) : (s.setFieldPort x).entry k = s.entry k := rfl
@[simp] theorem setFieldPort_levelOfNode (x : PortState) (k : Node) : (s.setFieldPort x).levelOfNode k = s.levelOfNode k := rfl

/-! ### setCabPort -/

@[simp] theorem setCabPort_table (x : PortState) : (s.setCabPort x).table = s.table := rfl
@[simp] theorem setCabPort_hoses (x : PortState) : (s.setCabPort x).hoses = s.hoses := rfl
@[simp] theorem setCabPort_siteStop (x : PortState) : (s.setCabPort x).siteStop = s.siteStop := rfl
@[simp] theorem setCabPort_betas (x : PortState) : (s.setCabPort x).betas = s.betas := rfl
@[simp] theorem setCabPort_calCounter (x : PortState) : (s.setCabPort x).calCounter = s.calCounter := rfl
@[simp] theorem setCabPort_comps (x : PortState) : (s.setCabPort x).comps = s.comps := rfl
@[simp] theorem setCabPort_billing (x : PortState) : (s.setCabPort x).billing = s.billing := rfl
@[simp] theorem setCabPort_att (x : PortState) : (s.setCabPort x).att = s.att := rfl
@[simp] theorem setCabPort_field (x : PortState) : (s.setCabPort x).field = s.field := rfl
@[simp] theorem setCabPort_cab (x : PortState) : (s.setCabPort x).cab = x := rfl
@[simp] theorem setCabPort_screen (x : PortState) : (s.setCabPort x).screen = s.screen := rfl
@[simp] theorem setCabPort_resp (x : PortState) : (s.setCabPort x).resp = s.resp := rfl
@[simp] theorem setCabPort_power (x : PortState) : (s.setCabPort x).power = s.power := rfl
@[simp] theorem setCabPort_pending (x : PortState) : (s.setCabPort x).pending = s.pending := rfl
@[simp] theorem setCabPort_draws (x : PortState) : (s.setCabPort x).draws = s.draws := rfl
@[simp] theorem setCabPort_hose (x : PortState) (k : HoseId) : (s.setCabPort x).hose k = s.hose k := rfl
@[simp] theorem setCabPort_comp (x : PortState) (k : CompId) : (s.setCabPort x).comp k = s.comp k := rfl
@[simp] theorem setCabPort_entry (x : PortState) (k : EntryId) : (s.setCabPort x).entry k = s.entry k := rfl
@[simp] theorem setCabPort_levelOfNode (x : PortState) (k : Node) : (s.setCabPort x).levelOfNode k = s.levelOfNode k := rfl

/-! ### setScreen -/

@[simp] theorem setScreen_table (x : Screen) : (s.setScreen x).table = s.table := rfl
@[simp] theorem setScreen_hoses (x : Screen) : (s.setScreen x).hoses = s.hoses := rfl
@[simp] theorem setScreen_siteStop (x : Screen) : (s.setScreen x).siteStop = s.siteStop := rfl
@[simp] theorem setScreen_betas (x : Screen) : (s.setScreen x).betas = s.betas := rfl
@[simp] theorem setScreen_calCounter (x : Screen) : (s.setScreen x).calCounter = s.calCounter := rfl
@[simp] theorem setScreen_comps (x : Screen) : (s.setScreen x).comps = s.comps := rfl
@[simp] theorem setScreen_billing (x : Screen) : (s.setScreen x).billing = s.billing := rfl
@[simp] theorem setScreen_att (x : Screen) : (s.setScreen x).att = s.att := rfl
@[simp] theorem setScreen_field (x : Screen) : (s.setScreen x).field = s.field := rfl
@[simp] theorem setScreen_cab (x : Screen) : (s.setScreen x).cab = s.cab := rfl
@[simp] theorem setScreen_screen (x : Screen) : (s.setScreen x).screen = x := rfl
@[simp] theorem setScreen_resp (x : Screen) : (s.setScreen x).resp = s.resp := rfl
@[simp] theorem setScreen_power (x : Screen) : (s.setScreen x).power = s.power := rfl
@[simp] theorem setScreen_pending (x : Screen) : (s.setScreen x).pending = s.pending := rfl
@[simp] theorem setScreen_draws (x : Screen) : (s.setScreen x).draws = s.draws := rfl
@[simp] theorem setScreen_hose (x : Screen) (k : HoseId) : (s.setScreen x).hose k = s.hose k := rfl
@[simp] theorem setScreen_comp (x : Screen) (k : CompId) : (s.setScreen x).comp k = s.comp k := rfl
@[simp] theorem setScreen_entry (x : Screen) (k : EntryId) : (s.setScreen x).entry k = s.entry k := rfl
@[simp] theorem setScreen_levelOfNode (x : Screen) (k : Node) : (s.setScreen x).levelOfNode k = s.levelOfNode k := rfl

/-! ### setResp -/

@[simp] theorem setResp_table (x : Responder) : (s.setResp x).table = s.table := rfl
@[simp] theorem setResp_hoses (x : Responder) : (s.setResp x).hoses = s.hoses := rfl
@[simp] theorem setResp_siteStop (x : Responder) : (s.setResp x).siteStop = s.siteStop := rfl
@[simp] theorem setResp_betas (x : Responder) : (s.setResp x).betas = s.betas := rfl
@[simp] theorem setResp_calCounter (x : Responder) : (s.setResp x).calCounter = s.calCounter := rfl
@[simp] theorem setResp_comps (x : Responder) : (s.setResp x).comps = s.comps := rfl
@[simp] theorem setResp_billing (x : Responder) : (s.setResp x).billing = s.billing := rfl
@[simp] theorem setResp_att (x : Responder) : (s.setResp x).att = s.att := rfl
@[simp] theorem setResp_field (x : Responder) : (s.setResp x).field = s.field := rfl
@[simp] theorem setResp_cab (x : Responder) : (s.setResp x).cab = s.cab := rfl
@[simp] theorem setResp_screen (x : Responder) : (s.setResp x).screen = s.screen := rfl
@[simp] theorem setResp_resp (x : Responder) : (s.setResp x).resp = x := rfl
@[simp] theorem setResp_power (x : Responder) : (s.setResp x).power = s.power := rfl
@[simp] theorem setResp_pending (x : Responder) : (s.setResp x).pending = s.pending := rfl
@[simp] theorem setResp_draws (x : Responder) : (s.setResp x).draws = s.draws := rfl
@[simp] theorem setResp_hose (x : Responder) (k : HoseId) : (s.setResp x).hose k = s.hose k := rfl
@[simp] theorem setResp_comp (x : Responder) (k : CompId) : (s.setResp x).comp k = s.comp k := rfl
@[simp] theorem setResp_entry (x : Responder) (k : EntryId) : (s.setResp x).entry k = s.entry k := rfl

/-! ### setPower -/

@[simp] theorem setPower_table (x : Power) : (s.setPower x).table = s.table := rfl
@[simp] theorem setPower_hoses (x : Power) : (s.setPower x).hoses = s.hoses := rfl
@[simp] theorem setPower_siteStop (x : Power) : (s.setPower x).siteStop = s.siteStop := rfl
@[simp] theorem setPower_betas (x : Power) : (s.setPower x).betas = s.betas := rfl
@[simp] theorem setPower_calCounter (x : Power) : (s.setPower x).calCounter = s.calCounter := rfl
@[simp] theorem setPower_comps (x : Power) : (s.setPower x).comps = s.comps := rfl
@[simp] theorem setPower_billing (x : Power) : (s.setPower x).billing = s.billing := rfl
@[simp] theorem setPower_att (x : Power) : (s.setPower x).att = s.att := rfl
@[simp] theorem setPower_field (x : Power) : (s.setPower x).field = s.field := rfl
@[simp] theorem setPower_cab (x : Power) : (s.setPower x).cab = s.cab := rfl
@[simp] theorem setPower_screen (x : Power) : (s.setPower x).screen = s.screen := rfl
@[simp] theorem setPower_resp (x : Power) : (s.setPower x).resp = s.resp := rfl
@[simp] theorem setPower_power (x : Power) : (s.setPower x).power = x := rfl
@[simp] theorem setPower_pending (x : Power) : (s.setPower x).pending = s.pending := rfl
@[simp] theorem setPower_draws (x : Power) : (s.setPower x).draws = s.draws := rfl
@[simp] theorem setPower_hose (x : Power) (k : HoseId) : (s.setPower x).hose k = s.hose k := rfl
@[simp] theorem setPower_comp (x : Power) (k : CompId) : (s.setPower x).comp k = s.comp k := rfl
@[simp] theorem setPower_entry (x : Power) (k : EntryId) : (s.setPower x).entry k = s.entry k := rfl
@[simp] theorem setPower_levelOfNode (x : Power) (k : Node) : (s.setPower x).levelOfNode k = s.levelOfNode k := rfl

/-! ### setPending -/

@[simp] theorem setPending_table (x : List Instr) : (s.setPending x).table = s.table := rfl
@[simp] theorem setPending_hoses (x : List Instr) : (s.setPending x).hoses = s.hoses := rfl
@[simp] theorem setPending_siteStop (x : List Instr) : (s.setPending x).siteStop = s.siteStop := rfl
@[simp] theorem setPending_betas (x : List Instr) : (s.setPending x).betas = s.betas := rfl
@[simp] theorem setPending_calCounter (x : List Instr) : (s.setPending x).calCounter = s.calCounter := rfl
@[simp] theorem setPending_comps (x : List Instr) : (s.setPending x).comps = s.comps := rfl
@[simp] theorem setPending_billing (x : List Instr) : (s.setPending x).billing = s.billing := rfl
@[simp] theorem setPending_att (x : List Instr) : (s.setPending x).att = s.att := rfl
@[simp] theorem setPending_field (x : List Instr) : (s.setPending x).field = s.field := rfl
@[simp] theorem setPending_cab (x : List Instr) : (s.setPending x).cab = s.cab := rfl
@[simp] theorem setPending_screen (x : List Instr) : (s.setPending x).screen = s.screen := rfl
@[simp] theorem setPending_resp (x : List Instr) : (s.setPending x).resp = s.resp := rfl
@[simp] theorem setPending_power (x : List Instr) : (s.setPending x).power = s.power := rfl
@[simp] theorem setPending_pending (x : List Instr) : (s.setPending x).pending = x := rfl
@[simp] theorem setPending_draws (x : List Instr) : (s.setPending x).draws = s.draws := rfl
@[simp] theorem setPending_hose (x : List Instr) (k : HoseId) : (s.setPending x).hose k = s.hose k := rfl
@[simp] theorem setPending_comp (x : List Instr) (k : CompId) : (s.setPending x).comp k = s.comp k := rfl
@[simp] theorem setPending_entry (x : List Instr) (k : EntryId) : (s.setPending x).entry k = s.entry k := rfl
@[simp] theorem setPending_levelOfNode (x : List Instr) (k : Node) : (s.setPending x).levelOfNode k = s.levelOfNode k := rfl

/-! ### setDraws -/

@[simp] theorem setDraws_table (x : Nat) : (s.setDraws x).table = s.table := rfl
@[simp] theorem setDraws_hoses (x : Nat) : (s.setDraws x).hoses = s.hoses := rfl
@[simp] theorem setDraws_siteStop (x : Nat) : (s.setDraws x).siteStop = s.siteStop := rfl
@[simp] theorem setDraws_betas (x : Nat) : (s.setDraws x).betas = s.betas := rfl
@[simp] theorem setDraws_calCounter (x : Nat) : (s.setDraws x).calCounter = s.calCounter := rfl
@[simp] theorem setDraws_comps (x : Nat) : (s.setDraws x).comps = s.comps := rfl
@[simp] theorem setDraws_billing (x : Nat) : (s.setDraws x).billing = s.billing := rfl
@[simp] theorem setDraws_att (x : Nat) : (s.setDraws x).att = s.att := rfl
@[simp] theorem setDraws_field (x : Nat) : (s.setDraws x).field = s.field := rfl
@[simp] theorem setDraws_cab (x : Nat) : (s.setDraws x).cab = s.cab := rfl
@[simp] theorem setDraws_screen (x : Nat) : (s.setDraws x).screen = s.screen := rfl
@[simp] theorem setDraws_resp (x : Nat) : (s.setDraws x).resp = s.resp := rfl
@[simp] theorem setDraws_power (x : Nat) : (s.setDraws x).power = s.power := rfl
@[simp] theorem setDraws_pending (x : Nat) : (s.setDraws x).pending = s.pending := rfl
@[simp] theorem setDraws_draws (x : Nat) : (s.setDraws x).draws = x := rfl
@[simp] theorem setDraws_hose (x : Nat) (k : HoseId) : (s.setDraws x).hose k = s.hose k := rfl
@[simp] theorem setDraws_comp (x : Nat) (k : CompId) : (s.setDraws x).comp k = s.comp k := rfl
@[simp] theorem setDraws_entry (x : Nat) (k : EntryId) : (s.setDraws x).entry k = s.entry k := rfl
@[simp] theorem setDraws_levelOfNode (x : Nat) (k : Node) : (s.setDraws x).levelOfNode k = s.levelOfNode k := rfl

/-! ### setEntry -/

@[simp] theorem setEntry_table (i : EntryId) (x : Entry) : (s.setEntry i x).table = { s.table with entries := vset s.table.entries i x } := rfl
@[simp] theorem setEntry_hoses (i : EntryId) (x : Entry) : (s.setEntry i x).hoses = s.hoses := rfl
@[simp] theorem setEntry_siteStop (i : EntryId) (x : Entry) : (s.setEntry i x).siteStop = s.siteStop := rfl
@[simp] theorem setEntry_betas (i : EntryId) (x : Entry) : (s.setEntry i x).betas = s.betas := rfl
@[simp] theorem setEntry_calCounter (i : EntryId) (x : Entry) : (s.setEntry i x).calCounter = s.calCounter := rfl
@[simp] theorem setEntry_comps (i : EntryId) (x : Entry) : (s.setEntry i x).comps = s.comps := rfl
@[simp] theorem setEntry_billing (i : EntryId) (x : Entry) : (s.setEntry i x).billing = s.billing := rfl
@[simp] theorem setEntry_att (i : EntryId) (x : Entry) : (s.setEntry i x).att = s.att := rfl
@[simp] theorem setEntry_field (i : EntryId) (x : Entry) : (s.setEntry i x).field = s.field := rfl
@[simp] theorem setEntry_cab (i : EntryId) (x : Entry) : (s.setEntry i x).cab = s.cab := rfl
@[simp] theorem setEntry_screen (i : EntryId) (x : Entry) : (s.setEntry i x).screen = s.screen := rfl
@[simp] theorem setEntry_resp (i : EntryId) (x : Entry) : (s.setEntry i x).resp = s.resp := rfl
@[simp] theorem setEntry_power (i : EntryId) (x : Entry) : (s.setEntry i x).power = s.power := rfl
@[simp] theorem setEntry_pending (i : EntryId) (x : Entry) : (s.setEntry i x).pending = s.pending := rfl
@[simp] theorem setEntry_draws (i : EntryId) (x : Entry) : (s.setEntry i x).draws = s.draws := rfl
@[simp] theorem setEntry_hose (i : EntryId) (x : Entry) (k : HoseId) : (s.setEntry i x).hose k = s.hose k := rfl
@[simp] theorem setEntry_comp (i : EntryId) (x : Entry) (k : CompId) : (s.setEntry i x).comp k = s.comp k := rfl
@[simp] theorem setEntry_levelOfNode (i : EntryId) (x : Entry) (k : Node) : (s.setEntry i x).levelOfNode k = s.levelOfNode k := rfl

end Sys2Proof.Machine.State
end

