-- ==== Sys2Proof/Laws/Vectors.lean ====
section
/-! SUPPORT. Fixed arrays: a read after a write, writes that meet, and what follows for hoses, compartments, entries and
ports. -/

namespace Sys2Proof.Machine

section Arrays
variable {α β : Type} {n : Nat}

@[simp] theorem vget_vset_self (v : Vector α n) (i : Fin n) (x : α) : vget (vset v i x) i = x := by
  simp [vget, vset]

theorem vget_vset_ne (v : Vector α n) {i j : Fin n} (x : α) (h : j ≠ i) : vget (vset v i x) j = vget v j := by
  have : i.val ≠ j.val := fun e => h (Fin.ext e.symm)
  simp [vget, vset, this]

theorem vget_vset (v : Vector α n) (i j : Fin n) (x : α) : vget (vset v i x) j = if j = i then x else vget v j := by
  split
  · next h => subst h; simp
  · next h => exact vget_vset_ne v x h

@[simp] theorem vset_vset (v : Vector α n) (i : Fin n) (x y : α) : vset (vset v i x) i y = vset v i y := by
  simp [vset]

@[simp] theorem vset_vget (v : Vector α n) (i : Fin n) : vset v i (vget v i) = v := by
  simp [vset, vget]

@[simp] theorem vget_vmap (f : α → β) (v : Vector α n) (i : Fin n) : vget (vmap f v) i = f (vget v i) := by
  simp [vget, vmap]

@[simp] theorem vget_vmapIdx (f : Fin n → α → α) (v : Vector α n) (i : Fin n) : vget (vmapIdx f v) i = f i (vget v i) := by
  simp [vget, vmapIdx]

@[simp] theorem vget_replicate (x : α) (i : Fin n) : vget (Vector.replicate n x) i = x := by
  simp [vget]

theorem vext {v w : Vector α n} (h : ∀ i : Fin n, vget v i = vget w i) : v = w := by
  apply Vector.ext
  intro i hi
  exact h ⟨i, hi⟩

theorem lastIds_eq_drop (k : Nat) (h : k ≤ n) : lastIds n k = (List.finRange n).drop (n - k) := by
  induction k with
  | zero => simp [lastIds]
  | succ k ih =>
    have hk : n - (k + 1) < n := by omega
    have step : n - k = n - (k + 1) + 1 := by omega
    have len : n - (k + 1) < (List.finRange n).length := by simpa only [List.length_finRange] using hk
    rw [lastIds, dif_pos hk, ih (by omega), List.drop_eq_getElem_cons len, step]
    simp

/-- The indices in ascending order are the library's list of them. -/
theorem ids_eq_finRange : ids n = List.finRange n := by simp [ids, lastIds_eq_drop n (Nat.le_refl n)]

/-- A fixed array read in order is read by its indices. -/
theorem toList_map_ids {β γ : Type} (v : Vector β n) (f : β → γ) : v.toList.map f = (ids n).map fun i => f (vget v i) := by
  rw [ids_eq_finRange]
  apply List.ext_getElem <;> simp [vget]

@[simp] theorem mem_ids (i : Fin n) : i ∈ ids n := by simp [ids_eq_finRange]

theorem nodup_ids : (ids n).Nodup := by simpa [ids_eq_finRange] using List.nodup_finRange n

end Arrays

namespace State

variable (s : State)

@[simp] theorem setHose_hose_self (h : HoseId) (x : Hose) : (s.setHose h x).hose h = x := by simp [hose]
theorem setHose_hose_ne {h k : HoseId} (x : Hose) (n : k ≠ h) : (s.setHose h x).hose k = s.hose k := by
  simp [hose, vget_vset_ne _ _ n]
theorem setHose_hose (h k : HoseId) (x : Hose) : (s.setHose h x).hose k = if k = h then x else s.hose k := by
  simp [hose, vget_vset]
@[simp] theorem setHose_setHose (h : HoseId) (x y : Hose) : (s.setHose h x).setHose h y = s.setHose h y := by
  simp [setHose]
@[simp] theorem setHose_hose_same (h : HoseId) : s.setHose h (s.hose h) = s := by simp [setHose, hose]

@[simp] theorem setComp_comp_self (c : CompId) (x : Compartment) : (s.setComp c x).comp c = x := by simp [comp]
theorem setComp_comp_ne {c k : CompId} (x : Compartment) (n : k ≠ c) : (s.setComp c x).comp k = s.comp k := by
  simp [comp, vget_vset_ne _ _ n]
theorem setComp_comp (c k : CompId) (x : Compartment) : (s.setComp c x).comp k = if k = c then x else s.comp k := by
  simp [comp, vget_vset]
@[simp] theorem setComp_setComp (c : CompId) (x y : Compartment) : (s.setComp c x).setComp c y = s.setComp c y := by
  simp [setComp]

@[simp] theorem setEntry_entry_self (i : EntryId) (e : Entry) : (s.setEntry i e).entry i = e := by simp [entry]
theorem setEntry_entry_ne {i k : EntryId} (e : Entry) (n : k ≠ i) : (s.setEntry i e).entry k = s.entry k := by
  simp [entry, vget_vset_ne _ _ n]
theorem setEntry_entry (i k : EntryId) (e : Entry) : (s.setEntry i e).entry k = if k = i then e else s.entry k := by
  simp [entry, vget_vset]
@[simp] theorem setEntry_setEntry (i : EntryId) (e f : Entry) : (s.setEntry i e).setEntry i f = s.setEntry i f := by
  simp [setEntry, setTable]

@[simp] theorem port_field : s.port .field = s.field := rfl
@[simp] theorem port_cab : s.port .cab = s.cab := rfl
@[simp] theorem setPort_field (x : PortState) : s.setPort .field x = s.setFieldPort x := rfl
@[simp] theorem setPort_cab (x : PortState) : s.setPort .cab x = s.setCabPort x := rfl
@[simp] theorem port_setPort_self (p : Port) (x : PortState) : (s.setPort p x).port p = x := by cases p <;> rfl
@[simp] theorem port_setPort_other (p : Port) (x : PortState) : (s.setPort p x).port p.other = s.port p.other := by
  cases p <;> rfl

end State

end Sys2Proof.Machine
end

