-- ==== Sys2Proof/Laws/OpsFrames.lean ====
section
/-! SUPPORT. What each shared operation of Machine/Ops.lean leaves unchanged: one lemma per operation and untouched field of
State. -/

namespace Sys2Proof.Machine.State

variable (s : State)

/-! ### cabControl -/

@[simp] theorem cabControl_table (q : QKind) (f : Frame) : (s.cabControl q f).table = s.table := rfl
@[simp] theorem cabControl_entry (q : QKind) (f : Frame) (j : EntryId) : (s.cabControl q f).entry j = s.entry j := by
  simp [State.entry]
@[simp] theorem cabControl_hoses (q : QKind) (f : Frame) : (s.cabControl q f).hoses = s.hoses := rfl
@[simp] theorem cabControl_hose (q : QKind) (f : Frame) (j : HoseId) : (s.cabControl q f).hose j = s.hose j := by
  simp [State.hose]
@[simp] theorem cabControl_siteStop (q : QKind) (f : Frame) : (s.cabControl q f).siteStop = s.siteStop := rfl
@[simp] theorem cabControl_betas (q : QKind) (f : Frame) : (s.cabControl q f).betas = s.betas := rfl
@[simp] theorem cabControl_calCounter (q : QKind) (f : Frame) : (s.cabControl q f).calCounter = s.calCounter := rfl
@[simp] theorem cabControl_comps (q : QKind) (f : Frame) : (s.cabControl q f).comps = s.comps := rfl
@[simp] theorem cabControl_comp (q : QKind) (f : Frame) (j : CompId) : (s.cabControl q f).comp j = s.comp j := by
  simp [State.comp]
@[simp] theorem cabControl_billing (q : QKind) (f : Frame) : (s.cabControl q f).billing = s.billing := rfl
@[simp] theorem cabControl_att (q : QKind) (f : Frame) : (s.cabControl q f).att = s.att := rfl
@[simp] theorem cabControl_field (q : QKind) (f : Frame) : (s.cabControl q f).field = s.field := rfl
@[simp] theorem cabControl_screen (q : QKind) (f : Frame) : (s.cabControl q f).screen = s.screen := rfl
@[simp] theorem cabControl_resp (q : QKind) (f : Frame) : (s.cabControl q f).resp = s.resp := rfl
@[simp] theorem cabControl_levelOfNode (q : QKind) (f : Frame) (j : Node) : (s.cabControl q f).levelOfNode j = s.levelOfNode j := by
  simp [State.levelOfNode]
@[simp] theorem cabControl_power (q : QKind) (f : Frame) : (s.cabControl q f).power = s.power := rfl
@[simp] theorem cabControl_pending (q : QKind) (f : Frame) : (s.cabControl q f).pending = s.pending := rfl
@[simp] theorem cabControl_draws (q : QKind) (f : Frame) : (s.cabControl q f).draws = s.draws := rfl

/-! ### cabOrdinary -/

@[simp] theorem cabOrdinary_table (f : Frame) : (s.cabOrdinary f).table = s.table := rfl
@[simp] theorem cabOrdinary_entry (f : Frame) (j : EntryId) : (s.cabOrdinary f).entry j = s.entry j := by
  simp [State.entry]
@[simp] theorem cabOrdinary_hoses (f : Frame) : (s.cabOrdinary f).hoses = s.hoses := rfl
@[simp] theorem cabOrdinary_hose (f : Frame) (j : HoseId) : (s.cabOrdinary f).hose j = s.hose j := by
  simp [State.hose]
@[simp] theorem cabOrdinary_siteStop (f : Frame) : (s.cabOrdinary f).siteStop = s.siteStop := rfl
@[simp] theorem cabOrdinary_betas (f : Frame) : (s.cabOrdinary f).betas = s.betas := rfl
@[simp] theorem cabOrdinary_calCounter (f : Frame) : (s.cabOrdinary f).calCounter = s.calCounter := rfl
@[simp] theorem cabOrdinary_comps (f : Frame) : (s.cabOrdinary f).comps = s.comps := rfl
@[simp] theorem cabOrdinary_comp (f : Frame) (j : CompId) : (s.cabOrdinary f).comp j = s.comp j := by
  simp [State.comp]
@[simp] theorem cabOrdinary_billing (f : Frame) : (s.cabOrdinary f).billing = s.billing := rfl
@[simp] theorem cabOrdinary_att (f : Frame) : (s.cabOrdinary f).att = s.att := rfl
@[simp] theorem cabOrdinary_field (f : Frame) : (s.cabOrdinary f).field = s.field := rfl
@[simp] theorem cabOrdinary_screen (f : Frame) : (s.cabOrdinary f).screen = s.screen := rfl
@[simp] theorem cabOrdinary_resp (f : Frame) : (s.cabOrdinary f).resp = s.resp := rfl
@[simp] theorem cabOrdinary_levelOfNode (f : Frame) (j : Node) : (s.cabOrdinary f).levelOfNode j = s.levelOfNode j := by
  simp [State.levelOfNode]
@[simp] theorem cabOrdinary_power (f : Frame) : (s.cabOrdinary f).power = s.power := rfl
@[simp] theorem cabOrdinary_pending (f : Frame) : (s.cabOrdinary f).pending = s.pending := rfl
@[simp] theorem cabOrdinary_draws (f : Frame) : (s.cabOrdinary f).draws = s.draws := rfl

/-! ### fireAttention -/

@[simp] theorem fireAttention_table (w : Half) : (s.fireAttention w).table = s.table := rfl
@[simp] theorem fireAttention_entry (w : Half) (j : EntryId) : (s.fireAttention w).entry j = s.entry j := by
  simp [State.entry]
@[simp] theorem fireAttention_hoses (w : Half) : (s.fireAttention w).hoses = s.hoses := rfl
@[simp] theorem fireAttention_hose (w : Half) (j : HoseId) : (s.fireAttention w).hose j = s.hose j := by
  simp [State.hose]
@[simp] theorem fireAttention_siteStop (w : Half) : (s.fireAttention w).siteStop = s.siteStop := rfl
@[simp] theorem fireAttention_betas (w : Half) : (s.fireAttention w).betas = s.betas := rfl
@[simp] theorem fireAttention_calCounter (w : Half) : (s.fireAttention w).calCounter = s.calCounter := rfl
@[simp] theorem fireAttention_comps (w : Half) : (s.fireAttention w).comps = s.comps := rfl
@[simp] theorem fireAttention_comp (w : Half) (j : CompId) : (s.fireAttention w).comp j = s.comp j := by
  simp [State.comp]
@[simp] theorem fireAttention_billing (w : Half) : (s.fireAttention w).billing = s.billing := rfl
@[simp] theorem fireAttention_field (w : Half) : (s.fireAttention w).field = s.field := rfl
@[simp] theorem fireAttention_screen (w : Half) : (s.fireAttention w).screen = s.screen := rfl
@[simp] theorem fireAttention_resp (w : Half) : (s.fireAttention w).resp = s.resp := rfl
@[simp] theorem fireAttention_levelOfNode (w : Half) (j : Node) : (s.fireAttention w).levelOfNode j = s.levelOfNode j := by
  simp [State.levelOfNode]
@[simp] theorem fireAttention_power (w : Half) : (s.fireAttention w).power = s.power := rfl
@[simp] theorem fireAttention_pending (w : Half) : (s.fireAttention w).pending = s.pending := rfl
@[simp] theorem fireAttention_draws (w : Half) : (s.fireAttention w).draws = s.draws := rfl

/-! ### setCause -/

@[simp] theorem setCause_table (c : Cause) : (s.setCause c).table = s.table := by
  unfold State.setCause; split <;> rfl
@[simp] theorem setCause_entry (c : Cause) (j : EntryId) : (s.setCause c).entry j = s.entry j := by
  simp [State.entry]
@[simp] theorem setCause_hoses (c : Cause) : (s.setCause c).hoses = s.hoses := by
  unfold State.setCause; split <;> rfl
@[simp] theorem setCause_hose (c : Cause) (j : HoseId) : (s.setCause c).hose j = s.hose j := by
  simp [State.hose]
@[simp] theorem setCause_siteStop (c : Cause) : (s.setCause c).siteStop = s.siteStop := by
  unfold State.setCause; split <;> rfl
@[simp] theorem setCause_betas (c : Cause) : (s.setCause c).betas = s.betas := by
  unfold State.setCause; split <;> rfl
@[simp] theorem setCause_calCounter (c : Cause) : (s.setCause c).calCounter = s.calCounter := by
  unfold State.setCause; split <;> rfl
@[simp] theorem setCause_comps (c : Cause) : (s.setCause c).comps = s.comps := by
  unfold State.setCause; split <;> rfl
@[simp] theorem setCause_comp (c : Cause) (j : CompId) : (s.setCause c).comp j = s.comp j := by
  simp [State.comp]
@[simp] theorem setCause_billing (c : Cause) : (s.setCause c).billing = s.billing := by
  unfold State.setCause; split <;> rfl
@[simp] theorem setCause_field (c : Cause) : (s.setCause c).field = s.field := by
  unfold State.setCause; split <;> rfl
@[simp] theorem setCause_screen (c : Cause) : (s.setCause c).screen = s.screen := by
  unfold State.setCause; split <;> rfl
@[simp] theorem setCause_resp (c : Cause) : (s.setCause c).resp = s.resp := by
  unfold State.setCause; split <;> rfl
@[simp] theorem setCause_levelOfNode (c : Cause) (j : Node) : (s.setCause c).levelOfNode j = s.levelOfNode j := by
  simp [State.levelOfNode]
@[simp] theorem setCause_power (c : Cause) : (s.setCause c).power = s.power := by
  unfold State.setCause; split <;> rfl
@[simp] theorem setCause_pending (c : Cause) : (s.setCause c).pending = s.pending := by
  unfold State.setCause; split <;> rfl
@[simp] theorem setCause_draws (c : Cause) : (s.setCause c).draws = s.draws := by
  unfold State.setCause; split <;> rfl

/-! ### drawFor -/

@[simp] theorem drawFor_table (v : Int) : (s.drawFor v).table = s.table := by
  unfold State.drawFor; split <;> rfl
@[simp] theorem drawFor_entry (v : Int) (j : EntryId) : (s.drawFor v).entry j = s.entry j := by
  simp [State.entry]
@[simp] theorem drawFor_hoses (v : Int) : (s.drawFor v).hoses = s.hoses := by
  unfold State.drawFor; split <;> rfl
@[simp] theorem drawFor_hose (v : Int) (j : HoseId) : (s.drawFor v).hose j = s.hose j := by
  simp [State.hose]
@[simp] theorem drawFor_siteStop (v : Int) : (s.drawFor v).siteStop = s.siteStop := by
  unfold State.drawFor; split <;> rfl
@[simp] theorem drawFor_betas (v : Int) : (s.drawFor v).betas = s.betas := by
  unfold State.drawFor; split <;> rfl
@[simp] theorem drawFor_calCounter (v : Int) : (s.drawFor v).calCounter = s.calCounter := by
  unfold State.drawFor; split <;> rfl
@[simp] theorem drawFor_comps (v : Int) : (s.drawFor v).comps = s.comps := by
  unfold State.drawFor; split <;> rfl
@[simp] theorem drawFor_comp (v : Int) (j : CompId) : (s.drawFor v).comp j = s.comp j := by
  simp [State.comp]
@[simp] theorem drawFor_billing (v : Int) : (s.drawFor v).billing = s.billing := by
  unfold State.drawFor; split <;> rfl
@[simp] theorem drawFor_att (v : Int) : (s.drawFor v).att = s.att := by
  unfold State.drawFor; split <;> rfl
@[simp] theorem drawFor_field (v : Int) : (s.drawFor v).field = s.field := by
  unfold State.drawFor; split <;> rfl
@[simp] theorem drawFor_cab (v : Int) : (s.drawFor v).cab = s.cab := by
  unfold State.drawFor; split <;> rfl
@[simp] theorem drawFor_screen (v : Int) : (s.drawFor v).screen = s.screen := by
  unfold State.drawFor; split <;> rfl
@[simp] theorem drawFor_resp (v : Int) : (s.drawFor v).resp = s.resp := by
  unfold State.drawFor; split <;> rfl
@[simp] theorem drawFor_levelOfNode (v : Int) (j : Node) : (s.drawFor v).levelOfNode j = s.levelOfNode j := by
  simp [State.levelOfNode]
@[simp] theorem drawFor_power (v : Int) : (s.drawFor v).power = s.power := by
  unfold State.drawFor; split <;> rfl
@[simp] theorem drawFor_pending (v : Int) : (s.drawFor v).pending = s.pending := by
  unfold State.drawFor; split <;> rfl

/-! ### queueValve -/

@[simp] theorem queueValve_table (h : HoseId) (v : ValveCmd) : (s.queueValve h v).table = s.table := by
  unfold State.queueValve; split <;> rfl
@[simp] theorem queueValve_entry (h : HoseId) (v : ValveCmd) (j : EntryId) : (s.queueValve h v).entry j = s.entry j := by
  simp [State.entry]
@[simp] theorem queueValve_siteStop (h : HoseId) (v : ValveCmd) : (s.queueValve h v).siteStop = s.siteStop := by
  unfold State.queueValve; split <;> rfl
@[simp] theorem queueValve_betas (h : HoseId) (v : ValveCmd) : (s.queueValve h v).betas = s.betas := by
  unfold State.queueValve; split <;> rfl
@[simp] theorem queueValve_calCounter (h : HoseId) (v : ValveCmd) : (s.queueValve h v).calCounter = s.calCounter := by
  unfold State.queueValve; split <;> rfl
@[simp] theorem queueValve_comps (h : HoseId) (v : ValveCmd) : (s.queueValve h v).comps = s.comps := by
  unfold State.queueValve; split <;> rfl
@[simp] theorem queueValve_comp (h : HoseId) (v : ValveCmd) (j : CompId) : (s.queueValve h v).comp j = s.comp j := by
  simp [State.comp]
@[simp] theorem queueValve_billing (h : HoseId) (v : ValveCmd) : (s.queueValve h v).billing = s.billing := by
  unfold State.queueValve; split <;> rfl
@[simp] theorem queueValve_att (h : HoseId) (v : ValveCmd) : (s.queueValve h v).att = s.att := by
  unfold State.queueValve; split <;> rfl
@[simp] theorem queueValve_cab (h : HoseId) (v : ValveCmd) : (s.queueValve h v).cab = s.cab := by
  unfold State.queueValve; split <;> rfl
@[simp] theorem queueValve_screen (h : HoseId) (v : ValveCmd) : (s.queueValve h v).screen = s.screen := by
  unfold State.queueValve; split <;> rfl
@[simp] theorem queueValve_resp (h : HoseId) (v : ValveCmd) : (s.queueValve h v).resp = s.resp := by
  unfold State.queueValve; split <;> rfl
@[simp] theorem queueValve_levelOfNode (h : HoseId) (v : ValveCmd) (j : Node) : (s.queueValve h v).levelOfNode j = s.levelOfNode j := by
  simp [State.levelOfNode]
@[simp] theorem queueValve_power (h : HoseId) (v : ValveCmd) : (s.queueValve h v).power = s.power := by
  unfold State.queueValve; split <;> rfl
@[simp] theorem queueValve_pending (h : HoseId) (v : ValveCmd) : (s.queueValve h v).pending = s.pending := by
  unfold State.queueValve; split <;> rfl
@[simp] theorem queueValve_draws (h : HoseId) (v : ValveCmd) : (s.queueValve h v).draws = s.draws := by
  unfold State.queueValve; split <;> rfl

/-! ### entryProgress -/

@[simp] theorem entryProgress_table (h : HoseId) : (s.entryProgress h).table = s.table := rfl
@[simp] theorem entryProgress_entry (h : HoseId) (j : EntryId) : (s.entryProgress h).entry j = s.entry j := by
  simp [State.entry]
@[simp] theorem entryProgress_hoses (h : HoseId) : (s.entryProgress h).hoses = s.hoses := rfl
@[simp] theorem entryProgress_hose (h : HoseId) (j : HoseId) : (s.entryProgress h).hose j = s.hose j := by
  simp [State.hose]
@[simp] theorem entryProgress_siteStop (h : HoseId) : (s.entryProgress h).siteStop = s.siteStop := rfl
@[simp] theorem entryProgress_betas (h : HoseId) : (s.entryProgress h).betas = s.betas := rfl
@[simp] theorem entryProgress_calCounter (h : HoseId) : (s.entryProgress h).calCounter = s.calCounter := rfl
@[simp] theorem entryProgress_comps (h : HoseId) : (s.entryProgress h).comps = s.comps := rfl
@[simp] theorem entryProgress_comp (h : HoseId) (j : CompId) : (s.entryProgress h).comp j = s.comp j := by
  simp [State.comp]
@[simp] theorem entryProgress_billing (h : HoseId) : (s.entryProgress h).billing = s.billing := rfl
@[simp] theorem entryProgress_att (h : HoseId) : (s.entryProgress h).att = s.att := rfl
@[simp] theorem entryProgress_field (h : HoseId) : (s.entryProgress h).field = s.field := rfl
@[simp] theorem entryProgress_screen (h : HoseId) : (s.entryProgress h).screen = s.screen := rfl
@[simp] theorem entryProgress_resp (h : HoseId) : (s.entryProgress h).resp = s.resp := rfl
@[simp] theorem entryProgress_levelOfNode (h : HoseId) (j : Node) : (s.entryProgress h).levelOfNode j = s.levelOfNode j := by
  simp [State.levelOfNode]
@[simp] theorem entryProgress_power (h : HoseId) : (s.entryProgress h).power = s.power := rfl
@[simp] theorem entryProgress_pending (h : HoseId) : (s.entryProgress h).pending = s.pending := rfl
@[simp] theorem entryProgress_draws (h : HoseId) : (s.entryProgress h).draws = s.draws := rfl

/-! ### sampleProgress -/

@[simp] theorem sampleProgress_table (h : HoseId) : (s.sampleProgress h).table = s.table := by
  unfold State.sampleProgress; split <;> rfl
@[simp] theorem sampleProgress_entry (h : HoseId) (j : EntryId) : (s.sampleProgress h).entry j = s.entry j := by
  simp [State.entry]
@[simp] theorem sampleProgress_hoses (h : HoseId) : (s.sampleProgress h).hoses = s.hoses := by
  unfold State.sampleProgress; split <;> rfl
@[simp] theorem sampleProgress_hose (h : HoseId) (j : HoseId) : (s.sampleProgress h).hose j = s.hose j := by
  simp [State.hose]
@[simp] theorem sampleProgress_siteStop (h : HoseId) : (s.sampleProgress h).siteStop = s.siteStop := by
  unfold State.sampleProgress; split <;> rfl
@[simp] theorem sampleProgress_betas (h : HoseId) : (s.sampleProgress h).betas = s.betas := by
  unfold State.sampleProgress; split <;> rfl
@[simp] theorem sampleProgress_calCounter (h : HoseId) : (s.sampleProgress h).calCounter = s.calCounter := by
  unfold State.sampleProgress; split <;> rfl
@[simp] theorem sampleProgress_comps (h : HoseId) : (s.sampleProgress h).comps = s.comps := by
  unfold State.sampleProgress; split <;> rfl
@[simp] theorem sampleProgress_comp (h : HoseId) (j : CompId) : (s.sampleProgress h).comp j = s.comp j := by
  simp [State.comp]
@[simp] theorem sampleProgress_billing (h : HoseId) : (s.sampleProgress h).billing = s.billing := by
  unfold State.sampleProgress; split <;> rfl
@[simp] theorem sampleProgress_att (h : HoseId) : (s.sampleProgress h).att = s.att := by
  unfold State.sampleProgress; split <;> rfl
@[simp] theorem sampleProgress_field (h : HoseId) : (s.sampleProgress h).field = s.field := by
  unfold State.sampleProgress; split <;> rfl
@[simp] theorem sampleProgress_screen (h : HoseId) : (s.sampleProgress h).screen = s.screen := by
  unfold State.sampleProgress; split <;> rfl
@[simp] theorem sampleProgress_resp (h : HoseId) : (s.sampleProgress h).resp = s.resp := by
  unfold State.sampleProgress; split <;> rfl
@[simp] theorem sampleProgress_levelOfNode (h : HoseId) (j : Node) : (s.sampleProgress h).levelOfNode j = s.levelOfNode j := by
  simp [State.levelOfNode]
@[simp] theorem sampleProgress_power (h : HoseId) : (s.sampleProgress h).power = s.power := by
  unfold State.sampleProgress; split <;> rfl
@[simp] theorem sampleProgress_pending (h : HoseId) : (s.sampleProgress h).pending = s.pending := by
  unfold State.sampleProgress; split <;> rfl
@[simp] theorem sampleProgress_draws (h : HoseId) : (s.sampleProgress h).draws = s.draws := by
  unfold State.sampleProgress; split <;> rfl

/-! ### authRefused -/

@[simp] theorem authRefused_table (h : HoseId) (w : Reason) (t : Option TagId) (m n : Option Nat) : (s.authRefused h w t m n).table = s.table := rfl
@[simp] theorem authRefused_entry (h : HoseId) (w : Reason) (t : Option TagId) (m n : Option Nat) (j : EntryId) : (s.authRefused h w t m n).entry j = s.entry j := by
  simp [State.entry]
@[simp] theorem authRefused_hoses (h : HoseId) (w : Reason) (t : Option TagId) (m n : Option Nat) : (s.authRefused h w t m n).hoses = s.hoses := rfl
@[simp] theorem authRefused_hose (h : HoseId) (w : Reason) (t : Option TagId) (m n : Option Nat) (j : HoseId) : (s.authRefused h w t m n).hose j = s.hose j := by
  simp [State.hose]
@[simp] theorem authRefused_siteStop (h : HoseId) (w : Reason) (t : Option TagId) (m n : Option Nat) : (s.authRefused h w t m n).siteStop = s.siteStop := rfl
@[simp] theorem authRefused_betas (h : HoseId) (w : Reason) (t : Option TagId) (m n : Option Nat) : (s.authRefused h w t m n).betas = s.betas := rfl
@[simp] theorem authRefused_calCounter (h : HoseId) (w : Reason) (t : Option TagId) (m n : Option Nat) : (s.authRefused h w t m n).calCounter = s.calCounter := rfl
@[simp] theorem authRefused_comps (h : HoseId) (w : Reason) (t : Option TagId) (m n : Option Nat) : (s.authRefused h w t m n).comps = s.comps := rfl
@[simp] theorem authRefused_comp (h : HoseId) (w : Reason) (t : Option TagId) (m n : Option Nat) (j : CompId) : (s.authRefused h w t m n).comp j = s.comp j := by
  simp [State.comp]
@[simp] theorem authRefused_billing (h : HoseId) (w : Reason) (t : Option TagId) (m n : Option Nat) : (s.authRefused h w t m n).billing = s.billing := rfl
@[simp] theorem authRefused_att (h : HoseId) (w : Reason) (t : Option TagId) (m n : Option Nat) : (s.authRefused h w t m n).att = s.att := rfl
@[simp] theorem authRefused_field (h : HoseId) (w : Reason) (t : Option TagId) (m n : Option Nat) : (s.authRefused h w t m n).field = s.field := rfl
@[simp] theorem authRefused_screen (h : HoseId) (w : Reason) (t : Option TagId) (m n : Option Nat) : (s.authRefused h w t m n).screen = s.screen := rfl
@[simp] theorem authRefused_resp (h : HoseId) (w : Reason) (t : Option TagId) (m n : Option Nat) : (s.authRefused h w t m n).resp = s.resp := rfl
@[simp] theorem authRefused_levelOfNode (h : HoseId) (w : Reason) (t : Option TagId) (m n : Option Nat) (j : Node) : (s.authRefused h w t m n).levelOfNode j = s.levelOfNode j := by
  simp [State.levelOfNode]
@[simp] theorem authRefused_power (h : HoseId) (w : Reason) (t : Option TagId) (m n : Option Nat) : (s.authRefused h w t m n).power = s.power := rfl
@[simp] theorem authRefused_pending (h : HoseId) (w : Reason) (t : Option TagId) (m n : Option Nat) : (s.authRefused h w t m n).pending = s.pending := rfl
@[simp] theorem authRefused_draws (h : HoseId) (w : Reason) (t : Option TagId) (m n : Option Nat) : (s.authRefused h w t m n).draws = s.draws := rfl

/-! ### requestRefused -/

@[simp] theorem requestRefused_table (b : Option Byte) (w : Reason) (k : Option RequestKind) : (s.requestRefused b w k).table = s.table := rfl
@[simp] theorem requestRefused_entry (b : Option Byte) (w : Reason) (k : Option RequestKind) (j : EntryId) : (s.requestRefused b w k).entry j = s.entry j := by
  simp [State.entry]
@[simp] theorem requestRefused_hoses (b : Option Byte) (w : Reason) (k : Option RequestKind) : (s.requestRefused b w k).hoses = s.hoses := rfl
@[simp] theorem requestRefused_hose (b : Option Byte) (w : Reason) (k : Option RequestKind) (j : HoseId) : (s.requestRefused b w k).hose j = s.hose j := by
  simp [State.hose]
@[simp] theorem requestRefused_siteStop (b : Option Byte) (w : Reason) (k : Option RequestKind) : (s.requestRefused b w k).siteStop = s.siteStop := rfl
@[simp] theorem requestRefused_betas (b : Option Byte) (w : Reason) (k : Option RequestKind) : (s.requestRefused b w k).betas = s.betas := rfl
@[simp] theorem requestRefused_calCounter (b : Option Byte) (w : Reason) (k : Option RequestKind) : (s.requestRefused b w k).calCounter = s.calCounter := rfl
@[simp] theorem requestRefused_comps (b : Option Byte) (w : Reason) (k : Option RequestKind) : (s.requestRefused b w k).comps = s.comps := rfl
@[simp] theorem requestRefused_comp (b : Option Byte) (w : Reason) (k : Option RequestKind) (j : CompId) : (s.requestRefused b w k).comp j = s.comp j := by
  simp [State.comp]
@[simp] theorem requestRefused_billing (b : Option Byte) (w : Reason) (k : Option RequestKind) : (s.requestRefused b w k).billing = s.billing := rfl
@[simp] theorem requestRefused_att (b : Option Byte) (w : Reason) (k : Option RequestKind) : (s.requestRefused b w k).att = s.att := rfl
@[simp] theorem requestRefused_field (b : Option Byte) (w : Reason) (k : Option RequestKind) : (s.requestRefused b w k).field = s.field := rfl
@[simp] theorem requestRefused_screen (b : Option Byte) (w : Reason) (k : Option RequestKind) : (s.requestRefused b w k).screen = s.screen := rfl
@[simp] theorem requestRefused_resp (b : Option Byte) (w : Reason) (k : Option RequestKind) : (s.requestRefused b w k).resp = s.resp := rfl
@[simp] theorem requestRefused_levelOfNode (b : Option Byte) (w : Reason) (k : Option RequestKind) (j : Node) : (s.requestRefused b w k).levelOfNode j = s.levelOfNode j := by
  simp [State.levelOfNode]
@[simp] theorem requestRefused_power (b : Option Byte) (w : Reason) (k : Option RequestKind) : (s.requestRefused b w k).power = s.power := rfl
@[simp] theorem requestRefused_pending (b : Option Byte) (w : Reason) (k : Option RequestKind) : (s.requestRefused b w k).pending = s.pending := rfl
@[simp] theorem requestRefused_draws (b : Option Byte) (w : Reason) (k : Option RequestKind) : (s.requestRefused b w k).draws = s.draws := rfl

/-! ### countGood -/

@[simp] theorem countGood_table (p : Port) : (s.countGood p).table = s.table := by
  cases p <;> rfl
@[simp] theorem countGood_entry (p : Port) (j : EntryId) : (s.countGood p).entry j = s.entry j := by
  simp [State.entry]
@[simp] theorem countGood_hoses (p : Port) : (s.countGood p).hoses = s.hoses := by
  cases p <;> rfl
@[simp] theorem countGood_hose (p : Port) (j : HoseId) : (s.countGood p).hose j = s.hose j := by
  simp [State.hose]
@[simp] theorem countGood_siteStop (p : Port) : (s.countGood p).siteStop = s.siteStop := by
  cases p <;> rfl
@[simp] theorem countGood_betas (p : Port) : (s.countGood p).betas = s.betas := by
  cases p <;> rfl
@[simp] theorem countGood_calCounter (p : Port) : (s.countGood p).calCounter = s.calCounter := by
  cases p <;> rfl
@[simp] theorem countGood_comps (p : Port) : (s.countGood p).comps = s.comps := by
  cases p <;> rfl
@[simp] theorem countGood_comp (p : Port) (j : CompId) : (s.countGood p).comp j = s.comp j := by
  simp [State.comp]
@[simp] theorem countGood_billing (p : Port) : (s.countGood p).billing = s.billing := by
  cases p <;> rfl
@[simp] theorem countGood_att (p : Port) : (s.countGood p).att = s.att := by
  cases p <;> rfl
@[simp] theorem countGood_screen (p : Port) : (s.countGood p).screen = s.screen := by
  cases p <;> rfl
@[simp] theorem countGood_resp (p : Port) : (s.countGood p).resp = s.resp := by
  cases p <;> rfl
@[simp] theorem countGood_levelOfNode (p : Port) (j : Node) : (s.countGood p).levelOfNode j = s.levelOfNode j := by
  simp [State.levelOfNode]
@[simp] theorem countGood_power (p : Port) : (s.countGood p).power = s.power := by
  cases p <;> rfl
@[simp] theorem countGood_pending (p : Port) : (s.countGood p).pending = s.pending := by
  cases p <;> rfl
@[simp] theorem countGood_draws (p : Port) : (s.countGood p).draws = s.draws := by
  cases p <;> rfl

/-! ### countBad -/

@[simp] theorem countBad_table (p : Port) : (s.countBad p).table = s.table := by
  cases p <;> rfl
@[simp] theorem countBad_entry (p : Port) (j : EntryId) : (s.countBad p).entry j = s.entry j := by
  simp [State.entry]
@[simp] theorem countBad_hoses (p : Port) : (s.countBad p).hoses = s.hoses := by
  cases p <;> rfl
@[simp] theorem countBad_hose (p : Port) (j : HoseId) : (s.countBad p).hose j = s.hose j := by
  simp [State.hose]
@[simp] theorem countBad_siteStop (p : Port) : (s.countBad p).siteStop = s.siteStop := by
  cases p <;> rfl
@[simp] theorem countBad_betas (p : Port) : (s.countBad p).betas = s.betas := by
  cases p <;> rfl
@[simp] theorem countBad_calCounter (p : Port) : (s.countBad p).calCounter = s.calCounter := by
  cases p <;> rfl
@[simp] theorem countBad_comps (p : Port) : (s.countBad p).comps = s.comps := by
  cases p <;> rfl
@[simp] theorem countBad_comp (p : Port) (j : CompId) : (s.countBad p).comp j = s.comp j := by
  simp [State.comp]
@[simp] theorem countBad_billing (p : Port) : (s.countBad p).billing = s.billing := by
  cases p <;> rfl
@[simp] theorem countBad_att (p : Port) : (s.countBad p).att = s.att := by
  cases p <;> rfl
@[simp] theorem countBad_screen (p : Port) : (s.countBad p).screen = s.screen := by
  cases p <;> rfl
@[simp] theorem countBad_resp (p : Port) : (s.countBad p).resp = s.resp := by
  cases p <;> rfl
@[simp] theorem countBad_levelOfNode (p : Port) (j : Node) : (s.countBad p).levelOfNode j = s.levelOfNode j := by
  simp [State.levelOfNode]
@[simp] theorem countBad_power (p : Port) : (s.countBad p).power = s.power := by
  cases p <;> rfl
@[simp] theorem countBad_pending (p : Port) : (s.countBad p).pending = s.pending := by
  cases p <;> rfl
@[simp] theorem countBad_draws (p : Port) : (s.countBad p).draws = s.draws := by
  cases p <;> rfl

/-! ### countScreened -/

@[simp] theorem countScreened_table (p : Port) : (s.countScreened p).table = s.table := by
  cases p <;> rfl
@[simp] theorem countScreened_entry (p : Port) (j : EntryId) : (s.countScreened p).entry j = s.entry j := by
  simp [State.entry]
@[simp] theorem countScreened_hoses (p : Port) : (s.countScreened p).hoses = s.hoses := by
  cases p <;> rfl
@[simp] theorem countScreened_hose (p : Port) (j : HoseId) : (s.countScreened p).hose j = s.hose j := by
  simp [State.hose]
@[simp] theorem countScreened_siteStop (p : Port) : (s.countScreened p).siteStop = s.siteStop := by
  cases p <;> rfl
@[simp] theorem countScreened_betas (p : Port) : (s.countScreened p).betas = s.betas := by
  cases p <;> rfl
@[simp] theorem countScreened_calCounter (p : Port) : (s.countScreened p).calCounter = s.calCounter := by
  cases p <;> rfl
@[simp] theorem countScreened_comps (p : Port) : (s.countScreened p).comps = s.comps := by
  cases p <;> rfl
@[simp] theorem countScreened_comp (p : Port) (j : CompId) : (s.countScreened p).comp j = s.comp j := by
  simp [State.comp]
@[simp] theorem countScreened_billing (p : Port) : (s.countScreened p).billing = s.billing := by
  cases p <;> rfl
@[simp] theorem countScreened_att (p : Port) : (s.countScreened p).att = s.att := by
  cases p <;> rfl
@[simp] theorem countScreened_screen (p : Port) : (s.countScreened p).screen = s.screen := by
  cases p <;> rfl
@[simp] theorem countScreened_resp (p : Port) : (s.countScreened p).resp = s.resp := by
  cases p <;> rfl
@[simp] theorem countScreened_levelOfNode (p : Port) (j : Node) : (s.countScreened p).levelOfNode j = s.levelOfNode j := by
  simp [State.levelOfNode]
@[simp] theorem countScreened_power (p : Port) : (s.countScreened p).power = s.power := by
  cases p <;> rfl
@[simp] theorem countScreened_pending (p : Port) : (s.countScreened p).pending = s.pending := by
  cases p <;> rfl
@[simp] theorem countScreened_draws (p : Port) : (s.countScreened p).draws = s.draws := by
  cases p <;> rfl

/-! ### dropStray -/

@[simp] theorem dropStray_table (p : Port) : (s.dropStray p).table = s.table := by
  cases p <;> rfl
@[simp] theorem dropStray_entry (p : Port) (j : EntryId) : (s.dropStray p).entry j = s.entry j := by
  simp [State.entry]
@[simp] theorem dropStray_hoses (p : Port) : (s.dropStray p).hoses = s.hoses := by
  cases p <;> rfl
@[simp] theorem dropStray_hose (p : Port) (j : HoseId) : (s.dropStray p).hose j = s.hose j := by
  simp [State.hose]
@[simp] theorem dropStray_siteStop (p : Port) : (s.dropStray p).siteStop = s.siteStop := by
  cases p <;> rfl
@[simp] theorem dropStray_betas (p : Port) : (s.dropStray p).betas = s.betas := by
  cases p <;> rfl
@[simp] theorem dropStray_calCounter (p : Port) : (s.dropStray p).calCounter = s.calCounter := by
  cases p <;> rfl
@[simp] theorem dropStray_comps (p : Port) : (s.dropStray p).comps = s.comps := by
  cases p <;> rfl
@[simp] theorem dropStray_comp (p : Port) (j : CompId) : (s.dropStray p).comp j = s.comp j := by
  simp [State.comp]
@[simp] theorem dropStray_billing (p : Port) : (s.dropStray p).billing = s.billing := by
  cases p <;> rfl
@[simp] theorem dropStray_att (p : Port) : (s.dropStray p).att = s.att := by
  cases p <;> rfl
@[simp] theorem dropStray_resp (p : Port) : (s.dropStray p).resp = s.resp := by
  cases p <;> rfl
@[simp] theorem dropStray_levelOfNode (p : Port) (j : Node) : (s.dropStray p).levelOfNode j = s.levelOfNode j := by
  simp [State.levelOfNode]
@[simp] theorem dropStray_power (p : Port) : (s.dropStray p).power = s.power := by
  cases p <;> rfl
@[simp] theorem dropStray_pending (p : Port) : (s.dropStray p).pending = s.pending := by
  cases p <;> rfl
@[simp] theorem dropStray_draws (p : Port) : (s.dropStray p).draws = s.draws := by
  cases p <;> rfl

/-! ### dropMisdirected -/

@[simp] theorem dropMisdirected_table (p : Port) : (s.dropMisdirected p).table = s.table := by
  cases p <;> rfl
@[simp] theorem dropMisdirected_entry (p : Port) (j : EntryId) : (s.dropMisdirected p).entry j = s.entry j := by
  simp [State.entry]
@[simp] theorem dropMisdirected_hoses (p : Port) : (s.dropMisdirected p).hoses = s.hoses := by
  cases p <;> rfl
@[simp] theorem dropMisdirected_hose (p : Port) (j : HoseId) : (s.dropMisdirected p).hose j = s.hose j := by
  simp [State.hose]
@[simp] theorem dropMisdirected_siteStop (p : Port) : (s.dropMisdirected p).siteStop = s.siteStop := by
  cases p <;> rfl
@[simp] theorem dropMisdirected_betas (p : Port) : (s.dropMisdirected p).betas = s.betas := by
  cases p <;> rfl
@[simp] theorem dropMisdirected_calCounter (p : Port) : (s.dropMisdirected p).calCounter = s.calCounter := by
  cases p <;> rfl
@[simp] theorem dropMisdirected_comps (p : Port) : (s.dropMisdirected p).comps = s.comps := by
  cases p <;> rfl
@[simp] theorem dropMisdirected_comp (p : Port) (j : CompId) : (s.dropMisdirected p).comp j = s.comp j := by
  simp [State.comp]
@[simp] theorem dropMisdirected_billing (p : Port) : (s.dropMisdirected p).billing = s.billing := by
  cases p <;> rfl
@[simp] theorem dropMisdirected_att (p : Port) : (s.dropMisdirected p).att = s.att := by
  cases p <;> rfl
@[simp] theorem dropMisdirected_resp (p : Port) : (s.dropMisdirected p).resp = s.resp := by
  cases p <;> rfl
@[simp] theorem dropMisdirected_levelOfNode (p : Port) (j : Node) : (s.dropMisdirected p).levelOfNode j = s.levelOfNode j := by
  simp [State.levelOfNode]
@[simp] theorem dropMisdirected_power (p : Port) : (s.dropMisdirected p).power = s.power := by
  cases p <;> rfl
@[simp] theorem dropMisdirected_pending (p : Port) : (s.dropMisdirected p).pending = s.pending := by
  cases p <;> rfl
@[simp] theorem dropMisdirected_draws (p : Port) : (s.dropMisdirected p).draws = s.draws := by
  cases p <;> rfl

/-! ### answer -/

@[simp] theorem answer_table (n : Node) (st : Status) (c : Byte) (r : ResultCode) (d : List Byte) : (s.answer n st c r d).table = s.table := rfl
@[simp] theorem answer_entry (n : Node) (st : Status) (c : Byte) (r : ResultCode) (d : List Byte) (j : EntryId) : (s.answer n st c r d).entry j = s.entry j := by
  simp [State.entry]
@[simp] theorem answer_hoses (n : Node) (st : Status) (c : Byte) (r : ResultCode) (d : List Byte) : (s.answer n st c r d).hoses = s.hoses := rfl
@[simp] theorem answer_hose (n : Node) (st : Status) (c : Byte) (r : ResultCode) (d : List Byte) (j : HoseId) : (s.answer n st c r d).hose j = s.hose j := by
  simp [State.hose]
@[simp] theorem answer_siteStop (n : Node) (st : Status) (c : Byte) (r : ResultCode) (d : List Byte) : (s.answer n st c r d).siteStop = s.siteStop := rfl
@[simp] theorem answer_betas (n : Node) (st : Status) (c : Byte) (r : ResultCode) (d : List Byte) : (s.answer n st c r d).betas = s.betas := rfl
@[simp] theorem answer_calCounter (n : Node) (st : Status) (c : Byte) (r : ResultCode) (d : List Byte) : (s.answer n st c r d).calCounter = s.calCounter := rfl
@[simp] theorem answer_comps (n : Node) (st : Status) (c : Byte) (r : ResultCode) (d : List Byte) : (s.answer n st c r d).comps = s.comps := rfl
@[simp] theorem answer_comp (n : Node) (st : Status) (c : Byte) (r : ResultCode) (d : List Byte) (j : CompId) : (s.answer n st c r d).comp j = s.comp j := by
  simp [State.comp]
@[simp] theorem answer_billing (n : Node) (st : Status) (c : Byte) (r : ResultCode) (d : List Byte) : (s.answer n st c r d).billing = s.billing := rfl
@[simp] theorem answer_att (n : Node) (st : Status) (c : Byte) (r : ResultCode) (d : List Byte) : (s.answer n st c r d).att = s.att := rfl
@[simp] theorem answer_field (n : Node) (st : Status) (c : Byte) (r : ResultCode) (d : List Byte) : (s.answer n st c r d).field = s.field := rfl
@[simp] theorem answer_screen (n : Node) (st : Status) (c : Byte) (r : ResultCode) (d : List Byte) : (s.answer n st c r d).screen = s.screen := rfl
@[simp] theorem answer_resp (n : Node) (st : Status) (c : Byte) (r : ResultCode) (d : List Byte) : (s.answer n st c r d).resp = s.resp := rfl
@[simp] theorem answer_levelOfNode (n : Node) (st : Status) (c : Byte) (r : ResultCode) (d : List Byte) (j : Node) : (s.answer n st c r d).levelOfNode j = s.levelOfNode j := by
  simp [State.levelOfNode]
@[simp] theorem answer_power (n : Node) (st : Status) (c : Byte) (r : ResultCode) (d : List Byte) : (s.answer n st c r d).power = s.power := rfl
@[simp] theorem answer_pending (n : Node) (st : Status) (c : Byte) (r : ResultCode) (d : List Byte) : (s.answer n st c r d).pending = s.pending := rfl
@[simp] theorem answer_draws (n : Node) (st : Status) (c : Byte) (r : ResultCode) (d : List Byte) : (s.answer n st c r d).draws = s.draws := rfl

/-! ### reply -/

@[simp] theorem reply_table (n : Node) (c : Byte) (r : Reply) : (s.reply n c r).table = s.table := by
  unfold State.reply; split <;> rfl
@[simp] theorem reply_entry (n : Node) (c : Byte) (r : Reply) (j : EntryId) : (s.reply n c r).entry j = s.entry j := by
  simp [State.entry]
@[simp] theorem reply_hoses (n : Node) (c : Byte) (r : Reply) : (s.reply n c r).hoses = s.hoses := by
  unfold State.reply; split <;> rfl
@[simp] theorem reply_hose (n : Node) (c : Byte) (r : Reply) (j : HoseId) : (s.reply n c r).hose j = s.hose j := by
  simp [State.hose]
@[simp] theorem reply_siteStop (n : Node) (c : Byte) (r : Reply) : (s.reply n c r).siteStop = s.siteStop := by
  unfold State.reply; split <;> rfl
@[simp] theorem reply_betas (n : Node) (c : Byte) (r : Reply) : (s.reply n c r).betas = s.betas := by
  unfold State.reply; split <;> rfl
@[simp] theorem reply_calCounter (n : Node) (c : Byte) (r : Reply) : (s.reply n c r).calCounter = s.calCounter := by
  unfold State.reply; split <;> rfl
@[simp] theorem reply_comps (n : Node) (c : Byte) (r : Reply) : (s.reply n c r).comps = s.comps := by
  unfold State.reply; split <;> rfl
@[simp] theorem reply_comp (n : Node) (c : Byte) (r : Reply) (j : CompId) : (s.reply n c r).comp j = s.comp j := by
  simp [State.comp]
@[simp] theorem reply_billing (n : Node) (c : Byte) (r : Reply) : (s.reply n c r).billing = s.billing := by
  unfold State.reply; split <;> rfl
@[simp] theorem reply_att (n : Node) (c : Byte) (r : Reply) : (s.reply n c r).att = s.att := by
  unfold State.reply; split <;> rfl
@[simp] theorem reply_field (n : Node) (c : Byte) (r : Reply) : (s.reply n c r).field = s.field := by
  unfold State.reply; split <;> rfl
@[simp] theorem reply_screen (n : Node) (c : Byte) (r : Reply) : (s.reply n c r).screen = s.screen := by
  unfold State.reply; split <;> rfl
@[simp] theorem reply_resp (n : Node) (c : Byte) (r : Reply) : (s.reply n c r).resp = s.resp := by
  unfold State.reply; split <;> rfl
@[simp] theorem reply_levelOfNode (n : Node) (c : Byte) (r : Reply) (j : Node) : (s.reply n c r).levelOfNode j = s.levelOfNode j := by
  simp [State.levelOfNode]
@[simp] theorem reply_power (n : Node) (c : Byte) (r : Reply) : (s.reply n c r).power = s.power := by
  unfold State.reply; split <;> rfl
@[simp] theorem reply_pending (n : Node) (c : Byte) (r : Reply) : (s.reply n c r).pending = s.pending := by
  unfold State.reply; split <;> rfl
@[simp] theorem reply_draws (n : Node) (c : Byte) (r : Reply) : (s.reply n c r).draws = s.draws := by
  unfold State.reply; split <;> rfl

end Sys2Proof.Machine.State
end

