-- ==== Sys2Proof/Laws/UnitFrames.lean ====
section
/-! SUPPORT. What the operations of the Machine Table, the Compartment Inventory and the Billing Unit leave unchanged. -/

namespace Sys2Proof.Machine.State

variable (s : State)

/-! ### commit -/

@[simp] theorem commit_table (c : CompId) (k : TxKind) (e : Nat) : (s.commit c k e).table = s.table := rfl
@[simp] theorem commit_entry (c : CompId) (k : TxKind) (e : Nat) (j : EntryId) : (s.commit c k e).entry j = s.entry j := by
  simp [State.entry]
@[simp] theorem commit_hoses (c : CompId) (k : TxKind) (e : Nat) : (s.commit c k e).hoses = s.hoses := rfl
@[simp] theorem commit_hose (c : CompId) (k : TxKind) (e : Nat) (j : HoseId) : (s.commit c k e).hose j = s.hose j := by
  simp [State.hose]
@[simp] theorem commit_siteStop (c : CompId) (k : TxKind) (e : Nat) : (s.commit c k e).siteStop = s.siteStop := rfl
@[simp] theorem commit_betas (c : CompId) (k : TxKind) (e : Nat) : (s.commit c k e).betas = s.betas := rfl
@[simp] theorem commit_calCounter (c : CompId) (k : TxKind) (e : Nat) : (s.commit c k e).calCounter = s.calCounter := rfl
@[simp] theorem commit_billing (c : CompId) (k : TxKind) (e : Nat) : (s.commit c k e).billing = s.billing := rfl
@[simp] theorem commit_att (c : CompId) (k : TxKind) (e : Nat) : (s.commit c k e).att = s.att := rfl
@[simp] theorem commit_field (c : CompId) (k : TxKind) (e : Nat) : (s.commit c k e).field = s.field := rfl
@[simp] theorem commit_cab (c : CompId) (k : TxKind) (e : Nat) : (s.commit c k e).cab = s.cab := rfl
@[simp] theorem commit_screen (c : CompId) (k : TxKind) (e : Nat) : (s.commit c k e).screen = s.screen := rfl
@[simp] theorem commit_resp (c : CompId) (k : TxKind) (e : Nat) : (s.commit c k e).resp = s.resp := rfl
@[simp] theorem commit_levelOfNode (c : CompId) (k : TxKind) (e : Nat) (j : Node) : (s.commit c k e).levelOfNode j = s.levelOfNode j := by
  simp [State.levelOfNode]
@[simp] theorem commit_power (c : CompId) (k : TxKind) (e : Nat) : (s.commit c k e).power = s.power := rfl
@[simp] theorem commit_pending (c : CompId) (k : TxKind) (e : Nat) : (s.commit c k e).pending = s.pending := rfl
@[simp] theorem commit_draws (c : CompId) (k : TxKind) (e : Nat) : (s.commit c k e).draws = s.draws := rfl

/-! ### uncommit -/

@[simp] theorem uncommit_table (c : CompId) (k : TxKind) (e : Nat) : (s.uncommit c k e).table = s.table := rfl
@[simp] theorem uncommit_entry (c : CompId) (k : TxKind) (e : Nat) (j : EntryId) : (s.uncommit c k e).entry j = s.entry j := by
  simp [State.entry]
@[simp] theorem uncommit_hoses (c : CompId) (k : TxKind) (e : Nat) : (s.uncommit c k e).hoses = s.hoses := rfl
@[simp] theorem uncommit_hose (c : CompId) (k : TxKind) (e : Nat) (j : HoseId) : (s.uncommit c k e).hose j = s.hose j := by
  simp [State.hose]
@[simp] theorem uncommit_siteStop (c : CompId) (k : TxKind) (e : Nat) : (s.uncommit c k e).siteStop = s.siteStop := rfl
@[simp] theorem uncommit_betas (c : CompId) (k : TxKind) (e : Nat) : (s.uncommit c k e).betas = s.betas := rfl
@[simp] theorem uncommit_calCounter (c : CompId) (k : TxKind) (e : Nat) : (s.uncommit c k e).calCounter = s.calCounter := rfl
@[simp] theorem uncommit_billing (c : CompId) (k : TxKind) (e : Nat) : (s.uncommit c k e).billing = s.billing := rfl
@[simp] theorem uncommit_att (c : CompId) (k : TxKind) (e : Nat) : (s.uncommit c k e).att = s.att := rfl
@[simp] theorem uncommit_field (c : CompId) (k : TxKind) (e : Nat) : (s.uncommit c k e).field = s.field := rfl
@[simp] theorem uncommit_cab (c : CompId) (k : TxKind) (e : Nat) : (s.uncommit c k e).cab = s.cab := rfl
@[simp] theorem uncommit_screen (c : CompId) (k : TxKind) (e : Nat) : (s.uncommit c k e).screen = s.screen := rfl
@[simp] theorem uncommit_resp (c : CompId) (k : TxKind) (e : Nat) : (s.uncommit c k e).resp = s.resp := rfl
@[simp] theorem uncommit_levelOfNode (c : CompId) (k : TxKind) (e : Nat) (j : Node) : (s.uncommit c k e).levelOfNode j = s.levelOfNode j := by
  simp [State.levelOfNode]
@[simp] theorem uncommit_power (c : CompId) (k : TxKind) (e : Nat) : (s.uncommit c k e).power = s.power := rfl
@[simp] theorem uncommit_pending (c : CompId) (k : TxKind) (e : Nat) : (s.uncommit c k e).pending = s.pending := rfl
@[simp] theorem uncommit_draws (c : CompId) (k : TxKind) (e : Nat) : (s.uncommit c k e).draws = s.draws := rfl

/-! ### judge -/

@[simp] theorem judge_table (c : CompId) : (s.judge c).table = s.table := by
  unfold State.judge; split
  · rfl
  · dsimp only; (repeat' split) <;> rfl
@[simp] theorem judge_entry (c : CompId) (j : EntryId) : (s.judge c).entry j = s.entry j := by
  simp [State.entry]
@[simp] theorem judge_hoses (c : CompId) : (s.judge c).hoses = s.hoses := by
  unfold State.judge; split
  · rfl
  · dsimp only; (repeat' split) <;> rfl
@[simp] theorem judge_hose (c : CompId) (j : HoseId) : (s.judge c).hose j = s.hose j := by
  simp [State.hose]
@[simp] theorem judge_siteStop (c : CompId) : (s.judge c).siteStop = s.siteStop := by
  unfold State.judge; split
  · rfl
  · dsimp only; (repeat' split) <;> rfl
@[simp] theorem judge_betas (c : CompId) : (s.judge c).betas = s.betas := by
  unfold State.judge; split
  · rfl
  · dsimp only; (repeat' split) <;> rfl
@[simp] theorem judge_calCounter (c : CompId) : (s.judge c).calCounter = s.calCounter := by
  unfold State.judge; split
  · rfl
  · dsimp only; (repeat' split) <;> rfl
@[simp] theorem judge_billing (c : CompId) : (s.judge c).billing = s.billing := by
  unfold State.judge; split
  · rfl
  · dsimp only; (repeat' split) <;> rfl
@[simp] theorem judge_att (c : CompId) : (s.judge c).att = s.att := by
  unfold State.judge; split
  · rfl
  · dsimp only; (repeat' split) <;> rfl
@[simp] theorem judge_field (c : CompId) : (s.judge c).field = s.field := by
  unfold State.judge; split
  · rfl
  · dsimp only; (repeat' split) <;> rfl
@[simp] theorem judge_screen (c : CompId) : (s.judge c).screen = s.screen := by
  unfold State.judge; split
  · rfl
  · dsimp only; (repeat' split) <;> rfl
@[simp] theorem judge_resp (c : CompId) : (s.judge c).resp = s.resp := by
  unfold State.judge; split
  · rfl
  · dsimp only; (repeat' split) <;> rfl
@[simp] theorem judge_levelOfNode (c : CompId) (j : Node) : (s.judge c).levelOfNode j = s.levelOfNode j := by
  simp [State.levelOfNode]
@[simp] theorem judge_power (c : CompId) : (s.judge c).power = s.power := by
  unfold State.judge; split
  · rfl
  · dsimp only; (repeat' split) <;> rfl
@[simp] theorem judge_pending (c : CompId) : (s.judge c).pending = s.pending := by
  unfold State.judge; split
  · rfl
  · dsimp only; (repeat' split) <;> rfl
@[simp] theorem judge_draws (c : CompId) : (s.judge c).draws = s.draws := by
  unfold State.judge; split
  · rfl
  · dsimp only; (repeat' split) <;> rfl

/-! ### addBook -/

@[simp] theorem addBook_table (c : CompId) (d : Int) : (s.addBook c d).table = s.table := by
  simp [State.addBook]
@[simp] theorem addBook_entry (c : CompId) (d : Int) (j : EntryId) : (s.addBook c d).entry j = s.entry j := by
  simp [State.entry]
@[simp] theorem addBook_hoses (c : CompId) (d : Int) : (s.addBook c d).hoses = s.hoses := by
  simp [State.addBook]
@[simp] theorem addBook_hose (c : CompId) (d : Int) (j : HoseId) : (s.addBook c d).hose j = s.hose j := by
  simp [State.hose]
@[simp] theorem addBook_siteStop (c : CompId) (d : Int) : (s.addBook c d).siteStop = s.siteStop := by
  simp [State.addBook]
@[simp] theorem addBook_betas (c : CompId) (d : Int) : (s.addBook c d).betas = s.betas := by
  simp [State.addBook]
@[simp] theorem addBook_calCounter (c : CompId) (d : Int) : (s.addBook c d).calCounter = s.calCounter := by
  simp [State.addBook]
@[simp] theorem addBook_billing (c : CompId) (d : Int) : (s.addBook c d).billing = s.billing := by
  simp [State.addBook]
@[simp] theorem addBook_att (c : CompId) (d : Int) : (s.addBook c d).att = s.att := by
  simp [State.addBook]
@[simp] theorem addBook_field (c : CompId) (d : Int) : (s.addBook c d).field = s.field := by
  simp [State.addBook]
@[simp] theorem addBook_cab (c : CompId) (d : Int) : (s.addBook c d).cab = s.cab := by
  simp [State.addBook]
@[simp] theorem addBook_screen (c : CompId) (d : Int) : (s.addBook c d).screen = s.screen := by
  simp [State.addBook]
@[simp] theorem addBook_resp (c : CompId) (d : Int) : (s.addBook c d).resp = s.resp := by
  simp [State.addBook]
@[simp] theorem addBook_levelOfNode (c : CompId) (d : Int) (j : Node) : (s.addBook c d).levelOfNode j = s.levelOfNode j := by
  simp [State.levelOfNode]
@[simp] theorem addBook_power (c : CompId) (d : Int) : (s.addBook c d).power = s.power := by
  simp [State.addBook]
@[simp] theorem addBook_pending (c : CompId) (d : Int) : (s.addBook c d).pending = s.pending := by
  simp [State.addBook]

/-! ### addDraw -/

@[simp] theorem addDraw_table (c : CompId) (d : Int) : (s.addDraw c d).table = s.table := by
  simp [State.addDraw]
@[simp] theorem addDraw_entry (c : CompId) (d : Int) (j : EntryId) : (s.addDraw c d).entry j = s.entry j := by
  simp [State.entry]
@[simp] theorem addDraw_hoses (c : CompId) (d : Int) : (s.addDraw c d).hoses = s.hoses := by
  simp [State.addDraw]
@[simp] theorem addDraw_hose (c : CompId) (d : Int) (j : HoseId) : (s.addDraw c d).hose j = s.hose j := by
  simp [State.hose]
@[simp] theorem addDraw_siteStop (c : CompId) (d : Int) : (s.addDraw c d).siteStop = s.siteStop := by
  simp [State.addDraw]
@[simp] theorem addDraw_betas (c : CompId) (d : Int) : (s.addDraw c d).betas = s.betas := by
  simp [State.addDraw]
@[simp] theorem addDraw_calCounter (c : CompId) (d : Int) : (s.addDraw c d).calCounter = s.calCounter := by
  simp [State.addDraw]
@[simp] theorem addDraw_billing (c : CompId) (d : Int) : (s.addDraw c d).billing = s.billing := by
  simp [State.addDraw]
@[simp] theorem addDraw_att (c : CompId) (d : Int) : (s.addDraw c d).att = s.att := by
  simp [State.addDraw]
@[simp] theorem addDraw_field (c : CompId) (d : Int) : (s.addDraw c d).field = s.field := by
  simp [State.addDraw]
@[simp] theorem addDraw_cab (c : CompId) (d : Int) : (s.addDraw c d).cab = s.cab := by
  simp [State.addDraw]
@[simp] theorem addDraw_screen (c : CompId) (d : Int) : (s.addDraw c d).screen = s.screen := by
  simp [State.addDraw]
@[simp] theorem addDraw_resp (c : CompId) (d : Int) : (s.addDraw c d).resp = s.resp := by
  simp [State.addDraw]
@[simp] theorem addDraw_levelOfNode (c : CompId) (d : Int) (j : Node) : (s.addDraw c d).levelOfNode j = s.levelOfNode j := by
  simp [State.levelOfNode]
@[simp] theorem addDraw_power (c : CompId) (d : Int) : (s.addDraw c d).power = s.power := by
  simp [State.addDraw]
@[simp] theorem addDraw_pending (c : CompId) (d : Int) : (s.addDraw c d).pending = s.pending := by
  simp [State.addDraw]

/-! ### bookMetered -/

@[simp] theorem bookMetered_table (c : CompId) (d : Int) : (s.bookMetered c d).table = s.table := by
  unfold State.bookMetered; split <;> simp
@[simp] theorem bookMetered_entry (c : CompId) (d : Int) (j : EntryId) : (s.bookMetered c d).entry j = s.entry j := by
  simp [State.entry]
@[simp] theorem bookMetered_hoses (c : CompId) (d : Int) : (s.bookMetered c d).hoses = s.hoses := by
  unfold State.bookMetered; split <;> simp
@[simp] theorem bookMetered_hose (c : CompId) (d : Int) (j : HoseId) : (s.bookMetered c d).hose j = s.hose j := by
  simp [State.hose]
@[simp] theorem bookMetered_siteStop (c : CompId) (d : Int) : (s.bookMetered c d).siteStop = s.siteStop := by
  unfold State.bookMetered; split <;> simp
@[simp] theorem bookMetered_betas (c : CompId) (d : Int) : (s.bookMetered c d).betas = s.betas := by
  unfold State.bookMetered; split <;> simp
@[simp] theorem bookMetered_calCounter (c : CompId) (d : Int) : (s.bookMetered c d).calCounter = s.calCounter := by
  unfold State.bookMetered; split <;> simp
@[simp] theorem bookMetered_billing (c : CompId) (d : Int) : (s.bookMetered c d).billing = s.billing := by
  unfold State.bookMetered; split <;> simp
@[simp] theorem bookMetered_att (c : CompId) (d : Int) : (s.bookMetered c d).att = s.att := by
  unfold State.bookMetered; split <;> simp
@[simp] theorem bookMetered_field (c : CompId) (d : Int) : (s.bookMetered c d).field = s.field := by
  unfold State.bookMetered; split <;> simp
@[simp] theorem bookMetered_screen (c : CompId) (d : Int) : (s.bookMetered c d).screen = s.screen := by
  unfold State.bookMetered; split <;> simp
@[simp] theorem bookMetered_resp (c : CompId) (d : Int) : (s.bookMetered c d).resp = s.resp := by
  unfold State.bookMetered; split <;> simp
@[simp] theorem bookMetered_levelOfNode (c : CompId) (d : Int) (j : Node) : (s.bookMetered c d).levelOfNode j = s.levelOfNode j := by
  simp [State.levelOfNode]
@[simp] theorem bookMetered_power (c : CompId) (d : Int) : (s.bookMetered c d).power = s.power := by
  unfold State.bookMetered; split <;> simp
@[simp] theorem bookMetered_pending (c : CompId) (d : Int) : (s.bookMetered c d).pending = s.pending := by
  unfold State.bookMetered; split <;> simp

/-! ### bookUnbilled -/

@[simp] theorem bookUnbilled_table (c : CompId) (d : Int) : (s.bookUnbilled c d).table = s.table := by
  unfold State.bookUnbilled; split <;> simp
@[simp] theorem bookUnbilled_entry (c : CompId) (d : Int) (j : EntryId) : (s.bookUnbilled c d).entry j = s.entry j := by
  simp [State.entry]
@[simp] theorem bookUnbilled_hoses (c : CompId) (d : Int) : (s.bookUnbilled c d).hoses = s.hoses := by
  unfold State.bookUnbilled; split <;> simp
@[simp] theorem bookUnbilled_hose (c : CompId) (d : Int) (j : HoseId) : (s.bookUnbilled c d).hose j = s.hose j := by
  simp [State.hose]
@[simp] theorem bookUnbilled_siteStop (c : CompId) (d : Int) : (s.bookUnbilled c d).siteStop = s.siteStop := by
  unfold State.bookUnbilled; split <;> simp
@[simp] theorem bookUnbilled_betas (c : CompId) (d : Int) : (s.bookUnbilled c d).betas = s.betas := by
  unfold State.bookUnbilled; split <;> simp
@[simp] theorem bookUnbilled_calCounter (c : CompId) (d : Int) : (s.bookUnbilled c d).calCounter = s.calCounter := by
  unfold State.bookUnbilled; split <;> simp
@[simp] theorem bookUnbilled_billing (c : CompId) (d : Int) : (s.bookUnbilled c d).billing = s.billing := by
  unfold State.bookUnbilled; split <;> simp
@[simp] theorem bookUnbilled_att (c : CompId) (d : Int) : (s.bookUnbilled c d).att = s.att := by
  unfold State.bookUnbilled; split <;> simp
@[simp] theorem bookUnbilled_field (c : CompId) (d : Int) : (s.bookUnbilled c d).field = s.field := by
  unfold State.bookUnbilled; split <;> simp
@[simp] theorem bookUnbilled_screen (c : CompId) (d : Int) : (s.bookUnbilled c d).screen = s.screen := by
  unfold State.bookUnbilled; split <;> simp
@[simp] theorem bookUnbilled_resp (c : CompId) (d : Int) : (s.bookUnbilled c d).resp = s.resp := by
  unfold State.bookUnbilled; split <;> simp
@[simp] theorem bookUnbilled_levelOfNode (c : CompId) (d : Int) (j : Node) : (s.bookUnbilled c d).levelOfNode j = s.levelOfNode j := by
  simp [State.levelOfNode]
@[simp] theorem bookUnbilled_power (c : CompId) (d : Int) : (s.bookUnbilled c d).power = s.power := by
  unfold State.bookUnbilled; split <;> simp
@[simp] theorem bookUnbilled_pending (c : CompId) (d : Int) : (s.bookUnbilled c d).pending = s.pending := by
  unfold State.bookUnbilled; split <;> simp

/-! ### resetBook -/

@[simp] theorem resetBook_table (c : CompId) (v : Nat) : (s.resetBook c v).table = s.table := by
  simp [State.resetBook]
@[simp] theorem resetBook_entry (c : CompId) (v : Nat) (j : EntryId) : (s.resetBook c v).entry j = s.entry j := by
  simp [State.entry]
@[simp] theorem resetBook_hoses (c : CompId) (v : Nat) : (s.resetBook c v).hoses = s.hoses := by
  simp [State.resetBook]
@[simp] theorem resetBook_hose (c : CompId) (v : Nat) (j : HoseId) : (s.resetBook c v).hose j = s.hose j := by
  simp [State.hose]
@[simp] theorem resetBook_siteStop (c : CompId) (v : Nat) : (s.resetBook c v).siteStop = s.siteStop := by
  simp [State.resetBook]
@[simp] theorem resetBook_betas (c : CompId) (v : Nat) : (s.resetBook c v).betas = s.betas := by
  simp [State.resetBook]
@[simp] theorem resetBook_calCounter (c : CompId) (v : Nat) : (s.resetBook c v).calCounter = s.calCounter := by
  simp [State.resetBook]
@[simp] theorem resetBook_billing (c : CompId) (v : Nat) : (s.resetBook c v).billing = s.billing := by
  simp [State.resetBook]
@[simp] theorem resetBook_att (c : CompId) (v : Nat) : (s.resetBook c v).att = s.att := by
  simp [State.resetBook]
@[simp] theorem resetBook_field (c : CompId) (v : Nat) : (s.resetBook c v).field = s.field := by
  simp [State.resetBook]
@[simp] theorem resetBook_screen (c : CompId) (v : Nat) : (s.resetBook c v).screen = s.screen := by
  simp [State.resetBook]
@[simp] theorem resetBook_resp (c : CompId) (v : Nat) : (s.resetBook c v).resp = s.resp := by
  simp [State.resetBook]
@[simp] theorem resetBook_levelOfNode (c : CompId) (v : Nat) (j : Node) : (s.resetBook c v).levelOfNode j = s.levelOfNode j := by
  simp [State.levelOfNode]
@[simp] theorem resetBook_power (c : CompId) (v : Nat) : (s.resetBook c v).power = s.power := by
  simp [State.resetBook]
@[simp] theorem resetBook_pending (c : CompId) (v : Nat) : (s.resetBook c v).pending = s.pending := by
  simp [State.resetBook]
@[simp] theorem resetBook_draws (c : CompId) (v : Nat) : (s.resetBook c v).draws = s.draws := by
  simp [State.resetBook]

/-! ### levelRaised -/

@[simp] theorem levelRaised_table (n : Nat) : (s.levelRaised n).table = s.table := by
  unfold State.levelRaised; split <;> simp
@[simp] theorem levelRaised_entry (n : Nat) (j : EntryId) : (s.levelRaised n).entry j = s.entry j := by
  simp [State.entry]
@[simp] theorem levelRaised_hoses (n : Nat) : (s.levelRaised n).hoses = s.hoses := by
  unfold State.levelRaised; split <;> simp
@[simp] theorem levelRaised_hose (n : Nat) (j : HoseId) : (s.levelRaised n).hose j = s.hose j := by
  simp [State.hose]
@[simp] theorem levelRaised_siteStop (n : Nat) : (s.levelRaised n).siteStop = s.siteStop := by
  unfold State.levelRaised; split <;> simp
@[simp] theorem levelRaised_betas (n : Nat) : (s.levelRaised n).betas = s.betas := by
  unfold State.levelRaised; split <;> simp
@[simp] theorem levelRaised_calCounter (n : Nat) : (s.levelRaised n).calCounter = s.calCounter := by
  unfold State.levelRaised; split <;> simp
@[simp] theorem levelRaised_comps (n : Nat) : (s.levelRaised n).comps = s.comps := by
  unfold State.levelRaised; split <;> simp
@[simp] theorem levelRaised_comp (n : Nat) (j : CompId) : (s.levelRaised n).comp j = s.comp j := by
  simp [State.comp]
@[simp] theorem levelRaised_billing (n : Nat) : (s.levelRaised n).billing = s.billing := by
  unfold State.levelRaised; split <;> simp
@[simp] theorem levelRaised_field (n : Nat) : (s.levelRaised n).field = s.field := by
  unfold State.levelRaised; split <;> simp
@[simp] theorem levelRaised_screen (n : Nat) : (s.levelRaised n).screen = s.screen := by
  unfold State.levelRaised; split <;> simp
@[simp] theorem levelRaised_resp (n : Nat) : (s.levelRaised n).resp = s.resp := by
  unfold State.levelRaised; split <;> simp
@[simp] theorem levelRaised_levelOfNode (n : Nat) (j : Node) : (s.levelRaised n).levelOfNode j = s.levelOfNode j := by
  simp [State.levelOfNode]
@[simp] theorem levelRaised_power (n : Nat) : (s.levelRaised n).power = s.power := by
  unfold State.levelRaised; split <;> simp
@[simp] theorem levelRaised_pending (n : Nat) : (s.levelRaised n).pending = s.pending := by
  unfold State.levelRaised; split <;> simp
@[simp] theorem levelRaised_draws (n : Nat) : (s.levelRaised n).draws = s.draws := by
  unfold State.levelRaised; split <;> simp

/-! ### reserve -/

@[simp] theorem reserve_table : (s.reserve).table = s.table := by
  simp [State.reserve]
@[simp] theorem reserve_entry (j : EntryId) : (s.reserve).entry j = s.entry j := by
  simp [State.entry]
@[simp] theorem reserve_hoses : (s.reserve).hoses = s.hoses := by
  simp [State.reserve]
@[simp] theorem reserve_hose (j : HoseId) : (s.reserve).hose j = s.hose j := by
  simp [State.hose]
@[simp] theorem reserve_siteStop : (s.reserve).siteStop = s.siteStop := by
  simp [State.reserve]
@[simp] theorem reserve_betas : (s.reserve).betas = s.betas := by
  simp [State.reserve]
@[simp] theorem reserve_calCounter : (s.reserve).calCounter = s.calCounter := by
  simp [State.reserve]
@[simp] theorem reserve_comps : (s.reserve).comps = s.comps := by
  simp [State.reserve]
@[simp] theorem reserve_comp (j : CompId) : (s.reserve).comp j = s.comp j := by
  simp [State.comp]
@[simp] theorem reserve_field : (s.reserve).field = s.field := by
  simp [State.reserve]
@[simp] theorem reserve_screen : (s.reserve).screen = s.screen := by
  simp [State.reserve]
@[simp] theorem reserve_resp : (s.reserve).resp = s.resp := by
  simp [State.reserve]
@[simp] theorem reserve_levelOfNode (j : Node) : (s.reserve).levelOfNode j = s.levelOfNode j := by
  simp [State.levelOfNode]
@[simp] theorem reserve_power : (s.reserve).power = s.power := by
  simp [State.reserve]
@[simp] theorem reserve_pending : (s.reserve).pending = s.pending := by
  simp [State.reserve]
@[simp] theorem reserve_draws : (s.reserve).draws = s.draws := by
  simp [State.reserve]

/-! ### unreserve -/

@[simp] theorem unreserve_table : (s.unreserve).table = s.table := rfl
@[simp] theorem unreserve_entry (j : EntryId) : (s.unreserve).entry j = s.entry j := by
  simp [State.entry]
@[simp] theorem unreserve_hoses : (s.unreserve).hoses = s.hoses := rfl
@[simp] theorem unreserve_hose (j : HoseId) : (s.unreserve).hose j = s.hose j := by
  simp [State.hose]
@[simp] theorem unreserve_siteStop : (s.unreserve).siteStop = s.siteStop := rfl
@[simp] theorem unreserve_betas : (s.unreserve).betas = s.betas := rfl
@[simp] theorem unreserve_calCounter : (s.unreserve).calCounter = s.calCounter := rfl
@[simp] theorem unreserve_comps : (s.unreserve).comps = s.comps := rfl
@[simp] theorem unreserve_comp (j : CompId) : (s.unreserve).comp j = s.comp j := by
  simp [State.comp]
@[simp] theorem unreserve_att : (s.unreserve).att = s.att := rfl
@[simp] theorem unreserve_field : (s.unreserve).field = s.field := rfl
@[simp] theorem unreserve_cab : (s.unreserve).cab = s.cab := rfl
@[simp] theorem unreserve_screen : (s.unreserve).screen = s.screen := rfl
@[simp] theorem unreserve_resp : (s.unreserve).resp = s.resp := rfl
@[simp] theorem unreserve_levelOfNode (j : Node) : (s.unreserve).levelOfNode j = s.levelOfNode j := by
  simp [State.levelOfNode]
@[simp] theorem unreserve_power : (s.unreserve).power = s.power := rfl
@[simp] theorem unreserve_pending : (s.unreserve).pending = s.pending := rfl
@[simp] theorem unreserve_draws : (s.unreserve).draws = s.draws := rfl

/-! ### refill -/

@[simp] theorem refill_hoses (i : EntryId) : (s.refill i).hoses = s.hoses := rfl
@[simp] theorem refill_hose (i : EntryId) (j : HoseId) : (s.refill i).hose j = s.hose j := by
  simp [State.hose]
@[simp] theorem refill_siteStop (i : EntryId) : (s.refill i).siteStop = s.siteStop := rfl
@[simp] theorem refill_betas (i : EntryId) : (s.refill i).betas = s.betas := rfl
@[simp] theorem refill_calCounter (i : EntryId) : (s.refill i).calCounter = s.calCounter := rfl
@[simp] theorem refill_comps (i : EntryId) : (s.refill i).comps = s.comps := rfl
@[simp] theorem refill_comp (i : EntryId) (j : CompId) : (s.refill i).comp j = s.comp j := by
  simp [State.comp]
@[simp] theorem refill_billing (i : EntryId) : (s.refill i).billing = s.billing := rfl
@[simp] theorem refill_att (i : EntryId) : (s.refill i).att = s.att := rfl
@[simp] theorem refill_field (i : EntryId) : (s.refill i).field = s.field := rfl
@[simp] theorem refill_cab (i : EntryId) : (s.refill i).cab = s.cab := rfl
@[simp] theorem refill_screen (i : EntryId) : (s.refill i).screen = s.screen := rfl
@[simp] theorem refill_resp (i : EntryId) : (s.refill i).resp = s.resp := rfl
@[simp] theorem refill_levelOfNode (i : EntryId) (j : Node) : (s.refill i).levelOfNode j = s.levelOfNode j := by
  simp [State.levelOfNode]
@[simp] theorem refill_power (i : EntryId) : (s.refill i).power = s.power := rfl
@[simp] theorem refill_pending (i : EntryId) : (s.refill i).pending = s.pending := rfl
@[simp] theorem refill_draws (i : EntryId) : (s.refill i).draws = s.draws := rfl

/-! ### release -/

@[simp] theorem release_hoses (r : EntryRef) (h : HoseId) : (s.release r h).hoses = s.hoses := by
  unfold State.release; split <;> simp
@[simp] theorem release_hose (r : EntryRef) (h : HoseId) (j : HoseId) : (s.release r h).hose j = s.hose j := by
  simp [State.hose]
@[simp] theorem release_siteStop (r : EntryRef) (h : HoseId) : (s.release r h).siteStop = s.siteStop := by
  unfold State.release; split <;> simp
@[simp] theorem release_betas (r : EntryRef) (h : HoseId) : (s.release r h).betas = s.betas := by
  unfold State.release; split <;> simp
@[simp] theorem release_calCounter (r : EntryRef) (h : HoseId) : (s.release r h).calCounter = s.calCounter := by
  unfold State.release; split <;> simp
@[simp] theorem release_comps (r : EntryRef) (h : HoseId) : (s.release r h).comps = s.comps := by
  unfold State.release; split <;> simp
@[simp] theorem release_comp (r : EntryRef) (h : HoseId) (j : CompId) : (s.release r h).comp j = s.comp j := by
  simp [State.comp]
@[simp] theorem release_billing (r : EntryRef) (h : HoseId) : (s.release r h).billing = s.billing := by
  unfold State.release; split <;> simp
@[simp] theorem release_att (r : EntryRef) (h : HoseId) : (s.release r h).att = s.att := by
  unfold State.release; split <;> simp
@[simp] theorem release_field (r : EntryRef) (h : HoseId) : (s.release r h).field = s.field := by
  unfold State.release; split <;> simp
@[simp] theorem release_cab (r : EntryRef) (h : HoseId) : (s.release r h).cab = s.cab := by
  unfold State.release; split <;> simp
@[simp] theorem release_screen (r : EntryRef) (h : HoseId) : (s.release r h).screen = s.screen := by
  unfold State.release; split <;> simp
@[simp] theorem release_resp (r : EntryRef) (h : HoseId) : (s.release r h).resp = s.resp := by
  unfold State.release; split <;> simp
@[simp] theorem release_levelOfNode (r : EntryRef) (h : HoseId) (j : Node) : (s.release r h).levelOfNode j = s.levelOfNode j := by
  simp [State.levelOfNode]
@[simp] theorem release_power (r : EntryRef) (h : HoseId) : (s.release r h).power = s.power := by
  unfold State.release; split <;> simp
@[simp] theorem release_pending (r : EntryRef) (h : HoseId) : (s.release r h).pending = s.pending := by
  unfold State.release; split <;> simp
@[simp] theorem release_draws (r : EntryRef) (h : HoseId) : (s.release r h).draws = s.draws := by
  unfold State.release; split <;> simp

/-! ### releaseCtx -/

@[simp] theorem releaseCtx_hoses (c : Context) (h : HoseId) : (s.releaseCtx c h).hoses = s.hoses := by
  unfold State.releaseCtx; split <;> simp
@[simp] theorem releaseCtx_hose (c : Context) (h : HoseId) (j : HoseId) : (s.releaseCtx c h).hose j = s.hose j := by
  simp [State.hose]
@[simp] theorem releaseCtx_siteStop (c : Context) (h : HoseId) : (s.releaseCtx c h).siteStop = s.siteStop := by
  unfold State.releaseCtx; split <;> simp
@[simp] theorem releaseCtx_betas (c : Context) (h : HoseId) : (s.releaseCtx c h).betas = s.betas := by
  unfold State.releaseCtx; split <;> simp
@[simp] theorem releaseCtx_calCounter (c : Context) (h : HoseId) : (s.releaseCtx c h).calCounter = s.calCounter := by
  unfold State.releaseCtx; split <;> simp
@[simp] theorem releaseCtx_comps (c : Context) (h : HoseId) : (s.releaseCtx c h).comps = s.comps := by
  unfold State.releaseCtx; split <;> simp
@[simp] theorem releaseCtx_comp (c : Context) (h : HoseId) (j : CompId) : (s.releaseCtx c h).comp j = s.comp j := by
  simp [State.comp]
@[simp] theorem releaseCtx_billing (c : Context) (h : HoseId) : (s.releaseCtx c h).billing = s.billing := by
  unfold State.releaseCtx; split <;> simp
@[simp] theorem releaseCtx_att (c : Context) (h : HoseId) : (s.releaseCtx c h).att = s.att := by
  unfold State.releaseCtx; split <;> simp
@[simp] theorem releaseCtx_field (c : Context) (h : HoseId) : (s.releaseCtx c h).field = s.field := by
  unfold State.releaseCtx; split <;> simp
@[simp] theorem releaseCtx_cab (c : Context) (h : HoseId) : (s.releaseCtx c h).cab = s.cab := by
  unfold State.releaseCtx; split <;> simp
@[simp] theorem releaseCtx_screen (c : Context) (h : HoseId) : (s.releaseCtx c h).screen = s.screen := by
  unfold State.releaseCtx; split <;> simp
@[simp] theorem releaseCtx_resp (c : Context) (h : HoseId) : (s.releaseCtx c h).resp = s.resp := by
  unfold State.releaseCtx; split <;> simp
@[simp] theorem releaseCtx_levelOfNode (c : Context) (h : HoseId) (j : Node) : (s.releaseCtx c h).levelOfNode j = s.levelOfNode j := by
  simp [State.levelOfNode]
@[simp] theorem releaseCtx_power (c : Context) (h : HoseId) : (s.releaseCtx c h).power = s.power := by
  unfold State.releaseCtx; split <;> simp
@[simp] theorem releaseCtx_pending (c : Context) (h : HoseId) : (s.releaseCtx c h).pending = s.pending := by
  unfold State.releaseCtx; split <;> simp
@[simp] theorem releaseCtx_draws (c : Context) (h : HoseId) : (s.releaseCtx c h).draws = s.draws := by
  unfold State.releaseCtx; split <;> simp

/-! ### freeEntry -/

@[simp] theorem freeEntry_hoses (i : EntryId) : (s.freeEntry i).hoses = s.hoses := rfl
@[simp] theorem freeEntry_hose (i : EntryId) (j : HoseId) : (s.freeEntry i).hose j = s.hose j := by
  simp [State.hose]
@[simp] theorem freeEntry_siteStop (i : EntryId) : (s.freeEntry i).siteStop = s.siteStop := rfl
@[simp] theorem freeEntry_betas (i : EntryId) : (s.freeEntry i).betas = s.betas := rfl
@[simp] theorem freeEntry_calCounter (i : EntryId) : (s.freeEntry i).calCounter = s.calCounter := rfl
@[simp] theorem freeEntry_comps (i : EntryId) : (s.freeEntry i).comps = s.comps := rfl
@[simp] theorem freeEntry_comp (i : EntryId) (j : CompId) : (s.freeEntry i).comp j = s.comp j := by
  simp [State.comp]
@[simp] theorem freeEntry_billing (i : EntryId) : (s.freeEntry i).billing = s.billing := rfl
@[simp] theorem freeEntry_att (i : EntryId) : (s.freeEntry i).att = s.att := rfl
@[simp] theorem freeEntry_field (i : EntryId) : (s.freeEntry i).field = s.field := rfl
@[simp] theorem freeEntry_cab (i : EntryId) : (s.freeEntry i).cab = s.cab := rfl
@[simp] theorem freeEntry_screen (i : EntryId) : (s.freeEntry i).screen = s.screen := rfl
@[simp] theorem freeEntry_resp (i : EntryId) : (s.freeEntry i).resp = s.resp := rfl
@[simp] theorem freeEntry_levelOfNode (i : EntryId) (j : Node) : (s.freeEntry i).levelOfNode j = s.levelOfNode j := by
  simp [State.levelOfNode]
@[simp] theorem freeEntry_power (i : EntryId) : (s.freeEntry i).power = s.power := rfl
@[simp] theorem freeEntry_pending (i : EntryId) : (s.freeEntry i).pending = s.pending := rfl
@[simp] theorem freeEntry_draws (i : EntryId) : (s.freeEntry i).draws = s.draws := rfl

/-! ### settle_snd -/

@[simp] theorem settle_snd_hoses (r : EntryRef) (n : Nat) (h : HoseId) : ((s.settle r n h).2).hoses = s.hoses := by
  unfold State.settle; split <;> simp
@[simp] theorem settle_snd_hose (r : EntryRef) (n : Nat) (h : HoseId) (j : HoseId) : ((s.settle r n h).2).hose j = s.hose j := by
  simp [State.hose]
@[simp] theorem settle_snd_siteStop (r : EntryRef) (n : Nat) (h : HoseId) : ((s.settle r n h).2).siteStop = s.siteStop := by
  unfold State.settle; split <;> simp
@[simp] theorem settle_snd_betas (r : EntryRef) (n : Nat) (h : HoseId) : ((s.settle r n h).2).betas = s.betas := by
  unfold State.settle; split <;> simp
@[simp] theorem settle_snd_calCounter (r : EntryRef) (n : Nat) (h : HoseId) : ((s.settle r n h).2).calCounter = s.calCounter := by
  unfold State.settle; split <;> simp
@[simp] theorem settle_snd_comps (r : EntryRef) (n : Nat) (h : HoseId) : ((s.settle r n h).2).comps = s.comps := by
  unfold State.settle; split <;> simp
@[simp] theorem settle_snd_comp (r : EntryRef) (n : Nat) (h : HoseId) (j : CompId) : ((s.settle r n h).2).comp j = s.comp j := by
  simp [State.comp]
@[simp] theorem settle_snd_billing (r : EntryRef) (n : Nat) (h : HoseId) : ((s.settle r n h).2).billing = s.billing := by
  unfold State.settle; split <;> simp
@[simp] theorem settle_snd_att (r : EntryRef) (n : Nat) (h : HoseId) : ((s.settle r n h).2).att = s.att := by
  unfold State.settle; split <;> simp
@[simp] theorem settle_snd_field (r : EntryRef) (n : Nat) (h : HoseId) : ((s.settle r n h).2).field = s.field := by
  unfold State.settle; split <;> simp
@[simp] theorem settle_snd_cab (r : EntryRef) (n : Nat) (h : HoseId) : ((s.settle r n h).2).cab = s.cab := by
  unfold State.settle; split <;> simp
@[simp] theorem settle_snd_screen (r : EntryRef) (n : Nat) (h : HoseId) : ((s.settle r n h).2).screen = s.screen := by
  unfold State.settle; split <;> simp
@[simp] theorem settle_snd_resp (r : EntryRef) (n : Nat) (h : HoseId) : ((s.settle r n h).2).resp = s.resp := by
  unfold State.settle; split <;> simp
@[simp] theorem settle_snd_levelOfNode (r : EntryRef) (n : Nat) (h : HoseId) (j : Node) : ((s.settle r n h).2).levelOfNode j = s.levelOfNode j := by
  simp [State.levelOfNode]
@[simp] theorem settle_snd_power (r : EntryRef) (n : Nat) (h : HoseId) : ((s.settle r n h).2).power = s.power := by
  unfold State.settle; split <;> simp
@[simp] theorem settle_snd_pending (r : EntryRef) (n : Nat) (h : HoseId) : ((s.settle r n h).2).pending = s.pending := by
  unfold State.settle; split <;> simp
@[simp] theorem settle_snd_draws (r : EntryRef) (n : Nat) (h : HoseId) : ((s.settle r n h).2).draws = s.draws := by
  unfold State.settle; split <;> simp

/-! ### walkBucket_snd -/

@[simp] theorem walkBucket_snd_hoses (b : Bucket) (k : Option TagId) : ((s.walkBucket b k).2).hoses = s.hoses := by
  unfold State.walkBucket; dsimp only; split <;> simp
@[simp] theorem walkBucket_snd_hose (b : Bucket) (k : Option TagId) (j : HoseId) : ((s.walkBucket b k).2).hose j = s.hose j := by
  simp [State.hose]
@[simp] theorem walkBucket_snd_siteStop (b : Bucket) (k : Option TagId) : ((s.walkBucket b k).2).siteStop = s.siteStop := by
  unfold State.walkBucket; dsimp only; split <;> simp
@[simp] theorem walkBucket_snd_betas (b : Bucket) (k : Option TagId) : ((s.walkBucket b k).2).betas = s.betas := by
  unfold State.walkBucket; dsimp only; split <;> simp
@[simp] theorem walkBucket_snd_calCounter (b : Bucket) (k : Option TagId) : ((s.walkBucket b k).2).calCounter = s.calCounter := by
  unfold State.walkBucket; dsimp only; split <;> simp
@[simp] theorem walkBucket_snd_comps (b : Bucket) (k : Option TagId) : ((s.walkBucket b k).2).comps = s.comps := by
  unfold State.walkBucket; dsimp only; split <;> simp
@[simp] theorem walkBucket_snd_comp (b : Bucket) (k : Option TagId) (j : CompId) : ((s.walkBucket b k).2).comp j = s.comp j := by
  simp [State.comp]
@[simp] theorem walkBucket_snd_billing (b : Bucket) (k : Option TagId) : ((s.walkBucket b k).2).billing = s.billing := by
  unfold State.walkBucket; dsimp only; split <;> simp
@[simp] theorem walkBucket_snd_field (b : Bucket) (k : Option TagId) : ((s.walkBucket b k).2).field = s.field := by
  unfold State.walkBucket; dsimp only; split <;> simp
@[simp] theorem walkBucket_snd_screen (b : Bucket) (k : Option TagId) : ((s.walkBucket b k).2).screen = s.screen := by
  unfold State.walkBucket; dsimp only; split <;> simp
@[simp] theorem walkBucket_snd_resp (b : Bucket) (k : Option TagId) : ((s.walkBucket b k).2).resp = s.resp := by
  unfold State.walkBucket; dsimp only; split <;> simp
@[simp] theorem walkBucket_snd_levelOfNode (b : Bucket) (k : Option TagId) (j : Node) : ((s.walkBucket b k).2).levelOfNode j = s.levelOfNode j := by
  simp [State.levelOfNode]
@[simp] theorem walkBucket_snd_power (b : Bucket) (k : Option TagId) : ((s.walkBucket b k).2).power = s.power := by
  unfold State.walkBucket; dsimp only; split <;> simp
@[simp] theorem walkBucket_snd_pending (b : Bucket) (k : Option TagId) : ((s.walkBucket b k).2).pending = s.pending := by
  unfold State.walkBucket; dsimp only; split <;> simp
@[simp] theorem walkBucket_snd_draws (b : Bucket) (k : Option TagId) : ((s.walkBucket b k).2).draws = s.draws := by
  unfold State.walkBucket; dsimp only; split <;> simp

/-! ### walkTag_snd -/

@[simp] theorem walkTag_snd_hoses (t : TagId) : ((s.walkTag t).2).hoses = s.hoses := by
  simp [State.walkTag]
@[simp] theorem walkTag_snd_hose (t : TagId) (j : HoseId) : ((s.walkTag t).2).hose j = s.hose j := by
  simp [State.hose]
@[simp] theorem walkTag_snd_siteStop (t : TagId) : ((s.walkTag t).2).siteStop = s.siteStop := by
  simp [State.walkTag]
@[simp] theorem walkTag_snd_betas (t : TagId) : ((s.walkTag t).2).betas = s.betas := by
  simp [State.walkTag]
@[simp] theorem walkTag_snd_calCounter (t : TagId) : ((s.walkTag t).2).calCounter = s.calCounter := by
  simp [State.walkTag]
@[simp] theorem walkTag_snd_comps (t : TagId) : ((s.walkTag t).2).comps = s.comps := by
  simp [State.walkTag]
@[simp] theorem walkTag_snd_comp (t : TagId) (j : CompId) : ((s.walkTag t).2).comp j = s.comp j := by
  simp [State.comp]
@[simp] theorem walkTag_snd_billing (t : TagId) : ((s.walkTag t).2).billing = s.billing := by
  simp [State.walkTag]
@[simp] theorem walkTag_snd_field (t : TagId) : ((s.walkTag t).2).field = s.field := by
  simp [State.walkTag]
@[simp] theorem walkTag_snd_screen (t : TagId) : ((s.walkTag t).2).screen = s.screen := by
  simp [State.walkTag]
@[simp] theorem walkTag_snd_resp (t : TagId) : ((s.walkTag t).2).resp = s.resp := by
  simp [State.walkTag]
@[simp] theorem walkTag_snd_levelOfNode (t : TagId) (j : Node) : ((s.walkTag t).2).levelOfNode j = s.levelOfNode j := by
  simp [State.levelOfNode]
@[simp] theorem walkTag_snd_power (t : TagId) : ((s.walkTag t).2).power = s.power := by
  simp [State.walkTag]
@[simp] theorem walkTag_snd_pending (t : TagId) : ((s.walkTag t).2).pending = s.pending := by
  simp [State.walkTag]
@[simp] theorem walkTag_snd_draws (t : TagId) : ((s.walkTag t).2).draws = s.draws := by
  simp [State.walkTag]

/-! ### bumpCal -/

@[simp] theorem bumpCal_table : (s.bumpCal).table = s.table := rfl
@[simp] theorem bumpCal_entry (j : EntryId) : (s.bumpCal).entry j = s.entry j := by
  simp [State.entry]
@[simp] theorem bumpCal_hoses : (s.bumpCal).hoses = s.hoses := rfl
@[simp] theorem bumpCal_hose (j : HoseId) : (s.bumpCal).hose j = s.hose j := by
  simp [State.hose]
@[simp] theorem bumpCal_siteStop : (s.bumpCal).siteStop = s.siteStop := rfl
@[simp] theorem bumpCal_betas : (s.bumpCal).betas = s.betas := rfl
@[simp] theorem bumpCal_comps : (s.bumpCal).comps = s.comps := rfl
@[simp] theorem bumpCal_comp (j : CompId) : (s.bumpCal).comp j = s.comp j := by
  simp [State.comp]
@[simp] theorem bumpCal_billing : (s.bumpCal).billing = s.billing := rfl
@[simp] theorem bumpCal_att : (s.bumpCal).att = s.att := rfl
@[simp] theorem bumpCal_field : (s.bumpCal).field = s.field := rfl
@[simp] theorem bumpCal_cab : (s.bumpCal).cab = s.cab := rfl
@[simp] theorem bumpCal_screen : (s.bumpCal).screen = s.screen := rfl
@[simp] theorem bumpCal_resp : (s.bumpCal).resp = s.resp := rfl
@[simp] theorem bumpCal_levelOfNode (j : Node) : (s.bumpCal).levelOfNode j = s.levelOfNode j := by
  simp [State.levelOfNode]
@[simp] theorem bumpCal_power : (s.bumpCal).power = s.power := rfl
@[simp] theorem bumpCal_pending : (s.bumpCal).pending = s.pending := rfl
@[simp] theorem bumpCal_draws : (s.bumpCal).draws = s.draws := rfl

end Sys2Proof.Machine.State
end

