-- ==== Sys2Proof/Laws/HoseFrames.lean ====
section
/-! SUPPORT. What the operations of a hose controller leave unchanged. -/

namespace Sys2Proof.Machine.State

variable (s : State)

/-! ### modHose -/

@[simp] theorem modHose_table (h : HoseId) (f : Hose → Hose) : (s.modHose h f).table = s.table := rfl
@[simp] theorem modHose_entry (h : HoseId) (f : Hose → Hose) (j : EntryId) : (s.modHose h f).entry j = s.entry j := by
  simp [State.entry]
@[simp] theorem modHose_siteStop (h : HoseId) (f : Hose → Hose) : (s.modHose h f).siteStop = s.siteStop := rfl
@[simp] theorem modHose_betas (h : HoseId) (f : Hose → Hose) : (s.modHose h f).betas = s.betas := rfl
@[simp] theorem modHose_calCounter (h : HoseId) (f : Hose → Hose) : (s.modHose h f).calCounter = s.calCounter := rfl
@[simp] theorem modHose_comps (h : HoseId) (f : Hose → Hose) : (s.modHose h f).comps = s.comps := rfl
@[simp] theorem modHose_comp (h : HoseId) (f : Hose → Hose) (j : CompId) : (s.modHose h f).comp j = s.comp j := by
  simp [State.comp]
@[simp] theorem modHose_billing (h : HoseId) (f : Hose → Hose) : (s.modHose h f).billing = s.billing := rfl
@[simp] theorem modHose_att (h : HoseId) (f : Hose → Hose) : (s.modHose h f).att = s.att := rfl
@[simp] theorem modHose_field (h : HoseId) (f : Hose → Hose) : (s.modHose h f).field = s.field := rfl
@[simp] theorem modHose_cab (h : HoseId) (f : Hose → Hose) : (s.modHose h f).cab = s.cab := rfl
@[simp] theorem modHose_screen (h : HoseId) (f : Hose → Hose) : (s.modHose h f).screen = s.screen := rfl
@[simp] theorem modHose_resp (h : HoseId) (f : Hose → Hose) : (s.modHose h f).resp = s.resp := rfl
@[simp] theorem modHose_levelOfNode (h : HoseId) (f : Hose → Hose) (j : Node) : (s.modHose h f).levelOfNode j = s.levelOfNode j := by
  simp [State.levelOfNode]
@[simp] theorem modHose_power (h : HoseId) (f : Hose → Hose) : (s.modHose h f).power = s.power := rfl
@[simp] theorem modHose_pending (h : HoseId) (f : Hose → Hose) : (s.modHose h f).pending = s.pending := rfl
@[simp] theorem modHose_draws (h : HoseId) (f : Hose → Hose) : (s.modHose h f).draws = s.draws := rfl

/-! ### flowStart -/

@[simp] theorem flowStart_table (h : HoseId) : (s.flowStart h).table = s.table := by
  simp [State.flowStart]
@[simp] theorem flowStart_entry (h : HoseId) (j : EntryId) : (s.flowStart h).entry j = s.entry j := by
  simp [State.entry]
@[simp] theorem flowStart_siteStop (h : HoseId) : (s.flowStart h).siteStop = s.siteStop := by
  simp [State.flowStart]
@[simp] theorem flowStart_betas (h : HoseId) : (s.flowStart h).betas = s.betas := by
  simp [State.flowStart]
@[simp] theorem flowStart_calCounter (h : HoseId) : (s.flowStart h).calCounter = s.calCounter := by
  simp [State.flowStart]
@[simp] theorem flowStart_comps (h : HoseId) : (s.flowStart h).comps = s.comps := by
  simp [State.flowStart]
@[simp] theorem flowStart_comp (h : HoseId) (j : CompId) : (s.flowStart h).comp j = s.comp j := by
  simp [State.comp]
@[simp] theorem flowStart_billing (h : HoseId) : (s.flowStart h).billing = s.billing := by
  simp [State.flowStart]
@[simp] theorem flowStart_att (h : HoseId) : (s.flowStart h).att = s.att := by
  simp [State.flowStart]
@[simp] theorem flowStart_screen (h : HoseId) : (s.flowStart h).screen = s.screen := by
  simp [State.flowStart]
@[simp] theorem flowStart_resp (h : HoseId) : (s.flowStart h).resp = s.resp := by
  simp [State.flowStart]
@[simp] theorem flowStart_levelOfNode (h : HoseId) (j : Node) : (s.flowStart h).levelOfNode j = s.levelOfNode j := by
  simp [State.levelOfNode]
@[simp] theorem flowStart_power (h : HoseId) : (s.flowStart h).power = s.power := by
  simp [State.flowStart]
@[simp] theorem flowStart_pending (h : HoseId) : (s.flowStart h).pending = s.pending := by
  simp [State.flowStart]
@[simp] theorem flowStart_draws (h : HoseId) : (s.flowStart h).draws = s.draws := by
  simp [State.flowStart]

/-! ### takeEntry -/

@[simp] theorem takeEntry_hoses (h : HoseId) (c : Context) : (s.takeEntry h c).hoses = s.hoses := by
  unfold State.takeEntry; split <;> simp
@[simp] theorem takeEntry_hose (h : HoseId) (c : Context) (j : HoseId) : (s.takeEntry h c).hose j = s.hose j := by
  simp [State.hose]
@[simp] theorem takeEntry_siteStop (h : HoseId) (c : Context) : (s.takeEntry h c).siteStop = s.siteStop := by
  unfold State.takeEntry; split <;> simp
@[simp] theorem takeEntry_betas (h : HoseId) (c : Context) : (s.takeEntry h c).betas = s.betas := by
  unfold State.takeEntry; split <;> simp
@[simp] theorem takeEntry_calCounter (h : HoseId) (c : Context) : (s.takeEntry h c).calCounter = s.calCounter := by
  unfold State.takeEntry; split <;> simp
@[simp] theorem takeEntry_comps (h : HoseId) (c : Context) : (s.takeEntry h c).comps = s.comps := by
  unfold State.takeEntry; split <;> simp
@[simp] theorem takeEntry_comp (h : HoseId) (c : Context) (j : CompId) : (s.takeEntry h c).comp j = s.comp j := by
  simp [State.comp]
@[simp] theorem takeEntry_billing (h : HoseId) (c : Context) : (s.takeEntry h c).billing = s.billing := by
  unfold State.takeEntry; split <;> simp
@[simp] theorem takeEntry_att (h : HoseId) (c : Context) : (s.takeEntry h c).att = s.att := by
  unfold State.takeEntry; split <;> simp
@[simp] theorem takeEntry_field (h : HoseId) (c : Context) : (s.takeEntry h c).field = s.field := by
  unfold State.takeEntry; split <;> simp
@[simp] theorem takeEntry_cab (h : HoseId) (c : Context) : (s.takeEntry h c).cab = s.cab := by
  unfold State.takeEntry; split <;> simp
@[simp] theorem takeEntry_screen (h : HoseId) (c : Context) : (s.takeEntry h c).screen = s.screen := by
  unfold State.takeEntry; split <;> simp
@[simp] theorem takeEntry_resp (h : HoseId) (c : Context) : (s.takeEntry h c).resp = s.resp := by
  unfold State.takeEntry; split <;> simp
@[simp] theorem takeEntry_levelOfNode (h : HoseId) (c : Context) (j : Node) : (s.takeEntry h c).levelOfNode j = s.levelOfNode j := by
  simp [State.levelOfNode]
@[simp] theorem takeEntry_power (h : HoseId) (c : Context) : (s.takeEntry h c).power = s.power := by
  unfold State.takeEntry; split <;> simp
@[simp] theorem takeEntry_pending (h : HoseId) (c : Context) : (s.takeEntry h c).pending = s.pending := by
  unfold State.takeEntry; split <;> simp
@[simp] theorem takeEntry_draws (h : HoseId) (c : Context) : (s.takeEntry h c).draws = s.draws := by
  unfold State.takeEntry; split <;> simp

/-! ### accept -/

@[simp] theorem accept_siteStop (h : HoseId) (c : Context) : (s.accept h c).siteStop = s.siteStop := by
  unfold State.accept; dsimp only; split <;> simp
@[simp] theorem accept_betas (h : HoseId) (c : Context) : (s.accept h c).betas = s.betas := by
  unfold State.accept; dsimp only; split <;> simp
@[simp] theorem accept_calCounter (h : HoseId) (c : Context) : (s.accept h c).calCounter = s.calCounter := by
  unfold State.accept; dsimp only; split <;> simp
@[simp] theorem accept_screen (h : HoseId) (c : Context) : (s.accept h c).screen = s.screen := by
  unfold State.accept; dsimp only; split <;> simp
@[simp] theorem accept_resp (h : HoseId) (c : Context) : (s.accept h c).resp = s.resp := by
  unfold State.accept; dsimp only; split <;> simp
@[simp] theorem accept_levelOfNode (h : HoseId) (c : Context) (j : Node) : (s.accept h c).levelOfNode j = s.levelOfNode j := by
  simp [State.levelOfNode]
@[simp] theorem accept_power (h : HoseId) (c : Context) : (s.accept h c).power = s.power := by
  unfold State.accept; dsimp only; split <;> simp
@[simp] theorem accept_pending (h : HoseId) (c : Context) : (s.accept h c).pending = s.pending := by
  unfold State.accept; dsimp only; split <;> simp
@[simp] theorem accept_draws (h : HoseId) (c : Context) : (s.accept h c).draws = s.draws := by
  unfold State.accept; dsimp only; split <;> simp

/-! ### enterClosing -/

@[simp] theorem enterClosing_table (h : HoseId) (w : EndCause) : (s.enterClosing h w).table = s.table := by
  simp [State.enterClosing]
@[simp] theorem enterClosing_entry (h : HoseId) (w : EndCause) (j : EntryId) : (s.enterClosing h w).entry j = s.entry j := by
  simp [State.entry]
@[simp] theorem enterClosing_siteStop (h : HoseId) (w : EndCause) : (s.enterClosing h w).siteStop = s.siteStop := by
  simp [State.enterClosing]
@[simp] theorem enterClosing_betas (h : HoseId) (w : EndCause) : (s.enterClosing h w).betas = s.betas := by
  simp [State.enterClosing]
@[simp] theorem enterClosing_calCounter (h : HoseId) (w : EndCause) : (s.enterClosing h w).calCounter = s.calCounter := by
  simp [State.enterClosing]
@[simp] theorem enterClosing_comps (h : HoseId) (w : EndCause) : (s.enterClosing h w).comps = s.comps := by
  simp [State.enterClosing]
@[simp] theorem enterClosing_comp (h : HoseId) (w : EndCause) (j : CompId) : (s.enterClosing h w).comp j = s.comp j := by
  simp [State.comp]
@[simp] theorem enterClosing_billing (h : HoseId) (w : EndCause) : (s.enterClosing h w).billing = s.billing := by
  simp [State.enterClosing]
@[simp] theorem enterClosing_att (h : HoseId) (w : EndCause) : (s.enterClosing h w).att = s.att := by
  simp [State.enterClosing]
@[simp] theorem enterClosing_screen (h : HoseId) (w : EndCause) : (s.enterClosing h w).screen = s.screen := by
  simp [State.enterClosing]
@[simp] theorem enterClosing_resp (h : HoseId) (w : EndCause) : (s.enterClosing h w).resp = s.resp := by
  simp [State.enterClosing]
@[simp] theorem enterClosing_levelOfNode (h : HoseId) (w : EndCause) (j : Node) : (s.enterClosing h w).levelOfNode j = s.levelOfNode j := by
  simp [State.levelOfNode]
@[simp] theorem enterClosing_power (h : HoseId) (w : EndCause) : (s.enterClosing h w).power = s.power := by
  simp [State.enterClosing]
@[simp] theorem enterClosing_pending (h : HoseId) (w : EndCause) : (s.enterClosing h w).pending = s.pending := by
  simp [State.enterClosing]
@[simp] theorem enterClosing_draws (h : HoseId) (w : EndCause) : (s.enterClosing h w).draws = s.draws := by
  simp [State.enterClosing]

/-! ### enterHeld -/

@[simp] theorem enterHeld_table (h : HoseId) (m : HoldMark) : (s.enterHeld h m).table = s.table := by
  simp [State.enterHeld]
@[simp] theorem enterHeld_entry (h : HoseId) (m : HoldMark) (j : EntryId) : (s.enterHeld h m).entry j = s.entry j := by
  simp [State.entry]
@[simp] theorem enterHeld_siteStop (h : HoseId) (m : HoldMark) : (s.enterHeld h m).siteStop = s.siteStop := by
  simp [State.enterHeld]
@[simp] theorem enterHeld_betas (h : HoseId) (m : HoldMark) : (s.enterHeld h m).betas = s.betas := by
  simp [State.enterHeld]
@[simp] theorem enterHeld_calCounter (h : HoseId) (m : HoldMark) : (s.enterHeld h m).calCounter = s.calCounter := by
  simp [State.enterHeld]
@[simp] theorem enterHeld_comps (h : HoseId) (m : HoldMark) : (s.enterHeld h m).comps = s.comps := by
  simp [State.enterHeld]
@[simp] theorem enterHeld_comp (h : HoseId) (m : HoldMark) (j : CompId) : (s.enterHeld h m).comp j = s.comp j := by
  simp [State.comp]
@[simp] theorem enterHeld_billing (h : HoseId) (m : HoldMark) : (s.enterHeld h m).billing = s.billing := by
  simp [State.enterHeld]
@[simp] theorem enterHeld_att (h : HoseId) (m : HoldMark) : (s.enterHeld h m).att = s.att := by
  simp [State.enterHeld]
@[simp] theorem enterHeld_screen (h : HoseId) (m : HoldMark) : (s.enterHeld h m).screen = s.screen := by
  simp [State.enterHeld]
@[simp] theorem enterHeld_resp (h : HoseId) (m : HoldMark) : (s.enterHeld h m).resp = s.resp := by
  simp [State.enterHeld]
@[simp] theorem enterHeld_levelOfNode (h : HoseId) (m : HoldMark) (j : Node) : (s.enterHeld h m).levelOfNode j = s.levelOfNode j := by
  simp [State.levelOfNode]
@[simp] theorem enterHeld_power (h : HoseId) (m : HoldMark) : (s.enterHeld h m).power = s.power := by
  simp [State.enterHeld]
@[simp] theorem enterHeld_pending (h : HoseId) (m : HoldMark) : (s.enterHeld h m).pending = s.pending := by
  simp [State.enterHeld]
@[simp] theorem enterHeld_draws (h : HoseId) (m : HoldMark) : (s.enterHeld h m).draws = s.draws := by
  simp [State.enterHeld]

/-! ### dropTransaction -/

@[simp] theorem dropTransaction_siteStop (h : HoseId) : (s.dropTransaction h).siteStop = s.siteStop := by
  unfold State.dropTransaction; split <;> simp
@[simp] theorem dropTransaction_betas (h : HoseId) : (s.dropTransaction h).betas = s.betas := by
  unfold State.dropTransaction; split <;> simp
@[simp] theorem dropTransaction_calCounter (h : HoseId) : (s.dropTransaction h).calCounter = s.calCounter := by
  unfold State.dropTransaction; split <;> simp
@[simp] theorem dropTransaction_att (h : HoseId) : (s.dropTransaction h).att = s.att := by
  unfold State.dropTransaction; split <;> simp
@[simp] theorem dropTransaction_field (h : HoseId) : (s.dropTransaction h).field = s.field := by
  unfold State.dropTransaction; split <;> simp
@[simp] theorem dropTransaction_cab (h : HoseId) : (s.dropTransaction h).cab = s.cab := by
  unfold State.dropTransaction; split <;> simp
@[simp] theorem dropTransaction_screen (h : HoseId) : (s.dropTransaction h).screen = s.screen := by
  unfold State.dropTransaction; split <;> simp
@[simp] theorem dropTransaction_resp (h : HoseId) : (s.dropTransaction h).resp = s.resp := by
  unfold State.dropTransaction; split <;> simp
@[simp] theorem dropTransaction_levelOfNode (h : HoseId) (j : Node) : (s.dropTransaction h).levelOfNode j = s.levelOfNode j := by
  simp [State.levelOfNode]
@[simp] theorem dropTransaction_power (h : HoseId) : (s.dropTransaction h).power = s.power := by
  unfold State.dropTransaction; split <;> simp
@[simp] theorem dropTransaction_pending (h : HoseId) : (s.dropTransaction h).pending = s.pending := by
  unfold State.dropTransaction; split <;> simp
@[simp] theorem dropTransaction_draws (h : HoseId) : (s.dropTransaction h).draws = s.draws := by
  unfold State.dropTransaction; split <;> simp

/-! ### cancel -/

@[simp] theorem cancel_siteStop (h : HoseId) (w : Reason) (k : Option RequestKind) : (s.cancel h w k).siteStop = s.siteStop := by
  simp [State.cancel]
@[simp] theorem cancel_betas (h : HoseId) (w : Reason) (k : Option RequestKind) : (s.cancel h w k).betas = s.betas := by
  simp [State.cancel]
@[simp] theorem cancel_calCounter (h : HoseId) (w : Reason) (k : Option RequestKind) : (s.cancel h w k).calCounter = s.calCounter := by
  simp [State.cancel]
@[simp] theorem cancel_att (h : HoseId) (w : Reason) (k : Option RequestKind) : (s.cancel h w k).att = s.att := by
  simp [State.cancel]
@[simp] theorem cancel_field (h : HoseId) (w : Reason) (k : Option RequestKind) : (s.cancel h w k).field = s.field := by
  simp [State.cancel]
@[simp] theorem cancel_screen (h : HoseId) (w : Reason) (k : Option RequestKind) : (s.cancel h w k).screen = s.screen := by
  simp [State.cancel]
@[simp] theorem cancel_resp (h : HoseId) (w : Reason) (k : Option RequestKind) : (s.cancel h w k).resp = s.resp := by
  simp [State.cancel]
@[simp] theorem cancel_levelOfNode (h : HoseId) (w : Reason) (k : Option RequestKind) (j : Node) : (s.cancel h w k).levelOfNode j = s.levelOfNode j := by
  simp [State.levelOfNode]
@[simp] theorem cancel_power (h : HoseId) (w : Reason) (k : Option RequestKind) : (s.cancel h w k).power = s.power := by
  simp [State.cancel]
@[simp] theorem cancel_pending (h : HoseId) (w : Reason) (k : Option RequestKind) : (s.cancel h w k).pending = s.pending := by
  simp [State.cancel]
@[simp] theorem cancel_draws (h : HoseId) (w : Reason) (k : Option RequestKind) : (s.cancel h w k).draws = s.draws := by
  simp [State.cancel]

/-! ### settleCtx_snd -/

@[simp] theorem settleCtx_snd_hoses (c : Context) (h : HoseId) : ((s.settleCtx c h).2).hoses = s.hoses := by
  unfold State.settleCtx; split <;> simp
@[simp] theorem settleCtx_snd_hose (c : Context) (h : HoseId) (j : HoseId) : ((s.settleCtx c h).2).hose j = s.hose j := by
  simp [State.hose]
@[simp] theorem settleCtx_snd_siteStop (c : Context) (h : HoseId) : ((s.settleCtx c h).2).siteStop = s.siteStop := by
  unfold State.settleCtx; split <;> simp
@[simp] theorem settleCtx_snd_betas (c : Context) (h : HoseId) : ((s.settleCtx c h).2).betas = s.betas := by
  unfold State.settleCtx; split <;> simp
@[simp] theorem settleCtx_snd_calCounter (c : Context) (h : HoseId) : ((s.settleCtx c h).2).calCounter = s.calCounter := by
  unfold State.settleCtx; split <;> simp
@[simp] theorem settleCtx_snd_comps (c : Context) (h : HoseId) : ((s.settleCtx c h).2).comps = s.comps := by
  unfold State.settleCtx; split <;> simp
@[simp] theorem settleCtx_snd_comp (c : Context) (h : HoseId) (j : CompId) : ((s.settleCtx c h).2).comp j = s.comp j := by
  simp [State.comp]
@[simp] theorem settleCtx_snd_billing (c : Context) (h : HoseId) : ((s.settleCtx c h).2).billing = s.billing := by
  unfold State.settleCtx; split <;> simp
@[simp] theorem settleCtx_snd_att (c : Context) (h : HoseId) : ((s.settleCtx c h).2).att = s.att := by
  unfold State.settleCtx; split <;> simp
@[simp] theorem settleCtx_snd_field (c : Context) (h : HoseId) : ((s.settleCtx c h).2).field = s.field := by
  unfold State.settleCtx; split <;> simp
@[simp] theorem settleCtx_snd_cab (c : Context) (h : HoseId) : ((s.settleCtx c h).2).cab = s.cab := by
  unfold State.settleCtx; split <;> simp
@[simp] theorem settleCtx_snd_screen (c : Context) (h : HoseId) : ((s.settleCtx c h).2).screen = s.screen := by
  unfold State.settleCtx; split <;> simp
@[simp] theorem settleCtx_snd_resp (c : Context) (h : HoseId) : ((s.settleCtx c h).2).resp = s.resp := by
  unfold State.settleCtx; split <;> simp
@[simp] theorem settleCtx_snd_levelOfNode (c : Context) (h : HoseId) (j : Node) : ((s.settleCtx c h).2).levelOfNode j = s.levelOfNode j := by
  simp [State.levelOfNode]
@[simp] theorem settleCtx_snd_power (c : Context) (h : HoseId) : ((s.settleCtx c h).2).power = s.power := by
  unfold State.settleCtx; split <;> simp
@[simp] theorem settleCtx_snd_pending (c : Context) (h : HoseId) : ((s.settleCtx c h).2).pending = s.pending := by
  unfold State.settleCtx; split <;> simp
@[simp] theorem settleCtx_snd_draws (c : Context) (h : HoseId) : ((s.settleCtx c h).2).draws = s.draws := by
  unfold State.settleCtx; split <;> simp

/-! ### resultEntry -/

@[simp] theorem resultEntry_siteStop (h : HoseId) (b : Bool) : (s.resultEntry h b).siteStop = s.siteStop := by
  unfold State.resultEntry; split
  · rfl
  · dsimp only; (repeat' split) <;> simp
@[simp] theorem resultEntry_betas (h : HoseId) (b : Bool) : (s.resultEntry h b).betas = s.betas := by
  unfold State.resultEntry; split
  · rfl
  · dsimp only; (repeat' split) <;> simp
@[simp] theorem resultEntry_calCounter (h : HoseId) (b : Bool) : (s.resultEntry h b).calCounter = s.calCounter := by
  unfold State.resultEntry; split
  · rfl
  · dsimp only; (repeat' split) <;> simp
@[simp] theorem resultEntry_billing (h : HoseId) (b : Bool) : (s.resultEntry h b).billing = s.billing := by
  unfold State.resultEntry; split
  · rfl
  · dsimp only; (repeat' split) <;> simp
@[simp] theorem resultEntry_att (h : HoseId) (b : Bool) : (s.resultEntry h b).att = s.att := by
  unfold State.resultEntry; split
  · rfl
  · dsimp only; (repeat' split) <;> simp
@[simp] theorem resultEntry_field (h : HoseId) (b : Bool) : (s.resultEntry h b).field = s.field := by
  unfold State.resultEntry; split
  · rfl
  · dsimp only; (repeat' split) <;> simp
@[simp] theorem resultEntry_screen (h : HoseId) (b : Bool) : (s.resultEntry h b).screen = s.screen := by
  unfold State.resultEntry; split
  · rfl
  · dsimp only; (repeat' split) <;> simp
@[simp] theorem resultEntry_resp (h : HoseId) (b : Bool) : (s.resultEntry h b).resp = s.resp := by
  unfold State.resultEntry; split
  · rfl
  · dsimp only; (repeat' split) <;> simp
@[simp] theorem resultEntry_levelOfNode (h : HoseId) (b : Bool) (j : Node) : (s.resultEntry h b).levelOfNode j = s.levelOfNode j := by
  simp [State.levelOfNode]
@[simp] theorem resultEntry_power (h : HoseId) (b : Bool) : (s.resultEntry h b).power = s.power := by
  unfold State.resultEntry; split
  · rfl
  · dsimp only; (repeat' split) <;> simp
@[simp] theorem resultEntry_pending (h : HoseId) (b : Bool) : (s.resultEntry h b).pending = s.pending := by
  unfold State.resultEntry; split
  · rfl
  · dsimp only; (repeat' split) <;> simp
@[simp] theorem resultEntry_draws (h : HoseId) (b : Bool) : (s.resultEntry h b).draws = s.draws := by
  unfold State.resultEntry; split
  · rfl
  · dsimp only; (repeat' split) <;> simp

/-! ### endClosing -/

@[simp] theorem endClosing_siteStop (h : HoseId) : (s.endClosing h).siteStop = s.siteStop := by
  unfold State.endClosing; (repeat' split) <;> simp
@[simp] theorem endClosing_betas (h : HoseId) : (s.endClosing h).betas = s.betas := by
  unfold State.endClosing; (repeat' split) <;> simp
@[simp] theorem endClosing_calCounter (h : HoseId) : (s.endClosing h).calCounter = s.calCounter := by
  unfold State.endClosing; (repeat' split) <;> simp
@[simp] theorem endClosing_att (h : HoseId) : (s.endClosing h).att = s.att := by
  unfold State.endClosing; (repeat' split) <;> simp
@[simp] theorem endClosing_field (h : HoseId) : (s.endClosing h).field = s.field := by
  unfold State.endClosing; (repeat' split) <;> simp
@[simp] theorem endClosing_screen (h : HoseId) : (s.endClosing h).screen = s.screen := by
  unfold State.endClosing; (repeat' split) <;> simp
@[simp] theorem endClosing_resp (h : HoseId) : (s.endClosing h).resp = s.resp := by
  unfold State.endClosing; (repeat' split) <;> simp
@[simp] theorem endClosing_levelOfNode (h : HoseId) (j : Node) : (s.endClosing h).levelOfNode j = s.levelOfNode j := by
  simp [State.levelOfNode]
@[simp] theorem endClosing_power (h : HoseId) : (s.endClosing h).power = s.power := by
  unfold State.endClosing; (repeat' split) <;> simp
@[simp] theorem endClosing_pending (h : HoseId) : (s.endClosing h).pending = s.pending := by
  unfold State.endClosing; (repeat' split) <;> simp
@[simp] theorem endClosing_draws (h : HoseId) : (s.endClosing h).draws = s.draws := by
  unfold State.endClosing; (repeat' split) <;> simp

/-! ### post -/

@[simp] theorem post_table (h : HoseId) : (s.post h).table = s.table := by
  unfold State.post; split <;> simp
@[simp] theorem post_entry (h : HoseId) (j : EntryId) : (s.post h).entry j = s.entry j := by
  simp [State.entry]
@[simp] theorem post_siteStop (h : HoseId) : (s.post h).siteStop = s.siteStop := by
  unfold State.post; split <;> simp
@[simp] theorem post_betas (h : HoseId) : (s.post h).betas = s.betas := by
  unfold State.post; split <;> simp
@[simp] theorem post_calCounter (h : HoseId) : (s.post h).calCounter = s.calCounter := by
  unfold State.post; split <;> simp
@[simp] theorem post_comps (h : HoseId) : (s.post h).comps = s.comps := by
  unfold State.post; split <;> simp
@[simp] theorem post_comp (h : HoseId) (j : CompId) : (s.post h).comp j = s.comp j := by
  simp [State.comp]
@[simp] theorem post_att (h : HoseId) : (s.post h).att = s.att := by
  unfold State.post; split <;> simp
@[simp] theorem post_field (h : HoseId) : (s.post h).field = s.field := by
  unfold State.post; split <;> simp
@[simp] theorem post_screen (h : HoseId) : (s.post h).screen = s.screen := by
  unfold State.post; split <;> simp
@[simp] theorem post_resp (h : HoseId) : (s.post h).resp = s.resp := by
  unfold State.post; split <;> simp
@[simp] theorem post_levelOfNode (h : HoseId) (j : Node) : (s.post h).levelOfNode j = s.levelOfNode j := by
  simp [State.levelOfNode]
@[simp] theorem post_power (h : HoseId) : (s.post h).power = s.power := by
  unfold State.post; split <;> simp
@[simp] theorem post_pending (h : HoseId) : (s.post h).pending = s.pending := by
  unfold State.post; split <;> simp
@[simp] theorem post_draws (h : HoseId) : (s.post h).draws = s.draws := by
  unfold State.post; split <;> simp

/-! ### phaseCheck -/

@[simp] theorem phaseCheck_table (h : HoseId) : (s.phaseCheck h).table = s.table := by
  unfold State.phaseCheck; dsimp only; (repeat' split) <;> simp
@[simp] theorem phaseCheck_entry (h : HoseId) (j : EntryId) : (s.phaseCheck h).entry j = s.entry j := by
  simp [State.entry]
@[simp] theorem phaseCheck_siteStop (h : HoseId) : (s.phaseCheck h).siteStop = s.siteStop := by
  unfold State.phaseCheck; dsimp only; (repeat' split) <;> simp
@[simp] theorem phaseCheck_betas (h : HoseId) : (s.phaseCheck h).betas = s.betas := by
  unfold State.phaseCheck; dsimp only; (repeat' split) <;> simp
@[simp] theorem phaseCheck_calCounter (h : HoseId) : (s.phaseCheck h).calCounter = s.calCounter := by
  unfold State.phaseCheck; dsimp only; (repeat' split) <;> simp
@[simp] theorem phaseCheck_comps (h : HoseId) : (s.phaseCheck h).comps = s.comps := by
  unfold State.phaseCheck; dsimp only; (repeat' split) <;> simp
@[simp] theorem phaseCheck_comp (h : HoseId) (j : CompId) : (s.phaseCheck h).comp j = s.comp j := by
  simp [State.comp]
@[simp] theorem phaseCheck_billing (h : HoseId) : (s.phaseCheck h).billing = s.billing := by
  unfold State.phaseCheck; dsimp only; (repeat' split) <;> simp
@[simp] theorem phaseCheck_att (h : HoseId) : (s.phaseCheck h).att = s.att := by
  unfold State.phaseCheck; dsimp only; (repeat' split) <;> simp
@[simp] theorem phaseCheck_screen (h : HoseId) : (s.phaseCheck h).screen = s.screen := by
  unfold State.phaseCheck; dsimp only; (repeat' split) <;> simp
@[simp] theorem phaseCheck_resp (h : HoseId) : (s.phaseCheck h).resp = s.resp := by
  unfold State.phaseCheck; dsimp only; (repeat' split) <;> simp
@[simp] theorem phaseCheck_levelOfNode (h : HoseId) (j : Node) : (s.phaseCheck h).levelOfNode j = s.levelOfNode j := by
  simp [State.levelOfNode]
@[simp] theorem phaseCheck_power (h : HoseId) : (s.phaseCheck h).power = s.power := by
  unfold State.phaseCheck; dsimp only; (repeat' split) <;> simp
@[simp] theorem phaseCheck_pending (h : HoseId) : (s.phaseCheck h).pending = s.pending := by
  unfold State.phaseCheck; dsimp only; (repeat' split) <;> simp
@[simp] theorem phaseCheck_draws (h : HoseId) : (s.phaseCheck h).draws = s.draws := by
  unfold State.phaseCheck; dsimp only; (repeat' split) <;> simp

/-! ### appliedSample -/

@[simp] theorem appliedSample_table (h : HoseId) (c : Context) (m : Measured) (p : Nat) : (s.appliedSample h c m p).table = s.table := by
  unfold State.appliedSample; dsimp only; split <;> simp
@[simp] theorem appliedSample_entry (h : HoseId) (c : Context) (m : Measured) (p : Nat) (j : EntryId) : (s.appliedSample h c m p).entry j = s.entry j := by
  simp [State.entry]
@[simp] theorem appliedSample_siteStop (h : HoseId) (c : Context) (m : Measured) (p : Nat) : (s.appliedSample h c m p).siteStop = s.siteStop := by
  unfold State.appliedSample; dsimp only; split <;> simp
@[simp] theorem appliedSample_betas (h : HoseId) (c : Context) (m : Measured) (p : Nat) : (s.appliedSample h c m p).betas = s.betas := by
  unfold State.appliedSample; dsimp only; split <;> simp
@[simp] theorem appliedSample_calCounter (h : HoseId) (c : Context) (m : Measured) (p : Nat) : (s.appliedSample h c m p).calCounter = s.calCounter := by
  unfold State.appliedSample; dsimp only; split <;> simp
@[simp] theorem appliedSample_billing (h : HoseId) (c : Context) (m : Measured) (p : Nat) : (s.appliedSample h c m p).billing = s.billing := by
  unfold State.appliedSample; dsimp only; split <;> simp
@[simp] theorem appliedSample_att (h : HoseId) (c : Context) (m : Measured) (p : Nat) : (s.appliedSample h c m p).att = s.att := by
  unfold State.appliedSample; dsimp only; split <;> simp
@[simp] theorem appliedSample_screen (h : HoseId) (c : Context) (m : Measured) (p : Nat) : (s.appliedSample h c m p).screen = s.screen := by
  unfold State.appliedSample; dsimp only; split <;> simp
@[simp] theorem appliedSample_resp (h : HoseId) (c : Context) (m : Measured) (p : Nat) : (s.appliedSample h c m p).resp = s.resp := by
  unfold State.appliedSample; dsimp only; split <;> simp
@[simp] theorem appliedSample_levelOfNode (h : HoseId) (c : Context) (m : Measured) (p : Nat) (j : Node) : (s.appliedSample h c m p).levelOfNode j = s.levelOfNode j := by
  simp [State.levelOfNode]
@[simp] theorem appliedSample_power (h : HoseId) (c : Context) (m : Measured) (p : Nat) : (s.appliedSample h c m p).power = s.power := by
  unfold State.appliedSample; dsimp only; split <;> simp
@[simp] theorem appliedSample_pending (h : HoseId) (c : Context) (m : Measured) (p : Nat) : (s.appliedSample h c m p).pending = s.pending := by
  unfold State.appliedSample; dsimp only; split <;> simp

/-! ### unbilledFlow -/

@[simp] theorem unbilledFlow_table (h : HoseId) (q : Profile) (n : Nat) : (s.unbilledFlow h q n).table = s.table := by
  simp [State.unbilledFlow]
@[simp] theorem unbilledFlow_entry (h : HoseId) (q : Profile) (n : Nat) (j : EntryId) : (s.unbilledFlow h q n).entry j = s.entry j := by
  simp [State.entry]
@[simp] theorem unbilledFlow_siteStop (h : HoseId) (q : Profile) (n : Nat) : (s.unbilledFlow h q n).siteStop = s.siteStop := by
  simp [State.unbilledFlow]
@[simp] theorem unbilledFlow_betas (h : HoseId) (q : Profile) (n : Nat) : (s.unbilledFlow h q n).betas = s.betas := by
  simp [State.unbilledFlow]
@[simp] theorem unbilledFlow_calCounter (h : HoseId) (q : Profile) (n : Nat) : (s.unbilledFlow h q n).calCounter = s.calCounter := by
  simp [State.unbilledFlow]
@[simp] theorem unbilledFlow_billing (h : HoseId) (q : Profile) (n : Nat) : (s.unbilledFlow h q n).billing = s.billing := by
  simp [State.unbilledFlow]
@[simp] theorem unbilledFlow_field (h : HoseId) (q : Profile) (n : Nat) : (s.unbilledFlow h q n).field = s.field := by
  simp [State.unbilledFlow]
@[simp] theorem unbilledFlow_screen (h : HoseId) (q : Profile) (n : Nat) : (s.unbilledFlow h q n).screen = s.screen := by
  simp [State.unbilledFlow]
@[simp] theorem unbilledFlow_resp (h : HoseId) (q : Profile) (n : Nat) : (s.unbilledFlow h q n).resp = s.resp := by
  simp [State.unbilledFlow]
@[simp] theorem unbilledFlow_levelOfNode (h : HoseId) (q : Profile) (n : Nat) (j : Node) : (s.unbilledFlow h q n).levelOfNode j = s.levelOfNode j := by
  simp [State.levelOfNode]
@[simp] theorem unbilledFlow_power (h : HoseId) (q : Profile) (n : Nat) : (s.unbilledFlow h q n).power = s.power := by
  simp [State.unbilledFlow]
@[simp] theorem unbilledFlow_pending (h : HoseId) (q : Profile) (n : Nat) : (s.unbilledFlow h q n).pending = s.pending := by
  simp [State.unbilledFlow]

/-! ### sample -/

@[simp] theorem sample_table (h : HoseId) (q : Byte) (n t : Half) : (s.sample h q n t).table = s.table := by
  unfold State.sample; dsimp only; (repeat' split) <;> simp
@[simp] theorem sample_entry (h : HoseId) (q : Byte) (n t : Half) (j : EntryId) : (s.sample h q n t).entry j = s.entry j := by
  simp [State.entry]
@[simp] theorem sample_siteStop (h : HoseId) (q : Byte) (n t : Half) : (s.sample h q n t).siteStop = s.siteStop := by
  unfold State.sample; dsimp only; (repeat' split) <;> simp
@[simp] theorem sample_betas (h : HoseId) (q : Byte) (n t : Half) : (s.sample h q n t).betas = s.betas := by
  unfold State.sample; dsimp only; (repeat' split) <;> simp
@[simp] theorem sample_calCounter (h : HoseId) (q : Byte) (n t : Half) : (s.sample h q n t).calCounter = s.calCounter := by
  unfold State.sample; dsimp only; (repeat' split) <;> simp
@[simp] theorem sample_billing (h : HoseId) (q : Byte) (n t : Half) : (s.sample h q n t).billing = s.billing := by
  unfold State.sample; dsimp only; (repeat' split) <;> simp
@[simp] theorem sample_screen (h : HoseId) (q : Byte) (n t : Half) : (s.sample h q n t).screen = s.screen := by
  unfold State.sample; dsimp only; (repeat' split) <;> simp
@[simp] theorem sample_resp (h : HoseId) (q : Byte) (n t : Half) : (s.sample h q n t).resp = s.resp := by
  unfold State.sample; dsimp only; (repeat' split) <;> simp
@[simp] theorem sample_levelOfNode (h : HoseId) (q : Byte) (n t : Half) (j : Node) : (s.sample h q n t).levelOfNode j = s.levelOfNode j := by
  simp [State.levelOfNode]
@[simp] theorem sample_power (h : HoseId) (q : Byte) (n t : Half) : (s.sample h q n t).power = s.power := by
  unfold State.sample; dsimp only; (repeat' split) <;> simp
@[simp] theorem sample_pending (h : HoseId) (q : Byte) (n t : Half) : (s.sample h q n t).pending = s.pending := by
  unfold State.sample; dsimp only; (repeat' split) <;> simp

/-! ### nozzleEvent -/

@[simp] theorem nozzleEvent_siteStop (h : HoseId) (v : Nozzle) : (s.nozzleEvent h v).siteStop = s.siteStop := by
  unfold State.nozzleEvent; dsimp only; (repeat' split) <;> simp
@[simp] theorem nozzleEvent_betas (h : HoseId) (v : Nozzle) : (s.nozzleEvent h v).betas = s.betas := by
  unfold State.nozzleEvent; dsimp only; (repeat' split) <;> simp
@[simp] theorem nozzleEvent_calCounter (h : HoseId) (v : Nozzle) : (s.nozzleEvent h v).calCounter = s.calCounter := by
  unfold State.nozzleEvent; dsimp only; (repeat' split) <;> simp
@[simp] theorem nozzleEvent_att (h : HoseId) (v : Nozzle) : (s.nozzleEvent h v).att = s.att := by
  unfold State.nozzleEvent; dsimp only; (repeat' split) <;> simp
@[simp] theorem nozzleEvent_screen (h : HoseId) (v : Nozzle) : (s.nozzleEvent h v).screen = s.screen := by
  unfold State.nozzleEvent; dsimp only; (repeat' split) <;> simp
@[simp] theorem nozzleEvent_resp (h : HoseId) (v : Nozzle) : (s.nozzleEvent h v).resp = s.resp := by
  unfold State.nozzleEvent; dsimp only; (repeat' split) <;> simp
@[simp] theorem nozzleEvent_levelOfNode (h : HoseId) (v : Nozzle) (j : Node) : (s.nozzleEvent h v).levelOfNode j = s.levelOfNode j := by
  simp [State.levelOfNode]
@[simp] theorem nozzleEvent_power (h : HoseId) (v : Nozzle) : (s.nozzleEvent h v).power = s.power := by
  unfold State.nozzleEvent; dsimp only; (repeat' split) <;> simp
@[simp] theorem nozzleEvent_pending (h : HoseId) (v : Nozzle) : (s.nozzleEvent h v).pending = s.pending := by
  unfold State.nozzleEvent; dsimp only; (repeat' split) <;> simp
@[simp] theorem nozzleEvent_draws (h : HoseId) (v : Nozzle) : (s.nozzleEvent h v).draws = s.draws := by
  unfold State.nozzleEvent; dsimp only; (repeat' split) <;> simp

/-! ### headStatusEvent -/

@[simp] theorem headStatusEvent_table (h : HoseId) (c : Byte) : (s.headStatusEvent h c).table = s.table := by
  unfold State.headStatusEvent; dsimp only; (repeat' split) <;> simp
@[simp] theorem headStatusEvent_entry (h : HoseId) (c : Byte) (j : EntryId) : (s.headStatusEvent h c).entry j = s.entry j := by
  simp [State.entry]
@[simp] theorem headStatusEvent_siteStop (h : HoseId) (c : Byte) : (s.headStatusEvent h c).siteStop = s.siteStop := by
  unfold State.headStatusEvent; dsimp only; (repeat' split) <;> simp
@[simp] theorem headStatusEvent_betas (h : HoseId) (c : Byte) : (s.headStatusEvent h c).betas = s.betas := by
  unfold State.headStatusEvent; dsimp only; (repeat' split) <;> simp
@[simp] theorem headStatusEvent_calCounter (h : HoseId) (c : Byte) : (s.headStatusEvent h c).calCounter = s.calCounter := by
  unfold State.headStatusEvent; dsimp only; (repeat' split) <;> simp
@[simp] theorem headStatusEvent_comps (h : HoseId) (c : Byte) : (s.headStatusEvent h c).comps = s.comps := by
  unfold State.headStatusEvent; dsimp only; (repeat' split) <;> simp
@[simp] theorem headStatusEvent_comp (h : HoseId) (c : Byte) (j : CompId) : (s.headStatusEvent h c).comp j = s.comp j := by
  simp [State.comp]
@[simp] theorem headStatusEvent_billing (h : HoseId) (c : Byte) : (s.headStatusEvent h c).billing = s.billing := by
  unfold State.headStatusEvent; dsimp only; (repeat' split) <;> simp
@[simp] theorem headStatusEvent_screen (h : HoseId) (c : Byte) : (s.headStatusEvent h c).screen = s.screen := by
  unfold State.headStatusEvent; dsimp only; (repeat' split) <;> simp
@[simp] theorem headStatusEvent_resp (h : HoseId) (c : Byte) : (s.headStatusEvent h c).resp = s.resp := by
  unfold State.headStatusEvent; dsimp only; (repeat' split) <;> simp
@[simp] theorem headStatusEvent_levelOfNode (h : HoseId) (c : Byte) (j : Node) : (s.headStatusEvent h c).levelOfNode j = s.levelOfNode j := by
  simp [State.levelOfNode]
@[simp] theorem headStatusEvent_power (h : HoseId) (c : Byte) : (s.headStatusEvent h c).power = s.power := by
  unfold State.headStatusEvent; dsimp only; (repeat' split) <;> simp
@[simp] theorem headStatusEvent_pending (h : HoseId) (c : Byte) : (s.headStatusEvent h c).pending = s.pending := by
  unfold State.headStatusEvent; dsimp only; (repeat' split) <;> simp
@[simp] theorem headStatusEvent_draws (h : HoseId) (c : Byte) : (s.headStatusEvent h c).draws = s.draws := by
  unfold State.headStatusEvent; dsimp only; (repeat' split) <;> simp

/-! ### wrongPhase -/

@[simp] theorem wrongPhase_table (h : HoseId) (k : RequestKind) : (s.wrongPhase h k).table = s.table := rfl
@[simp] theorem wrongPhase_entry (h : HoseId) (k : RequestKind) (j : EntryId) : (s.wrongPhase h k).entry j = s.entry j := by
  simp [State.entry]
@[simp] theorem wrongPhase_hoses (h : HoseId) (k : RequestKind) : (s.wrongPhase h k).hoses = s.hoses := rfl
@[simp] theorem wrongPhase_hose (h : HoseId) (k : RequestKind) (j : HoseId) : (s.wrongPhase h k).hose j = s.hose j := by
  simp [State.hose]
@[simp] theorem wrongPhase_siteStop (h : HoseId) (k : RequestKind) : (s.wrongPhase h k).siteStop = s.siteStop := rfl
@[simp] theorem wrongPhase_betas (h : HoseId) (k : RequestKind) : (s.wrongPhase h k).betas = s.betas := rfl
@[simp] theorem wrongPhase_calCounter (h : HoseId) (k : RequestKind) : (s.wrongPhase h k).calCounter = s.calCounter := rfl
@[simp] theorem wrongPhase_comps (h : HoseId) (k : RequestKind) : (s.wrongPhase h k).comps = s.comps := rfl
@[simp] theorem wrongPhase_comp (h : HoseId) (k : RequestKind) (j : CompId) : (s.wrongPhase h k).comp j = s.comp j := by
  simp [State.comp]
@[simp] theorem wrongPhase_billing (h : HoseId) (k : RequestKind) : (s.wrongPhase h k).billing = s.billing := rfl
@[simp] theorem wrongPhase_att (h : HoseId) (k : RequestKind) : (s.wrongPhase h k).att = s.att := rfl
@[simp] theorem wrongPhase_field (h : HoseId) (k : RequestKind) : (s.wrongPhase h k).field = s.field := rfl
@[simp] theorem wrongPhase_screen (h : HoseId) (k : RequestKind) : (s.wrongPhase h k).screen = s.screen := rfl
@[simp] theorem wrongPhase_resp (h : HoseId) (k : RequestKind) : (s.wrongPhase h k).resp = s.resp := rfl
@[simp] theorem wrongPhase_levelOfNode (h : HoseId) (k : RequestKind) (j : Node) : (s.wrongPhase h k).levelOfNode j = s.levelOfNode j := by
  simp [State.levelOfNode]
@[simp] theorem wrongPhase_power (h : HoseId) (k : RequestKind) : (s.wrongPhase h k).power = s.power := rfl
@[simp] theorem wrongPhase_pending (h : HoseId) (k : RequestKind) : (s.wrongPhase h k).pending = s.pending := rfl
@[simp] theorem wrongPhase_draws (h : HoseId) (k : RequestKind) : (s.wrongPhase h k).draws = s.draws := rfl

/-! ### holdRequest -/

@[simp] theorem holdRequest_table (h : HoseId) : (s.holdRequest h).table = s.table := by
  unfold State.holdRequest; split <;> simp
@[simp] theorem holdRequest_entry (h : HoseId) (j : EntryId) : (s.holdRequest h).entry j = s.entry j := by
  simp [State.entry]
@[simp] theorem holdRequest_siteStop (h : HoseId) : (s.holdRequest h).siteStop = s.siteStop := by
  unfold State.holdRequest; split <;> simp
@[simp] theorem holdRequest_betas (h : HoseId) : (s.holdRequest h).betas = s.betas := by
  unfold State.holdRequest; split <;> simp
@[simp] theorem holdRequest_calCounter (h : HoseId) : (s.holdRequest h).calCounter = s.calCounter := by
  unfold State.holdRequest; split <;> simp
@[simp] theorem holdRequest_comps (h : HoseId) : (s.holdRequest h).comps = s.comps := by
  unfold State.holdRequest; split <;> simp
@[simp] theorem holdRequest_comp (h : HoseId) (j : CompId) : (s.holdRequest h).comp j = s.comp j := by
  simp [State.comp]
@[simp] theorem holdRequest_billing (h : HoseId) : (s.holdRequest h).billing = s.billing := by
  unfold State.holdRequest; split <;> simp
@[simp] theorem holdRequest_att (h : HoseId) : (s.holdRequest h).att = s.att := by
  unfold State.holdRequest; split <;> simp
@[simp] theorem holdRequest_screen (h : HoseId) : (s.holdRequest h).screen = s.screen := by
  unfold State.holdRequest; split <;> simp
@[simp] theorem holdRequest_resp (h : HoseId) : (s.holdRequest h).resp = s.resp := by
  unfold State.holdRequest; split <;> simp
@[simp] theorem holdRequest_levelOfNode (h : HoseId) (j : Node) : (s.holdRequest h).levelOfNode j = s.levelOfNode j := by
  simp [State.levelOfNode]
@[simp] theorem holdRequest_power (h : HoseId) : (s.holdRequest h).power = s.power := by
  unfold State.holdRequest; split <;> simp
@[simp] theorem holdRequest_pending (h : HoseId) : (s.holdRequest h).pending = s.pending := by
  unfold State.holdRequest; split <;> simp
@[simp] theorem holdRequest_draws (h : HoseId) : (s.holdRequest h).draws = s.draws := by
  unfold State.holdRequest; split <;> simp

/-! ### stopRequest -/

@[simp] theorem stopRequest_siteStop (h : HoseId) : (s.stopRequest h).siteStop = s.siteStop := by
  unfold State.stopRequest; split <;> simp
@[simp] theorem stopRequest_betas (h : HoseId) : (s.stopRequest h).betas = s.betas := by
  unfold State.stopRequest; split <;> simp
@[simp] theorem stopRequest_calCounter (h : HoseId) : (s.stopRequest h).calCounter = s.calCounter := by
  unfold State.stopRequest; split <;> simp
@[simp] theorem stopRequest_att (h : HoseId) : (s.stopRequest h).att = s.att := by
  unfold State.stopRequest; split <;> simp
@[simp] theorem stopRequest_screen (h : HoseId) : (s.stopRequest h).screen = s.screen := by
  unfold State.stopRequest; split <;> simp
@[simp] theorem stopRequest_resp (h : HoseId) : (s.stopRequest h).resp = s.resp := by
  unfold State.stopRequest; split <;> simp
@[simp] theorem stopRequest_levelOfNode (h : HoseId) (j : Node) : (s.stopRequest h).levelOfNode j = s.levelOfNode j := by
  simp [State.levelOfNode]
@[simp] theorem stopRequest_power (h : HoseId) : (s.stopRequest h).power = s.power := by
  unfold State.stopRequest; split <;> simp
@[simp] theorem stopRequest_pending (h : HoseId) : (s.stopRequest h).pending = s.pending := by
  unfold State.stopRequest; split <;> simp
@[simp] theorem stopRequest_draws (h : HoseId) : (s.stopRequest h).draws = s.draws := by
  unfold State.stopRequest; split <;> simp

/-! ### postRequest -/

@[simp] theorem postRequest_table (h : HoseId) : (s.postRequest h).table = s.table := by
  unfold State.postRequest; split <;> simp
@[simp] theorem postRequest_entry (h : HoseId) (j : EntryId) : (s.postRequest h).entry j = s.entry j := by
  simp [State.entry]
@[simp] theorem postRequest_siteStop (h : HoseId) : (s.postRequest h).siteStop = s.siteStop := by
  unfold State.postRequest; split <;> simp
@[simp] theorem postRequest_betas (h : HoseId) : (s.postRequest h).betas = s.betas := by
  unfold State.postRequest; split <;> simp
@[simp] theorem postRequest_calCounter (h : HoseId) : (s.postRequest h).calCounter = s.calCounter := by
  unfold State.postRequest; split <;> simp
@[simp] theorem postRequest_comps (h : HoseId) : (s.postRequest h).comps = s.comps := by
  unfold State.postRequest; split <;> simp
@[simp] theorem postRequest_comp (h : HoseId) (j : CompId) : (s.postRequest h).comp j = s.comp j := by
  simp [State.comp]
@[simp] theorem postRequest_att (h : HoseId) : (s.postRequest h).att = s.att := by
  unfold State.postRequest; split <;> simp
@[simp] theorem postRequest_field (h : HoseId) : (s.postRequest h).field = s.field := by
  unfold State.postRequest; split <;> simp
@[simp] theorem postRequest_screen (h : HoseId) : (s.postRequest h).screen = s.screen := by
  unfold State.postRequest; split <;> simp
@[simp] theorem postRequest_resp (h : HoseId) : (s.postRequest h).resp = s.resp := by
  unfold State.postRequest; split <;> simp
@[simp] theorem postRequest_levelOfNode (h : HoseId) (j : Node) : (s.postRequest h).levelOfNode j = s.levelOfNode j := by
  simp [State.levelOfNode]
@[simp] theorem postRequest_power (h : HoseId) : (s.postRequest h).power = s.power := by
  unfold State.postRequest; split <;> simp
@[simp] theorem postRequest_pending (h : HoseId) : (s.postRequest h).pending = s.pending := by
  unfold State.postRequest; split <;> simp
@[simp] theorem postRequest_draws (h : HoseId) : (s.postRequest h).draws = s.draws := by
  unfold State.postRequest; split <;> simp

/-! ### resumeFlow -/

@[simp] theorem resumeFlow_table (h : HoseId) (p : Phase) : (s.resumeFlow h p).table = s.table := by
  simp [State.resumeFlow]
@[simp] theorem resumeFlow_entry (h : HoseId) (p : Phase) (j : EntryId) : (s.resumeFlow h p).entry j = s.entry j := by
  simp [State.entry]
@[simp] theorem resumeFlow_siteStop (h : HoseId) (p : Phase) : (s.resumeFlow h p).siteStop = s.siteStop := by
  simp [State.resumeFlow]
@[simp] theorem resumeFlow_betas (h : HoseId) (p : Phase) : (s.resumeFlow h p).betas = s.betas := by
  simp [State.resumeFlow]
@[simp] theorem resumeFlow_calCounter (h : HoseId) (p : Phase) : (s.resumeFlow h p).calCounter = s.calCounter := by
  simp [State.resumeFlow]
@[simp] theorem resumeFlow_comps (h : HoseId) (p : Phase) : (s.resumeFlow h p).comps = s.comps := by
  simp [State.resumeFlow]
@[simp] theorem resumeFlow_comp (h : HoseId) (p : Phase) (j : CompId) : (s.resumeFlow h p).comp j = s.comp j := by
  simp [State.comp]
@[simp] theorem resumeFlow_billing (h : HoseId) (p : Phase) : (s.resumeFlow h p).billing = s.billing := by
  simp [State.resumeFlow]
@[simp] theorem resumeFlow_att (h : HoseId) (p : Phase) : (s.resumeFlow h p).att = s.att := by
  simp [State.resumeFlow]
@[simp] theorem resumeFlow_screen (h : HoseId) (p : Phase) : (s.resumeFlow h p).screen = s.screen := by
  simp [State.resumeFlow]
@[simp] theorem resumeFlow_resp (h : HoseId) (p : Phase) : (s.resumeFlow h p).resp = s.resp := by
  simp [State.resumeFlow]
@[simp] theorem resumeFlow_levelOfNode (h : HoseId) (p : Phase) (j : Node) : (s.resumeFlow h p).levelOfNode j = s.levelOfNode j := by
  simp [State.levelOfNode]
@[simp] theorem resumeFlow_power (h : HoseId) (p : Phase) : (s.resumeFlow h p).power = s.power := by
  simp [State.resumeFlow]
@[simp] theorem resumeFlow_pending (h : HoseId) (p : Phase) : (s.resumeFlow h p).pending = s.pending := by
  simp [State.resumeFlow]
@[simp] theorem resumeFlow_draws (h : HoseId) (p : Phase) : (s.resumeFlow h p).draws = s.draws := by
  simp [State.resumeFlow]

/-! ### resumeRequest -/

@[simp] theorem resumeRequest_table (l : Level) (h : HoseId) : (s.resumeRequest l h).table = s.table := by
  unfold State.resumeRequest; (repeat' split) <;> simp
@[simp] theorem resumeRequest_entry (l : Level) (h : HoseId) (j : EntryId) : (s.resumeRequest l h).entry j = s.entry j := by
  simp [State.entry]
@[simp] theorem resumeRequest_siteStop (l : Level) (h : HoseId) : (s.resumeRequest l h).siteStop = s.siteStop := by
  unfold State.resumeRequest; (repeat' split) <;> simp
@[simp] theorem resumeRequest_betas (l : Level) (h : HoseId) : (s.resumeRequest l h).betas = s.betas := by
  unfold State.resumeRequest; (repeat' split) <;> simp
@[simp] theorem resumeRequest_calCounter (l : Level) (h : HoseId) : (s.resumeRequest l h).calCounter = s.calCounter := by
  unfold State.resumeRequest; (repeat' split) <;> simp
@[simp] theorem resumeRequest_comps (l : Level) (h : HoseId) : (s.resumeRequest l h).comps = s.comps := by
  unfold State.resumeRequest; (repeat' split) <;> simp
@[simp] theorem resumeRequest_comp (l : Level) (h : HoseId) (j : CompId) : (s.resumeRequest l h).comp j = s.comp j := by
  simp [State.comp]
@[simp] theorem resumeRequest_billing (l : Level) (h : HoseId) : (s.resumeRequest l h).billing = s.billing := by
  unfold State.resumeRequest; (repeat' split) <;> simp
@[simp] theorem resumeRequest_att (l : Level) (h : HoseId) : (s.resumeRequest l h).att = s.att := by
  unfold State.resumeRequest; (repeat' split) <;> simp
@[simp] theorem resumeRequest_screen (l : Level) (h : HoseId) : (s.resumeRequest l h).screen = s.screen := by
  unfold State.resumeRequest; (repeat' split) <;> simp
@[simp] theorem resumeRequest_resp (l : Level) (h : HoseId) : (s.resumeRequest l h).resp = s.resp := by
  unfold State.resumeRequest; (repeat' split) <;> simp
@[simp] theorem resumeRequest_levelOfNode (l : Level) (h : HoseId) (j : Node) : (s.resumeRequest l h).levelOfNode j = s.levelOfNode j := by
  simp [State.levelOfNode]
@[simp] theorem resumeRequest_power (l : Level) (h : HoseId) : (s.resumeRequest l h).power = s.power := by
  unfold State.resumeRequest; (repeat' split) <;> simp
@[simp] theorem resumeRequest_pending (l : Level) (h : HoseId) : (s.resumeRequest l h).pending = s.pending := by
  unfold State.resumeRequest; (repeat' split) <;> simp
@[simp] theorem resumeRequest_draws (l : Level) (h : HoseId) : (s.resumeRequest l h).draws = s.draws := by
  unfold State.resumeRequest; (repeat' split) <;> simp

/-! ### siteStopHose -/

@[simp] theorem siteStopHose_table (h : HoseId) : (s.siteStopHose h).table = s.table := by
  unfold State.siteStopHose; (repeat' split) <;> simp
@[simp] theorem siteStopHose_entry (h : HoseId) (j : EntryId) : (s.siteStopHose h).entry j = s.entry j := by
  simp [State.entry]
@[simp] theorem siteStopHose_siteStop (h : HoseId) : (s.siteStopHose h).siteStop = s.siteStop := by
  unfold State.siteStopHose; (repeat' split) <;> simp
@[simp] theorem siteStopHose_betas (h : HoseId) : (s.siteStopHose h).betas = s.betas := by
  unfold State.siteStopHose; (repeat' split) <;> simp
@[simp] theorem siteStopHose_calCounter (h : HoseId) : (s.siteStopHose h).calCounter = s.calCounter := by
  unfold State.siteStopHose; (repeat' split) <;> simp
@[simp] theorem siteStopHose_comps (h : HoseId) : (s.siteStopHose h).comps = s.comps := by
  unfold State.siteStopHose; (repeat' split) <;> simp
@[simp] theorem siteStopHose_comp (h : HoseId) (j : CompId) : (s.siteStopHose h).comp j = s.comp j := by
  simp [State.comp]
@[simp] theorem siteStopHose_billing (h : HoseId) : (s.siteStopHose h).billing = s.billing := by
  unfold State.siteStopHose; (repeat' split) <;> simp
@[simp] theorem siteStopHose_att (h : HoseId) : (s.siteStopHose h).att = s.att := by
  unfold State.siteStopHose; (repeat' split) <;> simp
@[simp] theorem siteStopHose_screen (h : HoseId) : (s.siteStopHose h).screen = s.screen := by
  unfold State.siteStopHose; (repeat' split) <;> simp
@[simp] theorem siteStopHose_resp (h : HoseId) : (s.siteStopHose h).resp = s.resp := by
  unfold State.siteStopHose; (repeat' split) <;> simp
@[simp] theorem siteStopHose_levelOfNode (h : HoseId) (j : Node) : (s.siteStopHose h).levelOfNode j = s.levelOfNode j := by
  simp [State.levelOfNode]
@[simp] theorem siteStopHose_power (h : HoseId) : (s.siteStopHose h).power = s.power := by
  unfold State.siteStopHose; (repeat' split) <;> simp
@[simp] theorem siteStopHose_pending (h : HoseId) : (s.siteStopHose h).pending = s.pending := by
  unfold State.siteStopHose; (repeat' split) <;> simp
@[simp] theorem siteStopHose_draws (h : HoseId) : (s.siteStopHose h).draws = s.draws := by
  unfold State.siteStopHose; (repeat' split) <;> simp

end Sys2Proof.Machine.State
end

