-- ==== Sys2Proof/Laws/ActFrames.lean ====
section
/-! SUPPORT. What each owner's rule can change,
      said once: the state it leaves is the state it met but for the fields the
lemma names. -/

namespace Sys2Proof.Machine.State

/-- A fold keeps what each of its steps keeps. -/
theorem foldl_frame {α β γ : Type} (F : α → γ) (f : α → β → α) (h : ∀ a b, F (f a b) = F a) (l : List β) (a : α) :
    F (l.foldl f a) = F a := by
  induction l generalizing a with
  | nil => rfl
  | cons b l ih => exact (ih _).trans (h a b)

variable (s : State)

@[simp] theorem linkNew_hoses (l : Loaded) (i : EntryId) (r : List EntryId) : (s.linkNew l i r).hoses = s.hoses := rfl
@[simp] theorem linkNew_hose (l : Loaded) (i : EntryId) (r : List EntryId) (j : HoseId) : (s.linkNew l i r).hose j = s.hose j := by
  simp [State.hose]
@[simp] theorem linkNew_siteStop (l : Loaded) (i : EntryId) (r : List EntryId) : (s.linkNew l i r).siteStop = s.siteStop := rfl
@[simp] theorem linkNew_betas (l : Loaded) (i : EntryId) (r : List EntryId) : (s.linkNew l i r).betas = s.betas := rfl
@[simp] theorem linkNew_calCounter (l : Loaded) (i : EntryId) (r : List EntryId) : (s.linkNew l i r).calCounter = s.calCounter := rfl
@[simp] theorem linkNew_comps (l : Loaded) (i : EntryId) (r : List EntryId) : (s.linkNew l i r).comps = s.comps := rfl
@[simp] theorem linkNew_comp (l : Loaded) (i : EntryId) (r : List EntryId) (j : CompId) : (s.linkNew l i r).comp j = s.comp j := by
  simp [State.comp]
@[simp] theorem linkNew_billing (l : Loaded) (i : EntryId) (r : List EntryId) : (s.linkNew l i r).billing = s.billing := rfl
@[simp] theorem linkNew_att (l : Loaded) (i : EntryId) (r : List EntryId) : (s.linkNew l i r).att = s.att := rfl
@[simp] theorem linkNew_field (l : Loaded) (i : EntryId) (r : List EntryId) : (s.linkNew l i r).field = s.field := rfl
@[simp] theorem linkNew_cab (l : Loaded) (i : EntryId) (r : List EntryId) : (s.linkNew l i r).cab = s.cab := rfl
@[simp] theorem linkNew_screen (l : Loaded) (i : EntryId) (r : List EntryId) : (s.linkNew l i r).screen = s.screen := rfl
@[simp] theorem linkNew_resp (l : Loaded) (i : EntryId) (r : List EntryId) : (s.linkNew l i r).resp = s.resp := rfl
@[simp] theorem linkNew_levelOfNode (l : Loaded) (i : EntryId) (r : List EntryId) (j : Node) : (s.linkNew l i r).levelOfNode j = s.levelOfNode j := by
  simp [State.levelOfNode]
@[simp] theorem linkNew_power (l : Loaded) (i : EntryId) (r : List EntryId) : (s.linkNew l i r).power = s.power := rfl
@[simp] theorem linkNew_pending (l : Loaded) (i : EntryId) (r : List EntryId) : (s.linkNew l i r).pending = s.pending := rfl
@[simp] theorem linkNew_draws (l : Loaded) (i : EntryId) (r : List EntryId) : (s.linkNew l i r).draws = s.draws := rfl

theorem cmdLoadMachine_fst_only (m : MachineForm) :
    (s.cmdLoadMachine m).1 = { s with
      table := (s.cmdLoadMachine m).1.table, att := (s.cmdLoadMachine m).1.att,
      cab := (s.cmdLoadMachine m).1.cab } := by
  ext1 <;> first | with_reducible rfl | (unfold State.cmdLoadMachine; try dsimp only; (repeat' split) <;> simp)

theorem cmdDeleteMachine_fst_only (t : TagId) :
    (s.cmdDeleteMachine t).1 = { s with
      table := (s.cmdDeleteMachine t).1.table, att := (s.cmdDeleteMachine t).1.att,
      cab := (s.cmdDeleteMachine t).1.cab } := by
  ext1 <;> first | with_reducible rfl | (unfold State.cmdDeleteMachine; try dsimp only; (repeat' split) <;> simp)

theorem cmdReadByTag_fst_only (t : TagId) :
    (s.cmdReadByTag t).1 = { s with
      table := (s.cmdReadByTag t).1.table, att := (s.cmdReadByTag t).1.att, cab := (s.cmdReadByTag t).1.cab } := by
  ext1 <;> first | with_reducible rfl | (unfold State.cmdReadByTag; try dsimp only; (repeat' split) <;> simp)

@[simp] theorem refillAll_hoses (l : List EntryId) : (s.refillAll l).hoses = s.hoses := rfl
@[simp] theorem refillAll_hose (l : List EntryId) (j : HoseId) : (s.refillAll l).hose j = s.hose j := by
  simp [State.hose]
@[simp] theorem refillAll_siteStop (l : List EntryId) : (s.refillAll l).siteStop = s.siteStop := rfl
@[simp] theorem refillAll_betas (l : List EntryId) : (s.refillAll l).betas = s.betas := rfl
@[simp] theorem refillAll_calCounter (l : List EntryId) : (s.refillAll l).calCounter = s.calCounter := rfl
@[simp] theorem refillAll_comps (l : List EntryId) : (s.refillAll l).comps = s.comps := rfl
@[simp] theorem refillAll_comp (l : List EntryId) (j : CompId) : (s.refillAll l).comp j = s.comp j := by
  simp [State.comp]
@[simp] theorem refillAll_billing (l : List EntryId) : (s.refillAll l).billing = s.billing := rfl
@[simp] theorem refillAll_att (l : List EntryId) : (s.refillAll l).att = s.att := rfl
@[simp] theorem refillAll_field (l : List EntryId) : (s.refillAll l).field = s.field := rfl
@[simp] theorem refillAll_cab (l : List EntryId) : (s.refillAll l).cab = s.cab := rfl
@[simp] theorem refillAll_screen (l : List EntryId) : (s.refillAll l).screen = s.screen := rfl
@[simp] theorem refillAll_resp (l : List EntryId) : (s.refillAll l).resp = s.resp := rfl
@[simp] theorem refillAll_levelOfNode (l : List EntryId) (j : Node) : (s.refillAll l).levelOfNode j = s.levelOfNode j := by
  simp [State.levelOfNode]
@[simp] theorem refillAll_power (l : List EntryId) : (s.refillAll l).power = s.power := rfl
@[simp] theorem refillAll_pending (l : List EntryId) : (s.refillAll l).pending = s.pending := rfl
@[simp] theorem refillAll_draws (l : List EntryId) : (s.refillAll l).draws = s.draws := rfl

theorem cmdReadByIndex_fst_only (i : Half) :
    (s.cmdReadByIndex i).1 = { s with table := (s.cmdReadByIndex i).1.table } := by
  ext1 <;> first | with_reducible rfl | (unfold State.cmdReadByIndex; try dsimp only; split <;> simp)

theorem cmdSetAllowance_fst_only (t : TagId) (v : Word) :
    (s.cmdSetAllowance t v).1 = { s with
      table := (s.cmdSetAllowance t v).1.table, att := (s.cmdSetAllowance t v).1.att,
      cab := (s.cmdSetAllowance t v).1.cab } := by
  ext1 <;> first | with_reducible rfl | (unfold State.cmdSetAllowance; try dsimp only; (repeat' split) <;> simp)

theorem cmdClearStrikes_fst_only (t : TagId) :
    (s.cmdClearStrikes t).1 = { s with
      table := (s.cmdClearStrikes t).1.table, att := (s.cmdClearStrikes t).1.att,
      cab := (s.cmdClearStrikes t).1.cab } := by
  ext1 <;> first | with_reducible rfl | (unfold State.cmdClearStrikes; try dsimp only; (repeat' split) <;> simp)

theorem cmdOpenPeriod_fst_only :
    (s.cmdOpenPeriod).1 = { s with table := (s.cmdOpenPeriod).1.table } := rfl

theorem cmdSweep_fst_only (n : Node) :
    (s.cmdSweep n).1 = { s with resp := (s.cmdSweep n).1.resp } := rfl

@[simp] theorem sweepFree_hoses (m : SweepWork) : (s.sweepFree m).hoses = s.hoses := rfl
@[simp] theorem sweepFree_hose (m : SweepWork) (j : HoseId) : (s.sweepFree m).hose j = s.hose j := by
  simp [State.hose]
@[simp] theorem sweepFree_siteStop (m : SweepWork) : (s.sweepFree m).siteStop = s.siteStop := rfl
@[simp] theorem sweepFree_betas (m : SweepWork) : (s.sweepFree m).betas = s.betas := rfl
@[simp] theorem sweepFree_calCounter (m : SweepWork) : (s.sweepFree m).calCounter = s.calCounter := rfl
@[simp] theorem sweepFree_comps (m : SweepWork) : (s.sweepFree m).comps = s.comps := rfl
@[simp] theorem sweepFree_comp (m : SweepWork) (j : CompId) : (s.sweepFree m).comp j = s.comp j := by
  simp [State.comp]
@[simp] theorem sweepFree_billing (m : SweepWork) : (s.sweepFree m).billing = s.billing := rfl
@[simp] theorem sweepFree_att (m : SweepWork) : (s.sweepFree m).att = s.att := rfl
@[simp] theorem sweepFree_field (m : SweepWork) : (s.sweepFree m).field = s.field := rfl
@[simp] theorem sweepFree_cab (m : SweepWork) : (s.sweepFree m).cab = s.cab := rfl
@[simp] theorem sweepFree_screen (m : SweepWork) : (s.sweepFree m).screen = s.screen := rfl
@[simp] theorem sweepFree_resp (m : SweepWork) : (s.sweepFree m).resp = s.resp := rfl
@[simp] theorem sweepFree_levelOfNode (m : SweepWork) (j : Node) : (s.sweepFree m).levelOfNode j = s.levelOfNode j := by
  simp [State.levelOfNode]
@[simp] theorem sweepFree_power (m : SweepWork) : (s.sweepFree m).power = s.power := rfl
@[simp] theorem sweepFree_pending (m : SweepWork) : (s.sweepFree m).pending = s.pending := rfl
@[simp] theorem sweepFree_draws (m : SweepWork) : (s.sweepFree m).draws = s.draws := rfl

/-! A SWEEP's moments change the table, and by a fault's TABLE_FAULT the Attention Unit and the cab port. -/

theorem markBucket_snd_only (b : Bucket) (w : SweepWork) :
    (State.markBucket b (w, s)).2 = { s with
      table := (State.markBucket b (w, s)).2.table, att := (State.markBucket b (w, s)).2.att,
      cab := (State.markBucket b (w, s)).2.cab } := by
  ext1 <;> first | with_reducible rfl | (simp [State.markBucket])

theorem examineEntry_snd_only (i : EntryId) (w : SweepWork) :
    (State.examineEntry i (w, s)).2 = { s with table := (State.examineEntry i (w, s)).2.table } := by
  ext1 <;> first | with_reducible rfl | (unfold State.examineEntry; dsimp only; split <;> rfl)

theorem sweepMoment_snd_only (w : SweepWork) :
    (State.sweepMoment (w, s)).2 = { s with
      table := (State.sweepMoment (w, s)).2.table, att := (State.sweepMoment (w, s)).2.att,
      cab := (State.sweepMoment (w, s)).2.cab } := by
  unfold State.sweepMoment
  dsimp only
  split
  · exact markBucket_snd_only s _ w
  · split
    · rfl
    · split
      · next n i _ => rw [examineEntry_snd_only s i w]
      · rfl

/-- A fold of steps that change the table, the Attention Unit and the cab port alone changes no more. -/
theorem sweepMark_snd_only (w : SweepWork) :
    (State.sweepMark (w, s)).2 = { s with
      table := (State.sweepMark (w, s)).2.table, att := (State.sweepMark (w, s)).2.att,
      cab := (State.sweepMark (w, s)).2.cab } := by
  unfold State.sweepMark
  generalize (ids 64).filter _ = l
  induction l generalizing s w with
  | nil => rfl
  | cons b l ih =>
    have := ih (State.markBucket b (w, s)).2 (State.markBucket b (w, s)).1
    simp only [List.foldl_cons]
    rw [this, markBucket_snd_only s b w]

/-- What time brings a SWEEP: nothing but the table, a cause with its frame, and the SWEEP's own progress. -/
theorem sweepTick_only :
    s.sweepTick = { s with
      table := s.sweepTick.table, att := s.sweepTick.att, cab := s.sweepTick.cab, resp := s.sweepTick.resp } := by
  unfold State.sweepTick
  dsimp only
  split
  · next node w _ _ => rw [sweepMoment_snd_only s w]; rfl
  · rfl

/-- And of the responder only what is in flight. -/
theorem sweepTick_resp : s.sweepTick.resp = { s.resp with inFlight := s.sweepTick.resp.inFlight } := by
  unfold State.sweepTick
  dsimp only
  split
  · next node w _ _ => rw [sweepMoment_snd_only s w]; rfl
  · rfl

theorem cmdLoadCalibration_fst_only (h : Byte) (f : CalForm) :
    (s.cmdLoadCalibration h f).1 = { s with
      hoses := (s.cmdLoadCalibration h f).1.hoses, calCounter := (s.cmdLoadCalibration h f).1.calCounter } := by
  ext1 <;> first | with_reducible rfl | (unfold State.cmdLoadCalibration; try dsimp only; (repeat' split) <;> simp)

theorem cmdLoadGrade_fst_only (g : Byte) (b : Half) :
    (s.cmdLoadGrade g b).1 = { s with
      betas := (s.cmdLoadGrade g b).1.betas, calCounter := (s.cmdLoadGrade g b).1.calCounter } := by
  ext1 <;> first | with_reducible rfl | (unfold State.cmdLoadGrade; try dsimp only; (repeat' split) <;> simp)

theorem cmdLoadTariff_fst_only (p : PriceForm) :
    (s.cmdLoadTariff p).1 = { s with billing := (s.cmdLoadTariff p).1.billing } := by
  ext1 <;> first | with_reducible rfl | (unfold State.cmdLoadTariff; (repeat' split) <;> simp)

theorem cmdLoadClassRate_fst_only (c : Byte) (f : Half) :
    (s.cmdLoadClassRate c f).1 = { s with billing := (s.cmdLoadClassRate c f).1.billing } := by
  ext1 <;> first | with_reducible rfl | (unfold State.cmdLoadClassRate; (repeat' split) <;> simp)

@[simp] theorem cmdReadLog_fst_only (q : Word) : (s.cmdReadLog q).1 = s := rfl

theorem cmdReleaseLog_fst_only (q : Word) :
    (s.cmdReleaseLog q).1 = { s with billing := (s.cmdReleaseLog q).1.billing } := by
  ext1 <;> first | with_reducible rfl | (unfold State.cmdReleaseLog; try dsimp only; (repeat' split) <;> simp)

theorem cmdReadCentres_fst_only (z o : Byte) :
    (s.cmdReadCentres z o).1 = { s with billing := (s.cmdReadCentres z o).1.billing } := by
  ext1 <;> first | with_reducible rfl | (unfold State.cmdReadCentres; try dsimp only; (repeat' split) <;> simp)

theorem cmdClearCentres_fst_only (z : Byte) :
    (s.cmdClearCentres z).1 = { s with billing := (s.cmdClearCentres z).1.billing } := by
  ext1 <;> first | with_reducible rfl | (unfold State.cmdClearCentres; (repeat' split) <;> simp)

@[simp] theorem stopAll_table (l : List HoseId) : (l.foldl (fun u h => siteStopHose h u) s).table = s.table := foldl_frame (fun u : State => u.table) (fun u h => siteStopHose h u) (fun _ _ => by simp) l s
@[simp] theorem stopAll_entry (l : List HoseId) (j : EntryId) : (l.foldl (fun u h => siteStopHose h u) s).entry j = s.entry j := by
  simp [State.entry]
@[simp] theorem stopAll_siteStop (l : List HoseId) : (l.foldl (fun u h => siteStopHose h u) s).siteStop = s.siteStop := foldl_frame (fun u : State => u.siteStop) (fun u h => siteStopHose h u) (fun _ _ => by simp) l s
@[simp] theorem stopAll_betas (l : List HoseId) : (l.foldl (fun u h => siteStopHose h u) s).betas = s.betas := foldl_frame (fun u : State => u.betas) (fun u h => siteStopHose h u) (fun _ _ => by simp) l s
@[simp] theorem stopAll_calCounter (l : List HoseId) : (l.foldl (fun u h => siteStopHose h u) s).calCounter = s.calCounter := foldl_frame (fun u : State => u.calCounter) (fun u h => siteStopHose h u) (fun _ _ => by simp) l s
@[simp] theorem stopAll_comps (l : List HoseId) : (l.foldl (fun u h => siteStopHose h u) s).comps = s.comps := foldl_frame (fun u : State => u.comps) (fun u h => siteStopHose h u) (fun _ _ => by simp) l s
@[simp] theorem stopAll_comp (l : List HoseId) (j : CompId) : (l.foldl (fun u h => siteStopHose h u) s).comp j = s.comp j := by
  simp [State.comp]
@[simp] theorem stopAll_billing (l : List HoseId) : (l.foldl (fun u h => siteStopHose h u) s).billing = s.billing := foldl_frame (fun u : State => u.billing) (fun u h => siteStopHose h u) (fun _ _ => by simp) l s
@[simp] theorem stopAll_att (l : List HoseId) : (l.foldl (fun u h => siteStopHose h u) s).att = s.att := foldl_frame (fun u : State => u.att) (fun u h => siteStopHose h u) (fun _ _ => by simp) l s
@[simp] theorem stopAll_screen (l : List HoseId) : (l.foldl (fun u h => siteStopHose h u) s).screen = s.screen := foldl_frame (fun u : State => u.screen) (fun u h => siteStopHose h u) (fun _ _ => by simp) l s
@[simp] theorem stopAll_resp (l : List HoseId) : (l.foldl (fun u h => siteStopHose h u) s).resp = s.resp := foldl_frame (fun u : State => u.resp) (fun u h => siteStopHose h u) (fun _ _ => by simp) l s
@[simp] theorem stopAll_levelOfNode (l : List HoseId) (j : Node) : (l.foldl (fun u h => siteStopHose h u) s).levelOfNode j = s.levelOfNode j := by
  simp [State.levelOfNode]
@[simp] theorem stopAll_power (l : List HoseId) : (l.foldl (fun u h => siteStopHose h u) s).power = s.power := foldl_frame (fun u : State => u.power) (fun u h => siteStopHose h u) (fun _ _ => by simp) l s
@[simp] theorem stopAll_pending (l : List HoseId) : (l.foldl (fun u h => siteStopHose h u) s).pending = s.pending := foldl_frame (fun u : State => u.pending) (fun u h => siteStopHose h u) (fun _ _ => by simp) l s
@[simp] theorem stopAll_draws (l : List HoseId) : (l.foldl (fun u h => siteStopHose h u) s).draws = s.draws := foldl_frame (fun u : State => u.draws) (fun u h => siteStopHose h u) (fun _ _ => by simp) l s

@[simp] theorem stopSite_table : (s.stopSite).table = s.table := by
  unfold State.stopSite; split <;> simp
@[simp] theorem stopSite_entry (j : EntryId) : (s.stopSite).entry j = s.entry j := by
  simp [State.entry]
@[simp] theorem stopSite_betas : (s.stopSite).betas = s.betas := by
  unfold State.stopSite; split <;> simp
@[simp] theorem stopSite_calCounter : (s.stopSite).calCounter = s.calCounter := by
  unfold State.stopSite; split <;> simp
@[simp] theorem stopSite_comps : (s.stopSite).comps = s.comps := by
  unfold State.stopSite; split <;> simp
@[simp] theorem stopSite_comp (j : CompId) : (s.stopSite).comp j = s.comp j := by
  simp [State.comp]
@[simp] theorem stopSite_billing : (s.stopSite).billing = s.billing := by
  unfold State.stopSite; split <;> simp
@[simp] theorem stopSite_att : (s.stopSite).att = s.att := by
  unfold State.stopSite; split <;> simp
@[simp] theorem stopSite_screen : (s.stopSite).screen = s.screen := by
  unfold State.stopSite; split <;> simp
@[simp] theorem stopSite_resp : (s.stopSite).resp = s.resp := by
  unfold State.stopSite; split <;> simp
@[simp] theorem stopSite_levelOfNode (j : Node) : (s.stopSite).levelOfNode j = s.levelOfNode j := by
  simp [State.levelOfNode]
@[simp] theorem stopSite_power : (s.stopSite).power = s.power := by
  unfold State.stopSite; split <;> simp
@[simp] theorem stopSite_pending : (s.stopSite).pending = s.pending := by
  unfold State.stopSite; split <;> simp
@[simp] theorem stopSite_draws : (s.stopSite).draws = s.draws := by
  unfold State.stopSite; split <;> simp

theorem cmdSiteStop_fst_only :
    (s.cmdSiteStop).1 = { s with
      hoses := (s.cmdSiteStop).1.hoses, siteStop := (s.cmdSiteStop).1.siteStop, field := (s.cmdSiteStop).1.field,
      cab := (s.cmdSiteStop).1.cab } := by
  ext1 <;> first | with_reducible rfl | (simp [State.cmdSiteStop])

theorem cmdSiteResume_fst_only :
    (s.cmdSiteResume).1 = { s with siteStop := (s.cmdSiteResume).1.siteStop } := rfl

theorem cmdLoadHoseProfile_fst_only (h : Byte) (f : ProfileForm) :
    (s.cmdLoadHoseProfile h f).1 = { s with
      hoses := (s.cmdLoadHoseProfile h f).1.hoses, cab := (s.cmdLoadHoseProfile h f).1.cab } := by
  ext1 <;> first | with_reducible rfl | (unfold State.cmdLoadHoseProfile; try dsimp only; (repeat' split) <;> simp)

@[simp] theorem applyStrike_hoses (o : StrikeOp) (i : EntryId) : (s.applyStrike o i).hoses = s.hoses := by
  unfold State.applyStrike; dsimp only; split <;> simp
@[simp] theorem applyStrike_hose (o : StrikeOp) (i : EntryId) (j : HoseId) : (s.applyStrike o i).hose j = s.hose j := by
  simp [State.hose]
@[simp] theorem applyStrike_siteStop (o : StrikeOp) (i : EntryId) : (s.applyStrike o i).siteStop = s.siteStop := by
  unfold State.applyStrike; dsimp only; split <;> simp
@[simp] theorem applyStrike_betas (o : StrikeOp) (i : EntryId) : (s.applyStrike o i).betas = s.betas := by
  unfold State.applyStrike; dsimp only; split <;> simp
@[simp] theorem applyStrike_calCounter (o : StrikeOp) (i : EntryId) : (s.applyStrike o i).calCounter = s.calCounter := by
  unfold State.applyStrike; dsimp only; split <;> simp
@[simp] theorem applyStrike_comps (o : StrikeOp) (i : EntryId) : (s.applyStrike o i).comps = s.comps := by
  unfold State.applyStrike; dsimp only; split <;> simp
@[simp] theorem applyStrike_comp (o : StrikeOp) (i : EntryId) (j : CompId) : (s.applyStrike o i).comp j = s.comp j := by
  simp [State.comp]
@[simp] theorem applyStrike_billing (o : StrikeOp) (i : EntryId) : (s.applyStrike o i).billing = s.billing := by
  unfold State.applyStrike; dsimp only; split <;> simp
@[simp] theorem applyStrike_field (o : StrikeOp) (i : EntryId) : (s.applyStrike o i).field = s.field := by
  unfold State.applyStrike; dsimp only; split <;> simp
@[simp] theorem applyStrike_screen (o : StrikeOp) (i : EntryId) : (s.applyStrike o i).screen = s.screen := by
  unfold State.applyStrike; dsimp only; split <;> simp
@[simp] theorem applyStrike_resp (o : StrikeOp) (i : EntryId) : (s.applyStrike o i).resp = s.resp := by
  unfold State.applyStrike; dsimp only; split <;> simp
@[simp] theorem applyStrike_levelOfNode (o : StrikeOp) (i : EntryId) (j : Node) : (s.applyStrike o i).levelOfNode j = s.levelOfNode j := by
  simp [State.levelOfNode]
@[simp] theorem applyStrike_power (o : StrikeOp) (i : EntryId) : (s.applyStrike o i).power = s.power := by
  unfold State.applyStrike; dsimp only; split <;> simp
@[simp] theorem applyStrike_pending (o : StrikeOp) (i : EntryId) : (s.applyStrike o i).pending = s.pending := by
  unfold State.applyStrike; dsimp only; split <;> simp
@[simp] theorem applyStrike_draws (o : StrikeOp) (i : EntryId) : (s.applyStrike o i).draws = s.draws := by
  unfold State.applyStrike; dsimp only; split <;> simp

@[simp] theorem refuseFound_table (h : HoseId) (w : Reason) (t : TagId) (i : EntryId) : (s.refuseFound h w t i).table = s.table := rfl
@[simp] theorem refuseFound_entry (h : HoseId) (w : Reason) (t : TagId) (i : EntryId) (j : EntryId) : (s.refuseFound h w t i).entry j = s.entry j := by
  simp [State.entry]
@[simp] theorem refuseFound_hoses (h : HoseId) (w : Reason) (t : TagId) (i : EntryId) : (s.refuseFound h w t i).hoses = s.hoses := rfl
@[simp] theorem refuseFound_hose (h : HoseId) (w : Reason) (t : TagId) (i : EntryId) (j : HoseId) : (s.refuseFound h w t i).hose j = s.hose j := by
  simp [State.hose]
@[simp] theorem refuseFound_siteStop (h : HoseId) (w : Reason) (t : TagId) (i : EntryId) : (s.refuseFound h w t i).siteStop = s.siteStop := rfl
@[simp] theorem refuseFound_betas (h : HoseId) (w : Reason) (t : TagId) (i : EntryId) : (s.refuseFound h w t i).betas = s.betas := rfl
@[simp] theorem refuseFound_calCounter (h : HoseId) (w : Reason) (t : TagId) (i : EntryId) : (s.refuseFound h w t i).calCounter = s.calCounter := rfl
@[simp] theorem refuseFound_comps (h : HoseId) (w : Reason) (t : TagId) (i : EntryId) : (s.refuseFound h w t i).comps = s.comps := rfl
@[simp] theorem refuseFound_comp (h : HoseId) (w : Reason) (t : TagId) (i : EntryId) (j : CompId) : (s.refuseFound h w t i).comp j = s.comp j := by
  simp [State.comp]
@[simp] theorem refuseFound_billing (h : HoseId) (w : Reason) (t : TagId) (i : EntryId) : (s.refuseFound h w t i).billing = s.billing := rfl
@[simp] theorem refuseFound_att (h : HoseId) (w : Reason) (t : TagId) (i : EntryId) : (s.refuseFound h w t i).att = s.att := rfl
@[simp] theorem refuseFound_field (h : HoseId) (w : Reason) (t : TagId) (i : EntryId) : (s.refuseFound h w t i).field = s.field := rfl
@[simp] theorem refuseFound_screen (h : HoseId) (w : Reason) (t : TagId) (i : EntryId) : (s.refuseFound h w t i).screen = s.screen := rfl
@[simp] theorem refuseFound_resp (h : HoseId) (w : Reason) (t : TagId) (i : EntryId) : (s.refuseFound h w t i).resp = s.resp := rfl
@[simp] theorem refuseFound_levelOfNode (h : HoseId) (w : Reason) (t : TagId) (i : EntryId) (j : Node) : (s.refuseFound h w t i).levelOfNode j = s.levelOfNode j := by
  simp [State.levelOfNode]
@[simp] theorem refuseFound_power (h : HoseId) (w : Reason) (t : TagId) (i : EntryId) : (s.refuseFound h w t i).power = s.power := rfl
@[simp] theorem refuseFound_pending (h : HoseId) (w : Reason) (t : TagId) (i : EntryId) : (s.refuseFound h w t i).pending = s.pending := rfl
@[simp] theorem refuseFound_draws (h : HoseId) (w : Reason) (t : TagId) (i : EntryId) : (s.refuseFound h w t i).draws = s.draws := rfl

@[simp] theorem spaceAndPreset_siteStop (h : HoseId) (p : Profile) (st : Settings) (i : EntryId) (t : TagId) (r : Option Nat) : (s.spaceAndPreset h p st i t r).siteStop = s.siteStop := by
  unfold State.spaceAndPreset; dsimp only; (repeat' split) <;> simp
@[simp] theorem spaceAndPreset_betas (h : HoseId) (p : Profile) (st : Settings) (i : EntryId) (t : TagId) (r : Option Nat) : (s.spaceAndPreset h p st i t r).betas = s.betas := by
  unfold State.spaceAndPreset; dsimp only; (repeat' split) <;> simp
@[simp] theorem spaceAndPreset_calCounter (h : HoseId) (p : Profile) (st : Settings) (i : EntryId) (t : TagId) (r : Option Nat) : (s.spaceAndPreset h p st i t r).calCounter = s.calCounter := by
  unfold State.spaceAndPreset; dsimp only; (repeat' split) <;> simp
@[simp] theorem spaceAndPreset_screen (h : HoseId) (p : Profile) (st : Settings) (i : EntryId) (t : TagId) (r : Option Nat) : (s.spaceAndPreset h p st i t r).screen = s.screen := by
  unfold State.spaceAndPreset; dsimp only; (repeat' split) <;> simp
@[simp] theorem spaceAndPreset_resp (h : HoseId) (p : Profile) (st : Settings) (i : EntryId) (t : TagId) (r : Option Nat) : (s.spaceAndPreset h p st i t r).resp = s.resp := by
  unfold State.spaceAndPreset; dsimp only; (repeat' split) <;> simp
@[simp] theorem spaceAndPreset_levelOfNode (h : HoseId) (p : Profile) (st : Settings) (i : EntryId) (t : TagId) (r : Option Nat) (j : Node) : (s.spaceAndPreset h p st i t r).levelOfNode j = s.levelOfNode j := by
  simp [State.levelOfNode]
@[simp] theorem spaceAndPreset_power (h : HoseId) (p : Profile) (st : Settings) (i : EntryId) (t : TagId) (r : Option Nat) : (s.spaceAndPreset h p st i t r).power = s.power := by
  unfold State.spaceAndPreset; dsimp only; (repeat' split) <;> simp
@[simp] theorem spaceAndPreset_pending (h : HoseId) (p : Profile) (st : Settings) (i : EntryId) (t : TagId) (r : Option Nat) : (s.spaceAndPreset h p st i t r).pending = s.pending := by
  unfold State.spaceAndPreset; dsimp only; (repeat' split) <;> simp
@[simp] theorem spaceAndPreset_draws (h : HoseId) (p : Profile) (st : Settings) (i : EntryId) (t : TagId) (r : Option Nat) : (s.spaceAndPreset h p st i t r).draws = s.draws := by
  unfold State.spaceAndPreset; dsimp only; (repeat' split) <;> simp

@[simp] theorem testsAndStrikes_siteStop (h : HoseId) (p : Profile) (st : Settings) (i : EntryId) (t : TagId) (r : Option Nat) : (s.testsAndStrikes h p st i t r).siteStop = s.siteStop := by
  unfold State.testsAndStrikes; dsimp only; (repeat' split) <;> simp
@[simp] theorem testsAndStrikes_betas (h : HoseId) (p : Profile) (st : Settings) (i : EntryId) (t : TagId) (r : Option Nat) : (s.testsAndStrikes h p st i t r).betas = s.betas := by
  unfold State.testsAndStrikes; dsimp only; (repeat' split) <;> simp
@[simp] theorem testsAndStrikes_calCounter (h : HoseId) (p : Profile) (st : Settings) (i : EntryId) (t : TagId) (r : Option Nat) : (s.testsAndStrikes h p st i t r).calCounter = s.calCounter := by
  unfold State.testsAndStrikes; dsimp only; (repeat' split) <;> simp
@[simp] theorem testsAndStrikes_screen (h : HoseId) (p : Profile) (st : Settings) (i : EntryId) (t : TagId) (r : Option Nat) : (s.testsAndStrikes h p st i t r).screen = s.screen := by
  unfold State.testsAndStrikes; dsimp only; (repeat' split) <;> simp
@[simp] theorem testsAndStrikes_resp (h : HoseId) (p : Profile) (st : Settings) (i : EntryId) (t : TagId) (r : Option Nat) : (s.testsAndStrikes h p st i t r).resp = s.resp := by
  unfold State.testsAndStrikes; dsimp only; (repeat' split) <;> simp
@[simp] theorem testsAndStrikes_levelOfNode (h : HoseId) (p : Profile) (st : Settings) (i : EntryId) (t : TagId) (r : Option Nat) (j : Node) : (s.testsAndStrikes h p st i t r).levelOfNode j = s.levelOfNode j := by
  simp [State.levelOfNode]
@[simp] theorem testsAndStrikes_power (h : HoseId) (p : Profile) (st : Settings) (i : EntryId) (t : TagId) (r : Option Nat) : (s.testsAndStrikes h p st i t r).power = s.power := by
  unfold State.testsAndStrikes; dsimp only; (repeat' split) <;> simp
@[simp] theorem testsAndStrikes_pending (h : HoseId) (p : Profile) (st : Settings) (i : EntryId) (t : TagId) (r : Option Nat) : (s.testsAndStrikes h p st i t r).pending = s.pending := by
  unfold State.testsAndStrikes; dsimp only; (repeat' split) <;> simp
@[simp] theorem testsAndStrikes_draws (h : HoseId) (p : Profile) (st : Settings) (i : EntryId) (t : TagId) (r : Option Nat) : (s.testsAndStrikes h p st i t r).draws = s.draws := by
  unfold State.testsAndStrikes; dsimp only; (repeat' split) <;> simp

theorem tagReadEvent_only (h : HoseId) (t : TagId) (n : Word) (q : Byte) :
    s.tagReadEvent h t n q = { s with
      table := (s.tagReadEvent h t n q).table, hoses := (s.tagReadEvent h t n q).hoses,
      comps := (s.tagReadEvent h t n q).comps, billing := (s.tagReadEvent h t n q).billing,
      att := (s.tagReadEvent h t n q).att, field := (s.tagReadEvent h t n q).field,
      cab := (s.tagReadEvent h t n q).cab } := by
  ext1 <;> first | with_reducible rfl | (unfold State.tagReadEvent State.evaluateRead State.lookupTag; try dsimp only; (repeat' split) <;> simp)

theorem manualRequest_only (n : Node) (h z c p : Byte) (m : Half) (r : Word) :
    s.manualRequest n h z c p m r = { s with
      table := (s.manualRequest n h z c p m r).table, hoses := (s.manualRequest n h z c p m r).hoses,
      comps := (s.manualRequest n h z c p m r).comps, billing := (s.manualRequest n h z c p m r).billing,
      att := (s.manualRequest n h z c p m r).att, field := (s.manualRequest n h z c p m r).field,
      cab := (s.manualRequest n h z c p m r).cab } := by
  ext1 <;> first | with_reducible rfl | (unfold State.manualRequest State.manualEvaluate; try dsimp only; (repeat' split) <;> simp)

theorem receiveRequest_only (n : Node) (h : Byte) (v : Word) (p : Byte) (r : Word) :
    s.receiveRequest n h v p r = { s with
      table := (s.receiveRequest n h v p r).table, hoses := (s.receiveRequest n h v p r).hoses,
      comps := (s.receiveRequest n h v p r).comps, billing := (s.receiveRequest n h v p r).billing,
      att := (s.receiveRequest n h v p r).att, field := (s.receiveRequest n h v p r).field,
      cab := (s.receiveRequest n h v p r).cab } := by
  ext1 <;> first | with_reducible rfl | (unfold State.receiveRequest State.receiveEvaluate; try dsimp only; (repeat' split) <;> simp)

theorem cmdSetStrikePolicy_fst_only (f : PolicyForm) :
    (s.cmdSetStrikePolicy f).1 = { s with table := (s.cmdSetStrikePolicy f).1.table } := by
  ext1 <;> first | with_reducible rfl | (unfold State.cmdSetStrikePolicy; (repeat' split) <;> simp)

theorem cmdRollCallStart_fst_only :
    (s.cmdRollCallStart).1 = { s with table := (s.cmdRollCallStart).1.table } := rfl

theorem cmdRollCallStop_fst_only :
    (s.cmdRollCallStop).1 = { s with table := (s.cmdRollCallStop).1.table } := rfl

@[simp] theorem cmdRollCallRead_fst_only (i : Half) : (s.cmdRollCallRead i).1 = s := by
  unfold State.cmdRollCallRead; dsimp only; split <;> rfl

@[simp] theorem varianceCheck_table (c : CompId) (st : Settings) (v : Nat) : (s.varianceCheck c st v).table = s.table := by
  unfold State.varianceCheck; dsimp only; (repeat' split) <;> simp
@[simp] theorem varianceCheck_entry (c : CompId) (st : Settings) (v : Nat) (j : EntryId) : (s.varianceCheck c st v).entry j = s.entry j := by
  simp [State.entry]
@[simp] theorem varianceCheck_hoses (c : CompId) (st : Settings) (v : Nat) : (s.varianceCheck c st v).hoses = s.hoses := by
  unfold State.varianceCheck; dsimp only; (repeat' split) <;> simp
@[simp] theorem varianceCheck_hose (c : CompId) (st : Settings) (v : Nat) (j : HoseId) : (s.varianceCheck c st v).hose j = s.hose j := by
  simp [State.hose]
@[simp] theorem varianceCheck_siteStop (c : CompId) (st : Settings) (v : Nat) : (s.varianceCheck c st v).siteStop = s.siteStop := by
  unfold State.varianceCheck; dsimp only; (repeat' split) <;> simp
@[simp] theorem varianceCheck_betas (c : CompId) (st : Settings) (v : Nat) : (s.varianceCheck c st v).betas = s.betas := by
  unfold State.varianceCheck; dsimp only; (repeat' split) <;> simp
@[simp] theorem varianceCheck_calCounter (c : CompId) (st : Settings) (v : Nat) : (s.varianceCheck c st v).calCounter = s.calCounter := by
  unfold State.varianceCheck; dsimp only; (repeat' split) <;> simp
@[simp] theorem varianceCheck_billing (c : CompId) (st : Settings) (v : Nat) : (s.varianceCheck c st v).billing = s.billing := by
  unfold State.varianceCheck; dsimp only; (repeat' split) <;> simp
@[simp] theorem varianceCheck_field (c : CompId) (st : Settings) (v : Nat) : (s.varianceCheck c st v).field = s.field := by
  unfold State.varianceCheck; dsimp only; (repeat' split) <;> simp
@[simp] theorem varianceCheck_screen (c : CompId) (st : Settings) (v : Nat) : (s.varianceCheck c st v).screen = s.screen := by
  unfold State.varianceCheck; dsimp only; (repeat' split) <;> simp
@[simp] theorem varianceCheck_resp (c : CompId) (st : Settings) (v : Nat) : (s.varianceCheck c st v).resp = s.resp := by
  unfold State.varianceCheck; dsimp only; (repeat' split) <;> simp
@[simp] theorem varianceCheck_levelOfNode (c : CompId) (st : Settings) (v : Nat) (j : Node) : (s.varianceCheck c st v).levelOfNode j = s.levelOfNode j := by
  simp [State.levelOfNode]
@[simp] theorem varianceCheck_power (c : CompId) (st : Settings) (v : Nat) : (s.varianceCheck c st v).power = s.power := by
  unfold State.varianceCheck; dsimp only; (repeat' split) <;> simp
@[simp] theorem varianceCheck_pending (c : CompId) (st : Settings) (v : Nat) : (s.varianceCheck c st v).pending = s.pending := by
  unfold State.varianceCheck; dsimp only; (repeat' split) <;> simp
@[simp] theorem varianceCheck_draws (c : CompId) (st : Settings) (v : Nat) : (s.varianceCheck c st v).draws = s.draws := by
  unfold State.varianceCheck; dsimp only; (repeat' split) <;> simp

@[simp] theorem overfillHose_snd_table (c : CompId) (h : HoseId) (b : Bool) : ((State.overfillHose c h (b,
      s)).2).table = s.table := by
  unfold State.overfillHose; dsimp only; (repeat' split) <;> simp
@[simp] theorem overfillHose_snd_entry (c : CompId) (h : HoseId) (b : Bool) (j : EntryId) : ((State.overfillHose c h (b, s)).2).entry j = s.entry j := by
  simp [State.entry]
@[simp] theorem overfillHose_snd_siteStop (c : CompId) (h : HoseId) (b : Bool) : ((State.overfillHose c h (b,
      s)).2).siteStop = s.siteStop := by
  unfold State.overfillHose; dsimp only; (repeat' split) <;> simp
@[simp] theorem overfillHose_snd_betas (c : CompId) (h : HoseId) (b : Bool) : ((State.overfillHose c h (b,
      s)).2).betas = s.betas := by
  unfold State.overfillHose; dsimp only; (repeat' split) <;> simp
@[simp] theorem overfillHose_snd_calCounter (c : CompId) (h : HoseId) (b : Bool) : ((State.overfillHose c h (b,
      s)).2).calCounter = s.calCounter := by
  unfold State.overfillHose; dsimp only; (repeat' split) <;> simp
@[simp] theorem overfillHose_snd_comps (c : CompId) (h : HoseId) (b : Bool) : ((State.overfillHose c h (b,
      s)).2).comps = s.comps := by
  unfold State.overfillHose; dsimp only; (repeat' split) <;> simp
@[simp] theorem overfillHose_snd_comp (c : CompId) (h : HoseId) (b : Bool) (j : CompId) : ((State.overfillHose c h (b, s)).2).comp j = s.comp j := by
  simp [State.comp]
@[simp] theorem overfillHose_snd_billing (c : CompId) (h : HoseId) (b : Bool) : ((State.overfillHose c h (b,
      s)).2).billing = s.billing := by
  unfold State.overfillHose; dsimp only; (repeat' split) <;> simp
@[simp] theorem overfillHose_snd_att (c : CompId) (h : HoseId) (b : Bool) : ((State.overfillHose c h (b,
      s)).2).att = s.att := by
  unfold State.overfillHose; dsimp only; (repeat' split) <;> simp
@[simp] theorem overfillHose_snd_screen (c : CompId) (h : HoseId) (b : Bool) : ((State.overfillHose c h (b,
      s)).2).screen = s.screen := by
  unfold State.overfillHose; dsimp only; (repeat' split) <;> simp
@[simp] theorem overfillHose_snd_resp (c : CompId) (h : HoseId) (b : Bool) : ((State.overfillHose c h (b,
      s)).2).resp = s.resp := by
  unfold State.overfillHose; dsimp only; (repeat' split) <;> simp
@[simp] theorem overfillHose_snd_levelOfNode (c : CompId) (h : HoseId) (b : Bool) (j : Node) : ((State.overfillHose c h (b, s)).2).levelOfNode j = s.levelOfNode j := by
  simp [State.levelOfNode]
@[simp] theorem overfillHose_snd_power (c : CompId) (h : HoseId) (b : Bool) : ((State.overfillHose c h (b,
      s)).2).power = s.power := by
  unfold State.overfillHose; dsimp only; (repeat' split) <;> simp
@[simp] theorem overfillHose_snd_pending (c : CompId) (h : HoseId) (b : Bool) : ((State.overfillHose c h (b,
      s)).2).pending = s.pending := by
  unfold State.overfillHose; dsimp only; (repeat' split) <;> simp
@[simp] theorem overfillHose_snd_draws (c : CompId) (h : HoseId) (b : Bool) : ((State.overfillHose c h (b,
      s)).2).draws = s.draws := by
  unfold State.overfillHose; dsimp only; (repeat' split) <;> simp

@[simp] theorem overfillAll_table (c : CompId) (l : List HoseId) (b : Bool) : ((l.foldl (fun acc h => overfillHose c h acc) (b, s)).2).table = s.table := foldl_frame (fun u : Bool × State => u.2.table) (fun acc h => overfillHose c h acc)
    (by rintro ⟨b, u⟩ h; simp) l (b, s)
@[simp] theorem overfillAll_entry (c : CompId) (l : List HoseId) (b : Bool) (j : EntryId) : ((l.foldl (fun acc h => overfillHose c h acc) (b, s)).2).entry j = s.entry j := by
  simp [State.entry]
@[simp] theorem overfillAll_siteStop (c : CompId) (l : List HoseId) (b : Bool) : ((l.foldl (fun acc h => overfillHose c h acc) (b, s)).2).siteStop = s.siteStop := foldl_frame (fun u : Bool × State => u.2.siteStop) (fun acc h => overfillHose c h acc)
    (by rintro ⟨b, u⟩ h; simp) l (b, s)
@[simp] theorem overfillAll_betas (c : CompId) (l : List HoseId) (b : Bool) : ((l.foldl (fun acc h => overfillHose c h acc) (b, s)).2).betas = s.betas := foldl_frame (fun u : Bool × State => u.2.betas) (fun acc h => overfillHose c h acc)
    (by rintro ⟨b, u⟩ h; simp) l (b, s)
@[simp] theorem overfillAll_calCounter (c : CompId) (l : List HoseId) (b : Bool) : ((l.foldl (fun acc h => overfillHose c h acc) (b, s)).2).calCounter = s.calCounter := foldl_frame (fun u : Bool × State => u.2.calCounter) (fun acc h => overfillHose c h acc)
    (by rintro ⟨b, u⟩ h; simp) l (b, s)
@[simp] theorem overfillAll_comps (c : CompId) (l : List HoseId) (b : Bool) : ((l.foldl (fun acc h => overfillHose c h acc) (b, s)).2).comps = s.comps := foldl_frame (fun u : Bool × State => u.2.comps) (fun acc h => overfillHose c h acc)
    (by rintro ⟨b, u⟩ h; simp) l (b, s)
@[simp] theorem overfillAll_comp (c : CompId) (l : List HoseId) (b : Bool) (j : CompId) : ((l.foldl (fun acc h => overfillHose c h acc) (b, s)).2).comp j = s.comp j := by
  simp [State.comp]
@[simp] theorem overfillAll_billing (c : CompId) (l : List HoseId) (b : Bool) : ((l.foldl (fun acc h => overfillHose c h acc) (b, s)).2).billing = s.billing := foldl_frame (fun u : Bool × State => u.2.billing) (fun acc h => overfillHose c h acc)
    (by rintro ⟨b, u⟩ h; simp) l (b, s)
@[simp] theorem overfillAll_att (c : CompId) (l : List HoseId) (b : Bool) : ((l.foldl (fun acc h => overfillHose c h acc) (b, s)).2).att = s.att := foldl_frame (fun u : Bool × State => u.2.att) (fun acc h => overfillHose c h acc)
    (by rintro ⟨b, u⟩ h; simp) l (b, s)
@[simp] theorem overfillAll_screen (c : CompId) (l : List HoseId) (b : Bool) : ((l.foldl (fun acc h => overfillHose c h acc) (b, s)).2).screen = s.screen := foldl_frame (fun u : Bool × State => u.2.screen) (fun acc h => overfillHose c h acc)
    (by rintro ⟨b, u⟩ h; simp) l (b, s)
@[simp] theorem overfillAll_resp (c : CompId) (l : List HoseId) (b : Bool) : ((l.foldl (fun acc h => overfillHose c h acc) (b, s)).2).resp = s.resp := foldl_frame (fun u : Bool × State => u.2.resp) (fun acc h => overfillHose c h acc)
    (by rintro ⟨b, u⟩ h; simp) l (b, s)
@[simp] theorem overfillAll_levelOfNode (c : CompId) (l : List HoseId) (b : Bool) (j : Node) : ((l.foldl (fun acc h => overfillHose c h acc) (b, s)).2).levelOfNode j = s.levelOfNode j := by
  simp [State.levelOfNode]
@[simp] theorem overfillAll_power (c : CompId) (l : List HoseId) (b : Bool) : ((l.foldl (fun acc h => overfillHose c h acc) (b, s)).2).power = s.power := foldl_frame (fun u : Bool × State => u.2.power) (fun acc h => overfillHose c h acc)
    (by rintro ⟨b, u⟩ h; simp) l (b, s)
@[simp] theorem overfillAll_pending (c : CompId) (l : List HoseId) (b : Bool) : ((l.foldl (fun acc h => overfillHose c h acc) (b, s)).2).pending = s.pending := foldl_frame (fun u : Bool × State => u.2.pending) (fun acc h => overfillHose c h acc)
    (by rintro ⟨b, u⟩ h; simp) l (b, s)
@[simp] theorem overfillAll_draws (c : CompId) (l : List HoseId) (b : Bool) : ((l.foldl (fun acc h => overfillHose c h acc) (b, s)).2).draws = s.draws := foldl_frame (fun u : Bool × State => u.2.draws) (fun acc h => overfillHose c h acc)
    (by rintro ⟨b, u⟩ h; simp) l (b, s)

@[simp] theorem overfillCheck_table (c : CompId) (st : Settings) (v : Nat) : (s.overfillCheck c st v).table = s.table := by
  unfold State.overfillCheck; dsimp only; (repeat' split) <;> simp
@[simp] theorem overfillCheck_entry (c : CompId) (st : Settings) (v : Nat) (j : EntryId) : (s.overfillCheck c st v).entry j = s.entry j := by
  simp [State.entry]
@[simp] theorem overfillCheck_siteStop (c : CompId) (st : Settings) (v : Nat) : (s.overfillCheck c st v).siteStop = s.siteStop := by
  unfold State.overfillCheck; dsimp only; (repeat' split) <;> simp
@[simp] theorem overfillCheck_betas (c : CompId) (st : Settings) (v : Nat) : (s.overfillCheck c st v).betas = s.betas := by
  unfold State.overfillCheck; dsimp only; (repeat' split) <;> simp
@[simp] theorem overfillCheck_calCounter (c : CompId) (st : Settings) (v : Nat) : (s.overfillCheck c st v).calCounter = s.calCounter := by
  unfold State.overfillCheck; dsimp only; (repeat' split) <;> simp
@[simp] theorem overfillCheck_comps (c : CompId) (st : Settings) (v : Nat) : (s.overfillCheck c st v).comps = s.comps := by
  unfold State.overfillCheck; dsimp only; (repeat' split) <;> simp
@[simp] theorem overfillCheck_comp (c : CompId) (st : Settings) (v : Nat) (j : CompId) : (s.overfillCheck c st v).comp j = s.comp j := by
  simp [State.comp]
@[simp] theorem overfillCheck_billing (c : CompId) (st : Settings) (v : Nat) : (s.overfillCheck c st v).billing = s.billing := by
  unfold State.overfillCheck; dsimp only; (repeat' split) <;> simp
@[simp] theorem overfillCheck_screen (c : CompId) (st : Settings) (v : Nat) : (s.overfillCheck c st v).screen = s.screen := by
  unfold State.overfillCheck; dsimp only; (repeat' split) <;> simp
@[simp] theorem overfillCheck_resp (c : CompId) (st : Settings) (v : Nat) : (s.overfillCheck c st v).resp = s.resp := by
  unfold State.overfillCheck; dsimp only; (repeat' split) <;> simp
@[simp] theorem overfillCheck_levelOfNode (c : CompId) (st : Settings) (v : Nat) (j : Node) : (s.overfillCheck c st v).levelOfNode j = s.levelOfNode j := by
  simp [State.levelOfNode]
@[simp] theorem overfillCheck_power (c : CompId) (st : Settings) (v : Nat) : (s.overfillCheck c st v).power = s.power := by
  unfold State.overfillCheck; dsimp only; (repeat' split) <;> simp
@[simp] theorem overfillCheck_pending (c : CompId) (st : Settings) (v : Nat) : (s.overfillCheck c st v).pending = s.pending := by
  unfold State.overfillCheck; dsimp only; (repeat' split) <;> simp
@[simp] theorem overfillCheck_draws (c : CompId) (st : Settings) (v : Nat) : (s.overfillCheck c st v).draws = s.draws := by
  unfold State.overfillCheck; dsimp only; (repeat' split) <;> simp

theorem probeEvent_only (c : CompId) (v : Word) (x : Byte) :
    s.probeEvent c v x = { s with
      hoses := (s.probeEvent c v x).hoses, comps := (s.probeEvent c v x).comps, att := (s.probeEvent c v x).att,
      field := (s.probeEvent c v x).field, cab := (s.probeEvent c v x).cab } := by
  ext1 <;> first | with_reducible rfl | (unfold State.probeEvent; try dsimp only; (repeat' split) <;> simp)

theorem cmdLoadCompartment_fst_only (c : Byte) (f : CompForm) :
    (s.cmdLoadCompartment c f).1 = { s with
      comps := (s.cmdLoadCompartment c f).1.comps, cab := (s.cmdLoadCompartment c f).1.cab } := by
  ext1 <;> first | with_reducible rfl | (unfold State.cmdLoadCompartment; try dsimp only; (repeat' split) <;> simp)

theorem cmdAckRestock_fst_only (c : Byte) (r : Word) :
    (s.cmdAckRestock c r).1 = { s with comps := (s.cmdAckRestock c r).1.comps } := by
  ext1 <;> first | with_reducible rfl | (unfold State.cmdAckRestock; (repeat' split) <;> simp)

theorem cmdSetStock_fst_only (c : Byte) (v : Word) :
    (s.cmdSetStock c v).1 = { s with
      comps := (s.cmdSetStock c v).1.comps, cab := (s.cmdSetStock c v).1.cab } := by
  ext1 <;> first | with_reducible rfl | (unfold State.cmdSetStock; (repeat' split) <;> simp)

theorem cmdReconcile_fst_only (c : Byte) :
    (s.cmdReconcile c).1 = { s with
      comps := (s.cmdReconcile c).1.comps, billing := (s.cmdReconcile c).1.billing,
      att := (s.cmdReconcile c).1.att, cab := (s.cmdReconcile c).1.cab, draws := (s.cmdReconcile c).1.draws } := by
  ext1 <;> first | with_reducible rfl | (unfold State.cmdReconcile; try dsimp only; (repeat' split) <;> simp)

@[simp] theorem forward_table (p : Port) (f : Frame) : (s.forward p f).table = s.table := by
  unfold State.forward; cases p <;> dsimp only <;> split <;> rfl
@[simp] theorem forward_entry (p : Port) (f : Frame) (j : EntryId) : (s.forward p f).entry j = s.entry j := by
  simp [State.entry]
@[simp] theorem forward_hoses (p : Port) (f : Frame) : (s.forward p f).hoses = s.hoses := by
  unfold State.forward; cases p <;> dsimp only <;> split <;> rfl
@[simp] theorem forward_hose (p : Port) (f : Frame) (j : HoseId) : (s.forward p f).hose j = s.hose j := by
  simp [State.hose]
@[simp] theorem forward_siteStop (p : Port) (f : Frame) : (s.forward p f).siteStop = s.siteStop := by
  unfold State.forward; cases p <;> dsimp only <;> split <;> rfl
@[simp] theorem forward_betas (p : Port) (f : Frame) : (s.forward p f).betas = s.betas := by
  unfold State.forward; cases p <;> dsimp only <;> split <;> rfl
@[simp] theorem forward_calCounter (p : Port) (f : Frame) : (s.forward p f).calCounter = s.calCounter := by
  unfold State.forward; cases p <;> dsimp only <;> split <;> rfl
@[simp] theorem forward_comps (p : Port) (f : Frame) : (s.forward p f).comps = s.comps := by
  unfold State.forward; cases p <;> dsimp only <;> split <;> rfl
@[simp] theorem forward_comp (p : Port) (f : Frame) (j : CompId) : (s.forward p f).comp j = s.comp j := by
  simp [State.comp]
@[simp] theorem forward_billing (p : Port) (f : Frame) : (s.forward p f).billing = s.billing := by
  unfold State.forward; cases p <;> dsimp only <;> split <;> rfl
@[simp] theorem forward_att (p : Port) (f : Frame) : (s.forward p f).att = s.att := by
  unfold State.forward; cases p <;> dsimp only <;> split <;> rfl
@[simp] theorem forward_screen (p : Port) (f : Frame) : (s.forward p f).screen = s.screen := by
  unfold State.forward; cases p <;> dsimp only <;> split <;> rfl
@[simp] theorem forward_resp (p : Port) (f : Frame) : (s.forward p f).resp = s.resp := by
  unfold State.forward; cases p <;> dsimp only <;> split <;> rfl
@[simp] theorem forward_levelOfNode (p : Port) (f : Frame) (j : Node) : (s.forward p f).levelOfNode j = s.levelOfNode j := by
  simp [State.levelOfNode]
@[simp] theorem forward_power (p : Port) (f : Frame) : (s.forward p f).power = s.power := by
  unfold State.forward; cases p <;> dsimp only <;> split <;> rfl
@[simp] theorem forward_pending (p : Port) (f : Frame) : (s.forward p f).pending = s.pending := by
  unfold State.forward; cases p <;> dsimp only <;> split <;> rfl
@[simp] theorem forward_draws (p : Port) (f : Frame) : (s.forward p f).draws = s.draws := by
  unfold State.forward; cases p <;> dsimp only <;> split <;> rfl


theorem cmdLoadFrameClass_fst_only (c : Byte) (f : CarriageForm) :
    (s.cmdLoadFrameClass c f).1 = { s with screen := (s.cmdLoadFrameClass c f).1.screen } := by
  ext1 <;> first | with_reducible rfl | (unfold State.cmdLoadFrameClass; (repeat' split) <;> simp)

@[simp] theorem rearmUnit_table (w : Half) : (s.rearmUnit w).table = s.table := by
  unfold State.rearmUnit; dsimp only; split <;> simp
@[simp] theorem rearmUnit_entry (w : Half) (j : EntryId) : (s.rearmUnit w).entry j = s.entry j := by
  simp [State.entry]
@[simp] theorem rearmUnit_hoses (w : Half) : (s.rearmUnit w).hoses = s.hoses := by
  unfold State.rearmUnit; dsimp only; split <;> simp
@[simp] theorem rearmUnit_hose (w : Half) (j : HoseId) : (s.rearmUnit w).hose j = s.hose j := by
  simp [State.hose]
@[simp] theorem rearmUnit_siteStop (w : Half) : (s.rearmUnit w).siteStop = s.siteStop := by
  unfold State.rearmUnit; dsimp only; split <;> simp
@[simp] theorem rearmUnit_betas (w : Half) : (s.rearmUnit w).betas = s.betas := by
  unfold State.rearmUnit; dsimp only; split <;> simp
@[simp] theorem rearmUnit_calCounter (w : Half) : (s.rearmUnit w).calCounter = s.calCounter := by
  unfold State.rearmUnit; dsimp only; split <;> simp
@[simp] theorem rearmUnit_comps (w : Half) : (s.rearmUnit w).comps = s.comps := by
  unfold State.rearmUnit; dsimp only; split <;> simp
@[simp] theorem rearmUnit_comp (w : Half) (j : CompId) : (s.rearmUnit w).comp j = s.comp j := by
  simp [State.comp]
@[simp] theorem rearmUnit_billing (w : Half) : (s.rearmUnit w).billing = s.billing := by
  unfold State.rearmUnit; dsimp only; split <;> simp
@[simp] theorem rearmUnit_field (w : Half) : (s.rearmUnit w).field = s.field := by
  unfold State.rearmUnit; dsimp only; split <;> simp
@[simp] theorem rearmUnit_screen (w : Half) : (s.rearmUnit w).screen = s.screen := by
  unfold State.rearmUnit; dsimp only; split <;> simp
@[simp] theorem rearmUnit_resp (w : Half) : (s.rearmUnit w).resp = s.resp := by
  unfold State.rearmUnit; dsimp only; split <;> simp
@[simp] theorem rearmUnit_levelOfNode (w : Half) (j : Node) : (s.rearmUnit w).levelOfNode j = s.levelOfNode j := by
  simp [State.levelOfNode]
@[simp] theorem rearmUnit_power (w : Half) : (s.rearmUnit w).power = s.power := by
  unfold State.rearmUnit; dsimp only; split <;> simp
@[simp] theorem rearmUnit_pending (w : Half) : (s.rearmUnit w).pending = s.pending := by
  unfold State.rearmUnit; dsimp only; split <;> simp
@[simp] theorem rearmUnit_draws (w : Half) : (s.rearmUnit w).draws = s.draws := by
  unfold State.rearmUnit; dsimp only; split <;> simp

theorem cmdRearm_fst_only (w : Half) :
    (s.cmdRearm w).1 = { s with att := (s.cmdRearm w).1.att, cab := (s.cmdRearm w).1.cab } := by
  ext1 <;> first | with_reducible rfl | (unfold State.cmdRearm; try dsimp only; split <;> simp)

@[simp] theorem cmdIdentify_fst_only : (s.cmdIdentify).1 = s := rfl

@[simp] theorem cmdStatus_fst_only (x n o : Byte) : (s.cmdStatus x n o).1 = s := by
  unfold State.cmdStatus; (repeat' split) <;> rfl

theorem cmdStatusCounterClear_fst_only (x n : Byte) :
    (s.cmdStatusCounterClear x n).1 = { s with
      hoses := (s.cmdStatusCounterClear x n).1.hoses, comps := (s.cmdStatusCounterClear x n).1.comps,
      field := (s.cmdStatusCounterClear x n).1.field, cab := (s.cmdStatusCounterClear x n).1.cab,
      screen := (s.cmdStatusCounterClear x n).1.screen } := by
  ext1 <;> first | with_reducible rfl | (unfold State.cmdStatusCounterClear; split <;> rfl)

theorem cmdSetClock_fst_only (v : Word) :
    (s.cmdSetClock v).1 = { s with resp := (s.cmdSetClock v).1.resp } := rfl

theorem cmdSetPrivilege_fst_only (n l : Byte) :
    (s.cmdSetPrivilege n l).1 = { s with resp := (s.cmdSetPrivilege n l).1.resp } := by
  ext1 <;> first | with_reducible rfl | (unfold State.cmdSetPrivilege; (repeat' split) <;> rfl)

theorem cmdSetProtection_fst_only (f : Byte) :
    (s.cmdSetProtection f).1 = { s with resp := (s.cmdSetProtection f).1.resp } := by
  ext1 <;> first | with_reducible rfl | (unfold State.cmdSetProtection; (repeat' split) <;> rfl)

theorem cmdDigest_fst_only (n : Node) (x : Byte) :
    (s.cmdDigest n x).1 = { s with resp := (s.cmdDigest n x).1.resp } := by
  ext1 <;> first | with_reducible rfl | (unfold State.cmdDigest; split <;> rfl)

@[simp] theorem cmdQueryEmpty_fst_only (x : Byte) : (s.cmdQueryEmpty x).1 = s := by
  unfold State.cmdQueryEmpty; split <;> rfl

theorem cmdWipe_fst_only :
    (s.cmdWipe).1 = { s with
      table := (s.cmdWipe).1.table, hoses := (s.cmdWipe).1.hoses, betas := (s.cmdWipe).1.betas,
      comps := (s.cmdWipe).1.comps, billing := (s.cmdWipe).1.billing, screen := (s.cmdWipe).1.screen,
      resp := (s.cmdWipe).1.resp } := by
  ext1 <;> first | with_reducible rfl | (unfold State.cmdWipe; (repeat' split) <;> rfl)

@[simp] theorem cmdRestart_fst_only : (s.cmdRestart).1 = s := rfl

@[simp] theorem warmHose_siteStop (h : HoseId) : (s.warmHose h).siteStop = s.siteStop := by
  unfold State.warmHose; dsimp only; (repeat' split) <;> simp
@[simp] theorem warmHose_betas (h : HoseId) : (s.warmHose h).betas = s.betas := by
  unfold State.warmHose; dsimp only; (repeat' split) <;> simp
@[simp] theorem warmHose_calCounter (h : HoseId) : (s.warmHose h).calCounter = s.calCounter := by
  unfold State.warmHose; dsimp only; (repeat' split) <;> simp
@[simp] theorem warmHose_att (h : HoseId) : (s.warmHose h).att = s.att := by
  unfold State.warmHose; dsimp only; (repeat' split) <;> simp
@[simp] theorem warmHose_field (h : HoseId) : (s.warmHose h).field = s.field := by
  unfold State.warmHose; dsimp only; (repeat' split) <;> simp
@[simp] theorem warmHose_screen (h : HoseId) : (s.warmHose h).screen = s.screen := by
  unfold State.warmHose; dsimp only; (repeat' split) <;> simp
@[simp] theorem warmHose_resp (h : HoseId) : (s.warmHose h).resp = s.resp := by
  unfold State.warmHose; dsimp only; (repeat' split) <;> simp
@[simp] theorem warmHose_levelOfNode (h : HoseId) (j : Node) : (s.warmHose h).levelOfNode j = s.levelOfNode j := by
  simp [State.levelOfNode]
@[simp] theorem warmHose_power (h : HoseId) : (s.warmHose h).power = s.power := by
  unfold State.warmHose; dsimp only; (repeat' split) <;> simp
@[simp] theorem warmHose_pending (h : HoseId) : (s.warmHose h).pending = s.pending := by
  unfold State.warmHose; dsimp only; (repeat' split) <;> simp
@[simp] theorem warmHose_draws (h : HoseId) : (s.warmHose h).draws = s.draws := by
  unfold State.warmHose; dsimp only; (repeat' split) <;> simp

@[simp] theorem warmHoses_siteStop (l : List HoseId) : (l.foldl (fun u h => warmHose h u) s).siteStop = s.siteStop := foldl_frame (fun u : State => u.siteStop) (fun u h => warmHose h u) (fun _ _ => by simp) l s
@[simp] theorem warmHoses_betas (l : List HoseId) : (l.foldl (fun u h => warmHose h u) s).betas = s.betas := foldl_frame (fun u : State => u.betas) (fun u h => warmHose h u) (fun _ _ => by simp) l s
@[simp] theorem warmHoses_calCounter (l : List HoseId) : (l.foldl (fun u h => warmHose h u) s).calCounter = s.calCounter := foldl_frame (fun u : State => u.calCounter) (fun u h => warmHose h u) (fun _ _ => by simp) l s
@[simp] theorem warmHoses_att (l : List HoseId) : (l.foldl (fun u h => warmHose h u) s).att = s.att := foldl_frame (fun u : State => u.att) (fun u h => warmHose h u) (fun _ _ => by simp) l s
@[simp] theorem warmHoses_field (l : List HoseId) : (l.foldl (fun u h => warmHose h u) s).field = s.field := foldl_frame (fun u : State => u.field) (fun u h => warmHose h u) (fun _ _ => by simp) l s
@[simp] theorem warmHoses_screen (l : List HoseId) : (l.foldl (fun u h => warmHose h u) s).screen = s.screen := foldl_frame (fun u : State => u.screen) (fun u h => warmHose h u) (fun _ _ => by simp) l s
@[simp] theorem warmHoses_resp (l : List HoseId) : (l.foldl (fun u h => warmHose h u) s).resp = s.resp := foldl_frame (fun u : State => u.resp) (fun u h => warmHose h u) (fun _ _ => by simp) l s
@[simp] theorem warmHoses_levelOfNode (l : List HoseId) (j : Node) : (l.foldl (fun u h => warmHose h u) s).levelOfNode j = s.levelOfNode j := by
  simp [State.levelOfNode]
@[simp] theorem warmHoses_power (l : List HoseId) : (l.foldl (fun u h => warmHose h u) s).power = s.power := foldl_frame (fun u : State => u.power) (fun u h => warmHose h u) (fun _ _ => by simp) l s
@[simp] theorem warmHoses_pending (l : List HoseId) : (l.foldl (fun u h => warmHose h u) s).pending = s.pending := foldl_frame (fun u : State => u.pending) (fun u h => warmHose h u) (fun _ _ => by simp) l s
@[simp] theorem warmHoses_draws (l : List HoseId) : (l.foldl (fun u h => warmHose h u) s).draws = s.draws := foldl_frame (fun u : State => u.draws) (fun u h => warmHose h u) (fun _ _ => by simp) l s

@[simp] theorem warmFrames_table (h : HoseId) : (s.warmFrames h).table = s.table := by
  unfold State.warmFrames; split <;> simp
@[simp] theorem warmFrames_entry (h : HoseId) (j : EntryId) : (s.warmFrames h).entry j = s.entry j := by
  simp [State.entry]
@[simp] theorem warmFrames_siteStop (h : HoseId) : (s.warmFrames h).siteStop = s.siteStop := by
  unfold State.warmFrames; split <;> simp
@[simp] theorem warmFrames_betas (h : HoseId) : (s.warmFrames h).betas = s.betas := by
  unfold State.warmFrames; split <;> simp
@[simp] theorem warmFrames_calCounter (h : HoseId) : (s.warmFrames h).calCounter = s.calCounter := by
  unfold State.warmFrames; split <;> simp
@[simp] theorem warmFrames_comps (h : HoseId) : (s.warmFrames h).comps = s.comps := by
  unfold State.warmFrames; split <;> simp
@[simp] theorem warmFrames_comp (h : HoseId) (j : CompId) : (s.warmFrames h).comp j = s.comp j := by
  simp [State.comp]
@[simp] theorem warmFrames_billing (h : HoseId) : (s.warmFrames h).billing = s.billing := by
  unfold State.warmFrames; split <;> simp
@[simp] theorem warmFrames_att (h : HoseId) : (s.warmFrames h).att = s.att := by
  unfold State.warmFrames; split <;> simp
@[simp] theorem warmFrames_screen (h : HoseId) : (s.warmFrames h).screen = s.screen := by
  unfold State.warmFrames; split <;> simp
@[simp] theorem warmFrames_resp (h : HoseId) : (s.warmFrames h).resp = s.resp := by
  unfold State.warmFrames; split <;> simp
@[simp] theorem warmFrames_levelOfNode (h : HoseId) (j : Node) : (s.warmFrames h).levelOfNode j = s.levelOfNode j := by
  simp [State.levelOfNode]
@[simp] theorem warmFrames_power (h : HoseId) : (s.warmFrames h).power = s.power := by
  unfold State.warmFrames; split <;> simp
@[simp] theorem warmFrames_pending (h : HoseId) : (s.warmFrames h).pending = s.pending := by
  unfold State.warmFrames; split <;> simp
@[simp] theorem warmFrames_draws (h : HoseId) : (s.warmFrames h).draws = s.draws := by
  unfold State.warmFrames; split <;> simp

@[simp] theorem warmAllFrames_table (l : List HoseId) : (l.foldl (fun u h => warmFrames h u) s).table = s.table := foldl_frame (fun u : State => u.table) (fun u h => warmFrames h u) (fun _ _ => by simp) l s
@[simp] theorem warmAllFrames_entry (l : List HoseId) (j : EntryId) : (l.foldl (fun u h => warmFrames h u) s).entry j = s.entry j := by
  simp [State.entry]
@[simp] theorem warmAllFrames_siteStop (l : List HoseId) : (l.foldl (fun u h => warmFrames h u) s).siteStop = s.siteStop := foldl_frame (fun u : State => u.siteStop) (fun u h => warmFrames h u) (fun _ _ => by simp) l s
@[simp] theorem warmAllFrames_betas (l : List HoseId) : (l.foldl (fun u h => warmFrames h u) s).betas = s.betas := foldl_frame (fun u : State => u.betas) (fun u h => warmFrames h u) (fun _ _ => by simp) l s
@[simp] theorem warmAllFrames_calCounter (l : List HoseId) : (l.foldl (fun u h => warmFrames h u) s).calCounter = s.calCounter := foldl_frame (fun u : State => u.calCounter) (fun u h => warmFrames h u) (fun _ _ => by simp) l s
@[simp] theorem warmAllFrames_comps (l : List HoseId) : (l.foldl (fun u h => warmFrames h u) s).comps = s.comps := foldl_frame (fun u : State => u.comps) (fun u h => warmFrames h u) (fun _ _ => by simp) l s
@[simp] theorem warmAllFrames_comp (l : List HoseId) (j : CompId) : (l.foldl (fun u h => warmFrames h u) s).comp j = s.comp j := by
  simp [State.comp]
@[simp] theorem warmAllFrames_billing (l : List HoseId) : (l.foldl (fun u h => warmFrames h u) s).billing = s.billing := foldl_frame (fun u : State => u.billing) (fun u h => warmFrames h u) (fun _ _ => by simp) l s
@[simp] theorem warmAllFrames_att (l : List HoseId) : (l.foldl (fun u h => warmFrames h u) s).att = s.att := foldl_frame (fun u : State => u.att) (fun u h => warmFrames h u) (fun _ _ => by simp) l s
@[simp] theorem warmAllFrames_screen (l : List HoseId) : (l.foldl (fun u h => warmFrames h u) s).screen = s.screen := foldl_frame (fun u : State => u.screen) (fun u h => warmFrames h u) (fun _ _ => by simp) l s
@[simp] theorem warmAllFrames_resp (l : List HoseId) : (l.foldl (fun u h => warmFrames h u) s).resp = s.resp := foldl_frame (fun u : State => u.resp) (fun u h => warmFrames h u) (fun _ _ => by simp) l s
@[simp] theorem warmAllFrames_levelOfNode (l : List HoseId) (j : Node) : (l.foldl (fun u h => warmFrames h u) s).levelOfNode j = s.levelOfNode j := by
  simp [State.levelOfNode]
@[simp] theorem warmAllFrames_power (l : List HoseId) : (l.foldl (fun u h => warmFrames h u) s).power = s.power := foldl_frame (fun u : State => u.power) (fun u h => warmFrames h u) (fun _ _ => by simp) l s
@[simp] theorem warmAllFrames_pending (l : List HoseId) : (l.foldl (fun u h => warmFrames h u) s).pending = s.pending := foldl_frame (fun u : State => u.pending) (fun u h => warmFrames h u) (fun _ _ => by simp) l s
@[simp] theorem warmAllFrames_draws (l : List HoseId) : (l.foldl (fun u h => warmFrames h u) s).draws = s.draws := foldl_frame (fun u : State => u.draws) (fun u h => warmFrames h u) (fun _ _ => by simp) l s

@[simp] theorem warmLink_table : (s.warmLink).table = s.table := rfl
@[simp] theorem warmLink_entry (j : EntryId) : (s.warmLink).entry j = s.entry j := by
  simp [State.entry]
@[simp] theorem warmLink_hoses : (s.warmLink).hoses = s.hoses := rfl
@[simp] theorem warmLink_hose (j : HoseId) : (s.warmLink).hose j = s.hose j := by
  simp [State.hose]
@[simp] theorem warmLink_siteStop : (s.warmLink).siteStop = s.siteStop := rfl
@[simp] theorem warmLink_betas : (s.warmLink).betas = s.betas := rfl
@[simp] theorem warmLink_calCounter : (s.warmLink).calCounter = s.calCounter := rfl
@[simp] theorem warmLink_comps : (s.warmLink).comps = s.comps := rfl
@[simp] theorem warmLink_comp (j : CompId) : (s.warmLink).comp j = s.comp j := by
  simp [State.comp]
@[simp] theorem warmLink_billing : (s.warmLink).billing = s.billing := rfl
@[simp] theorem warmLink_att : (s.warmLink).att = s.att := rfl
@[simp] theorem warmLink_resp : (s.warmLink).resp = s.resp := rfl
@[simp] theorem warmLink_levelOfNode (j : Node) : (s.warmLink).levelOfNode j = s.levelOfNode j := by
  simp [State.levelOfNode]
@[simp] theorem warmLink_power : (s.warmLink).power = s.power := rfl
@[simp] theorem warmLink_pending : (s.warmLink).pending = s.pending := rfl
@[simp] theorem warmLink_draws : (s.warmLink).draws = s.draws := rfl

@[simp] theorem warmResp_table (n : Node) : (s.warmResp n).table = s.table := rfl
@[simp] theorem warmResp_entry (n : Node) (j : EntryId) : (s.warmResp n).entry j = s.entry j := by
  simp [State.entry]
@[simp] theorem warmResp_hoses (n : Node) : (s.warmResp n).hoses = s.hoses := rfl
@[simp] theorem warmResp_hose (n : Node) (j : HoseId) : (s.warmResp n).hose j = s.hose j := by
  simp [State.hose]
@[simp] theorem warmResp_siteStop (n : Node) : (s.warmResp n).siteStop = s.siteStop := rfl
@[simp] theorem warmResp_betas (n : Node) : (s.warmResp n).betas = s.betas := rfl
@[simp] theorem warmResp_calCounter (n : Node) : (s.warmResp n).calCounter = s.calCounter := rfl
@[simp] theorem warmResp_comps (n : Node) : (s.warmResp n).comps = s.comps := rfl
@[simp] theorem warmResp_comp (n : Node) (j : CompId) : (s.warmResp n).comp j = s.comp j := by
  simp [State.comp]
@[simp] theorem warmResp_billing (n : Node) : (s.warmResp n).billing = s.billing := rfl
@[simp] theorem warmResp_att (n : Node) : (s.warmResp n).att = s.att := rfl
@[simp] theorem warmResp_field (n : Node) : (s.warmResp n).field = s.field := rfl
@[simp] theorem warmResp_cab (n : Node) : (s.warmResp n).cab = s.cab := rfl
@[simp] theorem warmResp_screen (n : Node) : (s.warmResp n).screen = s.screen := rfl
@[simp] theorem warmResp_pending (n : Node) : (s.warmResp n).pending = s.pending := rfl
@[simp] theorem warmResp_draws (n : Node) : (s.warmResp n).draws = s.draws := rfl

@[simp] theorem warmStart_siteStop (n : Node) : (s.warmStart n).siteStop = s.siteStop := by
  simp [State.warmStart]
@[simp] theorem warmStart_betas (n : Node) : (s.warmStart n).betas = s.betas := by
  simp [State.warmStart]
@[simp] theorem warmStart_calCounter (n : Node) : (s.warmStart n).calCounter = s.calCounter := by
  simp [State.warmStart]
@[simp] theorem warmStart_pending (n : Node) : (s.warmStart n).pending = s.pending := by
  simp [State.warmStart]
@[simp] theorem warmStart_draws (n : Node) : (s.warmStart n).draws = s.draws := by
  simp [State.warmStart]

end Sys2Proof.Machine.State
end

