-- ==== Sys2Proof/Laws/Bytes.lean ====
section
/-! SUPPORT. Bytes of numbers and back, lengths of the forms, and the arithmetic of one CRC step. -/

namespace Sys2Proof

/-! ### Numbers and their bytes -/

@[simp] theorem be2_length (v : Half) : (be2 v).length = 2 := rfl
@[simp] theorem be4_length (v : Word) : (be4 v).length = 4 := rfl
@[simp] theorem be6_length (v : TagId) : (be6 v).length = 6 := rfl
@[simp] theorem be48_length (v : BitVec 48) : (be48 v).length = 6 := rfl

@[simp] theorem beN_length (n v : Nat) : (beN n v).length = n := by
  induction n with
  | zero => rfl
  | succ n ih => simp [beN, ih]

/-- A half is its two bytes. -/
theorem rd2_be2 (v : Half) : rd2 (v.extractLsb' 8 8) (v.extractLsb' 0 8) = v := by
  apply BitVec.eq_of_getLsbD_eq
  intro i hi
  simp only [rd2, BitVec.getLsbD_append, BitVec.getLsbD_extractLsb']
  have : i < 16 := hi
  by_cases h : i < 8
  · simp [h]
  · have e : 8 + (i - 8) = i := by omega
    simp [h, e]
    omega

/-- A word is its four bytes. -/
theorem rd4_be4 (v : Word) :
    rd4 (v.extractLsb' 24 8) (v.extractLsb' 16 8) (v.extractLsb' 8 8) (v.extractLsb' 0 8) = v := by
  apply BitVec.eq_of_getLsbD_eq
  intro i hi
  simp only [rd4, BitVec.getLsbD_append, BitVec.getLsbD_extractLsb']
  have : i < 32 := hi
  by_cases h0 : i < 8
  · simp [h0]
  · by_cases h1 : i - 8 < 8
    · have e : 8 + (i - 8) = i := by omega
      simp [h0, h1, e]
    · by_cases h2 : i - 8 - 8 < 8
      · have e : 16 + (i - 8 - 8) = i := by omega
        simp [h0, h1, h2, e]
      · have e : 24 + (i - 8 - 8 - 8) = i := by omega
        simp [h0, h1, h2, e]
        omega

/-- A tag ID is its six bytes. -/
theorem rd6_be6 (v : TagId) :
    rd6 (v.extractLsb' 40 8) (v.extractLsb' 32 8) (v.extractLsb' 24 8) (v.extractLsb' 16 8) (v.extractLsb' 8 8)
      (v.extractLsb' 0 8) = v := by
  apply BitVec.eq_of_getLsbD_eq
  intro i hi
  simp only [rd6, BitVec.getLsbD_append, BitVec.getLsbD_extractLsb']
  have : i < 48 := hi
  by_cases h0 : i < 8
  · simp [h0]
  · by_cases h1 : i - 8 < 8
    · have e : 8 + (i - 8) = i := by omega
      simp [h0, h1, e]
    · by_cases h2 : i - 8 - 8 < 8
      · have e : 16 + (i - 8 - 8) = i := by omega
        simp [h0, h1, h2, e]
      · by_cases h3 : i - 8 - 8 - 8 < 8
        · have e : 24 + (i - 8 - 8 - 8) = i := by omega
          simp [h0, h1, h2, h3, e]
        · by_cases h4 : i - 8 - 8 - 8 - 8 < 8
          · have e : 32 + (i - 8 - 8 - 8 - 8) = i := by omega
            simp [h0, h1, h2, h3, h4, e]
          · have e : 40 + (i - 8 - 8 - 8 - 8 - 8) = i := by omega
            simp [h0, h1, h2, h3, h4, e]
            omega

/-! ### One step of the CRC (R140) -/

theorem crcFrom_append (r : Half) (xs ys : List Byte) : crcFrom r (xs ++ ys) = crcFrom (crcFrom r xs) ys := by
  simp [crcFrom]

/-- One bit of the division can be undone. -/
theorem crcBit_injective (v w : Half) (h : crcBit v = crcBit w) : v = w := by
  have low : ∀ x : Half, (crcBit x).getLsbD 0 = x.msb := by
    intro x
    unfold crcBit
    split
    · next m => simp [m]
    · next m => simp at m; simp [m]
  have m : v.msb = w.msb := by rw [← low v, ← low w, h]
  have shifted : v <<< 1 = w <<< 1 := by
    unfold crcBit at h
    rw [m] at h
    split at h
    · have := congrArg (fun x => x ^^^ 0x1021#16) h
      simpa [BitVec.xor_assoc] using this
    · exact h
  apply BitVec.eq_of_getLsbD_eq
  intro i hi
  by_cases t : i = 15
  · subst t
    simpa [BitVec.msb_eq_getLsbD_last] using m
  · have := congrArg (fun x : Half => x.getLsbD (i + 1)) shifted
    simpa [BitVec.getLsbD_shiftLeft, show i + 1 < 16 by omega, BitVec.getLsbD_eq_getElem hi] using this

/-- Eight bits of the division of a number below 256 shift it up a byte. -/
theorem crcByte_low (l : Byte) : crcByte (l.setWidth 16) 0#8 = l.setWidth 16 <<< 8 := by
  revert l
  decide +kernel

/-- Eight bits of the division can be undone: two registers that end alike met bytes that hide the difference. -/
theorem crcByte_injective (r q : Half) (a b : Byte) (h : crcByte r a = crcByte q b) :
    r ^^^ (a.setWidth 16 <<< 8) = q ^^^ (b.setWidth 16 <<< 8) := by
  iterate 8 replace h := crcBit_injective _ _ h
  exact h

/-- A byte meets the register's high byte. -/
theorem crcByte_absorb (r : Half) (a : Byte) : crcByte r a = crcByte (r ^^^ (a.setWidth 16 <<< 8)) 0#8 := by
  simp [crcByte]

/-! ### Lengths of the forms (10.3 to 10.5) -/

namespace Machine

@[simp] theorem optN_length (n : Nat) (v : Option Nat) : (optN n v).length = n := by simp [optN]
@[simp] theorem optFin_length {k : Nat} (v : Option (Fin k)) : (optFin v).length = 1 := by simp [optFin]
@[simp] theorem optWord_length (v : Option Word) : (optWord v).length = 4 := rfl
@[simp] theorem optTag_length (v : Option TagId) : (optTag v).length = 6 := rfl
@[simp] theorem Loaded.bytes_length (l : Loaded) : l.bytes.length = 16 := by simp [Loaded.bytes]
@[simp] theorem Profile.bytes_length (p : Profile) : p.bytes.length = 27 := by simp [Profile.bytes]
@[simp] theorem Calibration.bytes_length (c : Calibration) : c.bytes.length = 28 := by simp [Calibration.bytes]
@[simp] theorem Settings.bytes_length (c : Settings) : c.bytes.length = 27 := by simp [Settings.bytes]
@[simp] theorem CarriageEntry.bytes_length (c : CarriageEntry) : c.bytes.length = 6 := by simp [CarriageEntry.bytes]
@[simp] theorem StrikePolicy.bytes_length (p : StrikePolicy) : p.bytes.length = 6 := by simp [StrikePolicy.bytes]
@[simp] theorem Accumulator.bytes_length (n : CentreId) (c : Accumulator) : (c.bytes n).length = 14 := by
  simp [Accumulator.bytes]

/-- A present form is followed by nothing, an absent one stands as zeros: both have its length and the presence byte. -/
theorem presentForm_length (n : Nat) (v : Option (List Byte)) (h : ∀ bs, v = some bs → bs.length = n) :
    (presentForm n v).length = n + 1 := by
  cases v with
  | none => simp [presentForm]
  | some bs => simp [presentForm, h bs rfl]

end Machine

end Sys2Proof
end

