-- ==== Sys2Proof/Laws/Reception.lean ====
section
/-! SUPPORT. What the wrappers of Machine/Ops.lean do with a frame that reaches its owner: one equation each, under the
readiness of Safety, so that no later proof unfolds the screen's tests. -/

namespace Sys2Proof.Machine.State

variable {s : State} {a : Addr}

@[simp] theorem countGood_responseWaiting (p : Port) : (s.countGood p).responseWaiting = s.responseWaiting := by
  cases p <;> rfl

@[simp] theorem countGood_headOwner (p : Port) (n : Node) : (s.countGood p).headOwner n = s.headOwner n := by
  cases p <;> rfl

@[simp] theorem countGood_probeOwner (p : Port) (n : Node) : (s.countGood p).probeOwner n = s.probeOwner n := by
  cases p <;> rfl

@[simp] theorem countGood_cab_field : (s.countGood .cab).field = s.field := rfl
@[simp] theorem countGood_field_cab : (s.countGood .field).cab = s.cab := rfl

/-- A MGMT_COMMAND that passes the screen reaches the responder. -/
theorem takeMgmt_reached {act : State → State} (hp : s.power.main = true) (hs : 2 ≤ a.src.val) (hd : a.dest = 1)
    (hr : s.responseWaiting = false) : s.takeMgmt a act = act (s.countGood .cab) := by
  simp [takeMgmt, hp, hd, hr, Nat.not_lt.mpr hs]

/-- A command that reaches its owner: the owner's effect on the state with the frame counted, then its reply. -/
theorem takeCommand_ready {code : Byte} {least : Level} {act : State → State × Reply} (h : s.CommandReady a least) :
    s.takeCommand a code least act
      = (act (s.countGood .cab)).1.reply a.src code (act (s.countGood .cab)).2 := by
  obtain ⟨hp, hs, hd, hr, hf, hl⟩ := h
  simp [takeCommand, takeMgmt_reached hp hs hd hr, hf, Nat.not_lt.mpr hl]

/-- A command that reaches the responder while one is in flight. -/
theorem takeCommand_busy {code : Byte} {least : Level} {act : State → State × Reply} (hp : s.power.main = true)
    (hs : 2 ≤ a.src.val) (hd : a.dest = 1) (hr : s.responseWaiting = false) (hf : s.resp.inFlight.isSome = true) :
    s.takeCommand a code least act = s.refusedCommand a code .busy := by
  simp [takeCommand, takeMgmt_reached hp hs hd hr, hf, refusedCommand]

/-- A command that reaches the responder from a sender below its level. -/
theorem takeCommand_level {code : Byte} {least : Level} {act : State → State × Reply} (hp : s.power.main = true)
    (hs : 2 ≤ a.src.val) (hd : a.dest = 1) (hr : s.responseWaiting = false) (hf : s.resp.inFlight = none)
    (hl : (s.levelOfNode a.src).code < least.code) :
    s.takeCommand a code least act = s.refusedCommand a code .privilege := by
  simp [takeCommand, takeMgmt_reached hp hs hd hr, hf, hl, refusedCommand]

/-- A ready command is ready at every lower level. -/
theorem CommandReady.mono {l k : Level} (h : s.CommandReady a l) (hk : k.code ≤ l.code) : s.CommandReady a k :=
  ⟨h.1, h.2.1, h.2.2.1, h.2.2.2.1, h.2.2.2.2.1, hk.trans h.2.2.2.2.2⟩

/-- An OPERATOR frame that passes the screen. -/
theorem takeOperator_reached {act : State → State} (hp : s.power.main = true) (hs : 2 ≤ a.src.val) (hd : a.dest.val < 2) :
    s.takeOperator a act = act (s.countGood .cab) := by
  simp [takeOperator, hp, Nat.not_lt.mpr hs, Nat.not_le.mpr hd]

/-- A request that names a hose, from a sender of OPERATOR or above. -/
theorem takeHoseRequest_ready {kind : RequestKind} {hose : Byte} {act : HoseId → State → State} {h : HoseId}
    (r : s.RequestReady a .operator) (hh : hose.toNat = h.val) :
    s.takeHoseRequest a kind hose act = act h (s.countGood .cab) := by
  obtain ⟨hp, hs, hd, hl⟩ := r
  have : finOf 6 hose.toNat = some h := by simp [finOf, hh]
  simp [takeHoseRequest, takeOperator_reached hp hs hd, Nat.not_lt.mpr hl, this]

/-- A field device frame that reaches the hose of its head. -/
theorem takeField_head {act : HoseId → State → State} {h : HoseId} (r : s.HeadReady a h) :
    s.takeField a headOwner true act = act h (s.countGood .field) := by
  obtain ⟨hp, hs, hd, ho⟩ := r
  simp [takeField, hp, Nat.not_lt.mpr hs, Nat.not_le.mpr hd, ho]

/-- A field device frame that reaches the compartment of its probe. -/
theorem takeField_probe {act : CompId → State → State} {c : CompId} (r : s.ProbeReady a c) :
    s.takeField a probeOwner true act = act c (s.countGood .field) := by
  obtain ⟨hp, hs, hd, ho⟩ := r
  simp [takeField, hp, Nat.not_lt.mpr hs, Nat.not_le.mpr hd, ho]

end Sys2Proof.Machine.State
end

