-- ==== Sys2Proof/Laws/Inversion.lean ====
section
/-! SUPPORT. Everything the reception of a frame can do, said once: to show a property of what a wrapper of Machine/Ops.lean
leaves, show it of each outcome, with the guards that lead there. A property that survives every reception (Received) then
holds after any command whose owner keeps it. -/

namespace Sys2Proof.Machine

namespace State

variable {s : State} {a : Addr} {P : State → Prop}

/-- A frame of the management class: untaken, dropped in one of three ways, or handed to the responder. -/
theorem takeMgmt_elim {act : State → State} (untaken : P s) (stray : P ((s.countGood .cab).dropStray .cab))
    (misdirected : P ((s.countGood .cab).dropMisdirected .cab)) (screened : P ((s.countGood .cab).countScreened .cab))
    (taken : s.responseWaiting = false → P (act (s.countGood .cab))) : P (s.takeMgmt a act) := by
  unfold takeMgmt
  dsimp only
  rw [countGood_responseWaiting]
  split
  · split
    · exact stray
    · split
      · exact misdirected
      · split
        · exact screened
        · next h => exact taken (by simpa using h)
  · exact untaken

/-- A well-formed command: as a management frame, then busy, refused for its level, or answered by its owner. -/
theorem takeCommand_elim {code : Byte} {least : Level} {act : State → State × Reply} (untaken : P s)
    (stray : P ((s.countGood .cab).dropStray .cab)) (misdirected : P ((s.countGood .cab).dropMisdirected .cab))
    (screened : P ((s.countGood .cab).countScreened .cab))
    (refused : s.responseWaiting = false → ∀ res, P ((s.countGood .cab).answer a.src .fail code res []))
    (taken : s.responseWaiting = false → s.resp.inFlight = none →
      P ((act (s.countGood .cab)).1.reply a.src code (act (s.countGood .cab)).2)) :
    P (s.takeCommand a code least act) := by
  refine takeMgmt_elim untaken stray misdirected screened fun hw => ?_
  dsimp only
  split
  · exact refused hw _
  · split
    · exact refused hw _
    · next h _ => exact taken hw (by simpa using h)

/-- An OPERATOR frame: untaken, dropped in one of two ways, or handed on. -/
theorem takeOperator_elim {act : State → State} (untaken : P s) (stray : P ((s.countGood .cab).dropStray .cab))
    (misdirected : P ((s.countGood .cab).dropMisdirected .cab)) (taken : P (act (s.countGood .cab))) :
    P (s.takeOperator a act) := by
  unfold takeOperator
  dsimp only
  split
  · split
    · exact stray
    · split
      · exact misdirected
      · exact taken
  · exact untaken

/-- A request that names a hose: as an OPERATOR frame, then refused, or handed to the hose. -/
theorem takeHoseRequest_elim {kind : RequestKind} {hose : Byte} {act : HoseId → State → State} (untaken : P s)
    (stray : P ((s.countGood .cab).dropStray .cab)) (misdirected : P ((s.countGood .cab).dropMisdirected .cab))
    (refused : ∀ why, P ((s.countGood .cab).requestRefused (some hose) why (some kind)))
    (taken : ∀ h, P (act h (s.countGood .cab))) : P (s.takeHoseRequest a kind hose act) := by
  refine takeOperator_elim untaken stray misdirected ?_
  split
  · exact refused _
  · split
    · exact refused _
    · exact taken _

/-- A field device frame: untaken, dropped in one of three ways, or handed to its owner. -/
theorem takeField_elim {ι : Type} {owner : State → Node → Option ι} {formOk : Bool} {act : ι → State → State}
    (untaken : P s) (stray : P ((s.countGood .field).dropStray .field))
    (misdirected : P ((s.countGood .field).dropMisdirected .field))
    (screened : P ((s.countGood .field).countScreened .field))
    (taken : ∀ i, owner (s.countGood .field) a.src = some i → formOk = true → P (act i (s.countGood .field))) :
    P (s.takeField a owner formOk act) := by
  unfold takeField
  dsimp only
  split
  · split
    · exact stray
    · split
      · exact misdirected
      · split
        · exact stray
        · next i h =>
          split
          · next hf => exact taken i h hf
          · exact screened
  · exact untaken

/-- A timer's expiry: not due, or the timer's act with the timer running in a phase that lists it. -/
theorem expiry_elim {h : HoseId} {timer : Timers → Option Nat} {inPhase : Phase → Bool} {act : State → State}
    (notDue : P s) (due : (timer (s.hose h).timers).isSome = true → inPhase (s.hose h).phase = true → P (act s)) :
    P (s.expiry h timer inPhase act) := by
  unfold expiry
  split
  · next c =>
    simp only [Bool.and_eq_true] at c
    exact due c.1.2 c.2
  · exact notDue

/-- What a good device-class frame that fits no row of its own leaves. -/
theorem dropFrame_elim {p : Port} {f : Frame} (untaken : P s) (stray : P ((s.countGood p).dropStray p))
    (misdirected : P ((s.countGood p).dropMisdirected p)) (screened : P ((s.countGood p).countScreened p)) :
    P (s.dropFrame p f) := by
  unfold dropFrame
  dsimp only
  repeat' split
  all_goals assumption

/-- What a good carriage frame leaves: screened out, or offered to the other port (R149). -/
theorem takeCarriage_elim {p : Port} {f : Frame} (untaken : P s) (screened : P ((s.countGood p).countScreened p))
    (passed : P ((s.countGood p).forward p f)) : P (s.takeCarriage p f) := by
  unfold takeCarriage carriageArrival
  dsimp only
  repeat' split
  all_goals assumption

end State

open State

/-- The rows that carry a raw frame or payload. -/
def Instr.raw : Instr → Bool
  | .badFrame _ _ | .screenDrop _ _ | .carriageFrame _ _ | .malformedRequest _ _ | .malformedCommand _ _ => true
  | _ => false

/-- What the hand-off of a frame read as a row leaves. -/
theorem handOff_elim {Q : Host.Outcome State Fault Refusal → Prop} (i : Instr) (s : State) (untaken : Q (.next s))
    (dropped : ∀ p f, Q (.next (s.dropFrame p f))) (carried : ∀ p f, Q (.next (s.takeCarriage p f)))
    (request : ∀ a, Q (.next (s.refuseRequest a))) (command : ∀ a pl, Q (.next (s.refuseCommand a pl)))
    (row : ∀ j, Instr.raw j = false → Q (exec j s)) : Q (handOff i s) := by
  have own := row i
  cases i <;> first
    | exact untaken
    | exact dropped _ _
    | exact carried _ _
    | exact request _
    | exact command _ _
    | exact own rfl

/-- What a frame delivered whole leaves. -/
theorem receiveFrame_elim {Q : Host.Outcome State Fault Refusal → Prop} (p : Port) (f : Frame) (s : State)
    (untaken : Q (.next s)) (bad : Q (.next (s.countBad p)))
    (dropped : ∀ p f, Q (.next (s.dropFrame p f))) (carried : ∀ p f, Q (.next (s.takeCarriage p f)))
    (request : ∀ a, Q (.next (s.refuseRequest a))) (command : ∀ a pl, Q (.next (s.refuseCommand a pl)))
    (row : ∀ j, Instr.raw j = false → Q (exec j s)) : Q (receiveFrame p f s) := by
  unfold receiveFrame
  split
  · exact handOff_elim _ _ untaken dropped carried request command row
  · split
    · exact bad
    · exact untaken

/-- What any command leaves: the outcomes of a frame delivered whole, or of its own row. -/
theorem exec_elim {Q : Host.Outcome State Fault Refusal → Prop} (i : Instr) (s : State) (untaken : Q (.next s))
    (bad : ∀ p, Q (.next (s.countBad p)))
    (dropped : ∀ p f, Q (.next (s.dropFrame p f))) (carried : ∀ p f, Q (.next (s.takeCarriage p f)))
    (request : ∀ a, Q (.next (s.refuseRequest a))) (command : ∀ a pl, Q (.next (s.refuseCommand a pl)))
    (row : ∀ j, Instr.raw j = false → Q (exec j s)) : Q (exec i s) := by
  have frame : ∀ p f, Q (receiveFrame p f s) := fun p f =>
    receiveFrame_elim p f s untaken (bad p) dropped carried request command row
  have own := row i
  cases i <;> first
    | exact own rfl
    | exact frame _ _
    | (show Q (execBadFrame _ _ _)
       unfold execBadFrame
       split
       · split
         · exact bad _
         · exact untaken
       · exact frame _ _)

/-- A property that survives the reception of a frame, its drop, and the frames queued in answer. -/
structure Received (P : State → Prop) : Prop where
  good : ∀ s p, P s → P (s.countGood p)
  bad : ∀ s p, P s → P (s.countBad p)
  screened : ∀ s p, P s → P (s.countScreened p)
  screen : ∀ s x, P s → P (s.setScreen x)
  forward : ∀ s p f, P s → P (s.forward p f)
  control : ∀ s k f, P s → P (s.cabControl k f)
  ordinary : ∀ s f, P s → P (s.cabOrdinary f)

namespace Received

variable {P : State → Prop} (r : Received P) {s : State} {a : Addr}

include r

theorem stray (p : Port) (h : P s) : P ((s.countGood p).dropStray p) :=
  r.screen _ _ (r.screened _ _ (r.good _ _ h))

theorem misdirected (p : Port) (h : P s) : P ((s.countGood p).dropMisdirected p) :=
  r.screen _ _ (r.screened _ _ (r.good _ _ h))

theorem answer (h : P s) (n : Node) (st : Status) (c : Byte) (res : ResultCode) (d : List Byte) :
    P (s.answer n st c res d) := r.control _ _ _ h

theorem reply (h : P s) (n : Node) (c : Byte) (x : Reply) : P (s.reply n c x) := by
  cases x with
  | now st res d => exact r.answer h ..
  | restart => exact r.control _ _ _ h
  | later => exact h

/-- A command whose owner keeps the property keeps it. -/
theorem takeCommand {code : Byte} {least : Level} {act : State → State × Reply} (h : P s)
    (owner : ∀ g, P g → P (act g).1) : P (s.takeCommand a code least act) :=
  takeCommand_elim h (r.stray _ h) (r.misdirected _ h) (r.screened _ _ (r.good _ _ h))
    (fun _ _ => r.answer (r.good _ _ h) ..) (fun _ _ => r.reply (owner _ (r.good _ _ h)) ..)

/-- An OPERATOR frame whose owner keeps the property keeps it. -/
theorem takeOperator {act : State → State} (h : P s) (owner : ∀ g, P g → P (act g)) : P (s.takeOperator a act) :=
  takeOperator_elim h (r.stray _ h) (r.misdirected _ h) (owner _ (r.good _ _ h))

/-- A request that names a hose whose owner keeps the property keeps it. -/
theorem takeHoseRequest {kind : RequestKind} {hose : Byte} {act : HoseId → State → State} (h : P s)
    (owner : ∀ k g, P g → P (act k g)) : P (s.takeHoseRequest a kind hose act) :=
  takeHoseRequest_elim h (r.stray _ h) (r.misdirected _ h) (fun _ => r.ordinary _ _ (r.good _ _ h))
    (fun k => owner k _ (r.good _ _ h))

/-- A field device frame whose owner keeps the property keeps it. -/
theorem takeField {ι : Type} {owner : State → Node → Option ι} {formOk : Bool} {act : ι → State → State} (h : P s)
    (keeps : ∀ i g, P g → P (act i g)) : P (s.takeField a owner formOk act) :=
  takeField_elim h (r.stray _ h) (r.misdirected _ h) (r.screened _ _ (r.good _ _ h))
    (fun i _ _ => keeps i _ (r.good _ _ h))

/-- A property kept by every row of its own is kept by every command. -/
theorem exec (rows : ∀ j s, Instr.raw j = false → P s → ∀ t, exec j s = .next t → P t) (i : Instr) (s t : State) (h : P s)
    (e : Machine.exec i s = .next t) : P t := by
  have := exec_elim (Q := fun o => ∀ t, o = .next t → P t) i s
    (by rintro _ ⟨⟩; exact h) (by rintro p _ ⟨⟩; exact r.bad _ _ h)
    (by
      rintro p f _ ⟨⟩
      exact dropFrame_elim h (r.stray _ h) (r.misdirected _ h) (r.screened _ _ (r.good _ _ h)))
    (by
      rintro p f _ ⟨⟩
      exact takeCarriage_elim h (r.screened _ _ (r.good _ _ h)) (r.forward _ _ _ (r.good _ _ h)))
    (by rintro a _ ⟨⟩; exact r.takeOperator h fun g hg => r.ordinary _ _ hg)
    (by
      rintro a pl _ ⟨⟩
      unfold State.refuseCommand
      split
      · exact r.takeCommand h fun g hg => hg
      · exact takeMgmt_elim h (r.stray _ h) (r.misdirected _ h) (r.screened _ _ (r.good _ _ h))
          fun _ => r.answer (r.good _ _ h) ..)
    (fun j hj t ht => rows j s hj h t ht)
  exact this t e

end Received

end Sys2Proof.Machine
end

