-- ==== Sys2Proof/Laws/Operations.lean ====
section
/-! SUPPORT. What each shared operation does, said once: the transmit queues and the arbiter, attention causes, valve commands,
a hose entering CLOSING, HELD or flow, the end of a transaction, acceptance, walks with their cut, and the stages of a
sample. A later proof cites these and does not unfold the operations. -/

namespace Sys2Proof.Machine

/-! ### Transmit queues and arbiter (R153 to R155) -/

namespace PortState

/-- The first item that meets a condition leaves the list, the others keep their order. -/
theorem takeFirst_eq_some {f : Queued → Bool} {l rest : List Queued} {x : Queued} (h : takeFirst f l = some (x, rest)) :
    ∃ before after, l = before ++ x :: after ∧ rest = before ++ after ∧ f x = true ∧ ∀ w ∈ before, f w = false := by
  induction l generalizing rest with
  | nil => simp [takeFirst] at h
  | cons it l ih =>
    simp only [takeFirst] at h
    split at h
    · next t =>
      cases h
      exact ⟨[], _, rfl, rfl, t, by simp⟩
    · next t =>
      split at h
      · next y r e =>
        cases h
        obtain ⟨b, a, rfl, rfl, hx, hb⟩ := ih e
        exact ⟨it :: b, a, rfl, rfl, hx, by simpa [t] using hb⟩
      · cases h

/-- An item before which none meets the condition is the one taken. -/
theorem takeFirst_append {f : Queued → Bool} {before after : List Queued} {x : Queued} (hx : f x = true)
    (hb : ∀ w ∈ before, f w = false) : takeFirst f (before ++ x :: after) = some (x, before ++ after) := by
  induction before with
  | nil => simp [takeFirst, hx]
  | cons it l ih =>
    simp only [List.mem_cons, forall_eq_or_imp] at hb
    simp [takeFirst, hb.1, ih hb.2]

/-- Nothing is taken exactly where no item meets the condition. -/
theorem takeFirst_eq_none {f : Queued → Bool} {l : List Queued} : takeFirst f l = none ↔ ∀ w ∈ l, f w = false := by
  induction l with
  | nil => simp [takeFirst]
  | cons it l ih =>
    simp only [takeFirst, List.mem_cons, forall_eq_or_imp]
    cases t : f it
    · simp only [Bool.false_eq_true, if_false, true_and, ← ih]
      cases takeFirst f l <;> simp
    · simp

/-- A busy transmitter takes nothing. -/
theorem pump_busy {q : PortState} (h : q.sending.isSome = true) : q.pump = q := by
  unfold pump
  split
  · rfl
  · next e => simp [e] at h

/-- A free transmitter takes the oldest control frame (R155). -/
theorem pump_control {q : PortState} {before after : List Queued} {it : Queued} (hs : q.sending = none)
    (hq : q.queue = before ++ it :: after) (hc : it.kind.control = true) (hb : ∀ w ∈ before, w.kind.control = false) :
    q.pump = { q with sending := some it, queue := before ++ after } := by
  simp [pump, hs, hq, takeFirst_append (f := fun w => w.kind.control) hc hb]

/-- Without a control frame waiting it takes the oldest frame (R155). -/
theorem pump_ordinary {q : PortState} {rest : List Queued} {it : Queued} (hs : q.sending = none)
    (hq : q.queue = it :: rest) (hb : ∀ w ∈ it :: rest, w.kind.control = false) :
    q.pump = { q with sending := some it, queue := rest } := by
  have e : takeFirst (fun w => w.kind.control) q.queue = none := takeFirst_eq_none.mpr (by rw [hq]; exact hb)
  rw [hq] at e
  simp [pump, hs, hq, e]

/-- With nothing waiting it stays as it is. -/
theorem pump_empty {q : PortState} (hq : q.queue = []) : q.pump = q := by
  unfold pump
  split
  · rfl
  · simp [hq, takeFirst]

/-- Everything the arbiter can do: nothing, or one waiting frame starts, the others keeping their order. -/
theorem pump_cases (q : PortState) :
    q.pump = q ∧ (q.sending.isSome = true ∨ q.queue = [])
      ∨ ∃ before it after, q.sending = none ∧ q.queue = before ++ it :: after
          ∧ q.pump = { q with sending := some it, queue := before ++ after } := by
  cases hs : q.sending with
  | some x => exact .inl ⟨pump_busy (by simp [hs]), .inl rfl⟩
  | none =>
    cases hq : q.queue with
    | nil => exact .inl ⟨pump_empty hq, .inr rfl⟩
    | cons it rest =>
      refine .inr ?_
      cases e : takeFirst (fun w => w.kind.control) q.queue with
      | some y =>
        obtain ⟨x, r⟩ := y
        obtain ⟨b, a, hl, rfl, hc, hb⟩ := takeFirst_eq_some e
        exact ⟨b, x, a, rfl, by rw [← hq, hl], pump_control hs hl hc hb⟩
      | none =>
        exact ⟨[], it, rest, rfl, rfl, pump_ordinary hs hq (by simpa [hq] using takeFirst_eq_none.mp e)⟩

/-- Behind a busy transmitter a control frame with no waiting frame of its kind and key takes the newest position. -/
theorem offerControl_append {q : PortState} {it : Queued} (hs : q.sending.isSome = true)
    (hn : it.kind.replaces = false ∨ ∀ w ∈ q.queue, w.kind ≠ it.kind) :
    q.offerControl it = { q with queue := q.queue ++ [it] } := by
  have : (it.kind.replaces && q.queue.any fun w => w.kind == it.kind) = false := by
    rcases hn with h | h
    · simp [h]
    · simp only [Bool.and_eq_false_iff, List.any_eq_false, beq_iff_eq]
      exact .inr h
  simp only [offerControl, this, Bool.false_eq_true, if_false]
  exact pump_busy hs

/-- Behind a busy transmitter it takes the place of a waiting frame of its kind and key (R154). -/
theorem offerControl_replace {q : PortState} {it w : Queued} (hs : q.sending.isSome = true) (hr : it.kind.replaces = true)
    (hw : w ∈ q.queue) (hk : w.kind = it.kind) :
    q.offerControl it = { q with queue := q.queue.map fun w => if w.kind = it.kind then it else w } := by
  have : (it.kind.replaces && q.queue.any fun w => w.kind == it.kind) = true := by
    simp only [hr, Bool.true_and, List.any_eq_true, beq_iff_eq]
    exact ⟨w, hw, hk⟩
  simp only [offerControl, this, if_true, beq_iff_eq]
  exact pump_busy hs

/-- A control frame offered to a free transmitter with nothing waiting is sent at once. -/
theorem offerControl_free {q : PortState} {it : Queued} (hs : q.sending = none) (hq : q.queue = [])
    (hc : it.kind.control = true) : q.offerControl it = { q with sending := some it } := by
  have : q.offerControl it = pump { q with queue := [it] } := by simp [offerControl, hq]
  rw [this, pump_control (q := { q with queue := [it] }) (before := []) (after := []) (it := it) hs rfl hc (by simp)]
  simp [hq]

/-- An ordinary frame offered where the share is full is dropped and counted (R153). -/
theorem offerOrdinary_full {q : PortState} {f : Frame} (h : q.room = false) :
    q.offerOrdinary f = { q with dropped := min (q.dropped + 1) 4294967295 } := by
  simp [offerOrdinary, h, satAdd, Config.max32]

/-- Behind a busy transmitter with room it takes the newest position. -/
theorem offerOrdinary_append {q : PortState} {f : Frame} (hs : q.sending.isSome = true) (h : q.room = true) :
    q.offerOrdinary f = { q with queue := q.queue ++ [⟨.ordinary, f⟩] } := by
  simp only [offerOrdinary, h, if_true]
  exact pump_busy hs

/-- What offering a control frame does to the counters: nothing. -/
theorem offerControl_counters (q : PortState) (it : Queued) :
    (q.offerControl it).good = q.good ∧ (q.offerControl it).bad = q.bad ∧ (q.offerControl it).screened = q.screened
      ∧ (q.offerControl it).forwarded = q.forwarded ∧ (q.offerControl it).dropped = q.dropped := by
  have key : ∀ r : PortState, r.pump.good = r.good ∧ r.pump.bad = r.bad ∧ r.pump.screened = r.screened
      ∧ r.pump.forwarded = r.forwarded ∧ r.pump.dropped = r.dropped := by
    intro r
    rcases pump_cases r with ⟨e, -⟩ | ⟨b, x, a, -, -, e⟩ <;> simp [e]
  unfold offerControl
  split <;> exact key _

/-! What keeps a queue in order: all but the ordinary count follows the kinds alone. -/

/-- The number of ordinary frames waiting, by the kinds. -/
theorem ordinaryWaiting_eq (q : PortState) :
    q.ordinaryWaiting = ((q.queue.map Queued.kind).filter fun k => !k.control).length := by
  simp [ordinaryWaiting, List.filter_map, Function.comp_def]

/-- The arbiter leaves a queue in order: it takes one frame away, and none waits behind a free transmitter. -/
theorem pump_queueOk {q : PortState} {own : QKind → Bool} (hn : q.ordinaryWaiting ≤ Config.txOrdinary)
    (ho : ∀ it ∈ q.queue, own it.kind = true)
    (hp : (q.queue.map Queued.kind).Pairwise (fun k l => k.replaces = true → k ≠ l)) : q.pump.QueueOk own := by
  rcases pump_cases q with ⟨e, hs⟩ | ⟨b, it, a, hs, hq, e⟩
  · rw [e]
    refine ⟨hn, ho, hp, fun z => ?_⟩
    rcases hs with h | h
    · simp [z] at h
    · exact h
  · have sub : (b ++ a).Sublist q.queue := by
      rw [hq]
      exact (List.Sublist.refl b).append (List.sublist_cons_self it a)
    rw [e]
    refine ⟨?_, fun w hw => ho w (sub.subset hw), hp.sublist (sub.map _), by simp⟩
    exact Nat.le_trans ((sub.filter _).length_le) hn

/-- A control frame of the port's own kinds leaves its queue in order. -/
theorem offerControl_queueOk {q : PortState} {own : QKind → Bool} {it : Queued} (h : q.QueueOk own)
    (hown : own it.kind = true) (hc : it.kind.control = true) : (q.offerControl it).QueueOk own := by
  obtain ⟨hn, ho, hp, -⟩ := h
  unfold offerControl
  split
  · have kinds : (q.queue.map fun w => if w.kind == it.kind then it else w).map Queued.kind = q.queue.map Queued.kind := by
      rw [List.map_map]
      refine List.map_congr_left fun w _ => ?_
      by_cases e : w.kind = it.kind <;> simp [e]
    refine pump_queueOk ?_ ?_ ?_
    · rw [ordinaryWaiting_eq] at hn ⊢
      simpa only [kinds] using hn
    · intro w hw
      obtain ⟨v, hv, rfl⟩ := List.mem_map.mp hw
      by_cases e : v.kind = it.kind
      · simpa [e] using hown
      · simpa [e] using ho v hv
    · simpa only [kinds] using hp
  · next fresh =>
    refine pump_queueOk ?_ ?_ ?_
    · simpa [ordinaryWaiting, hc] using hn
    · intro w hw
      rcases List.mem_append.mp hw with h | h
      · exact ho w h
      · rw [List.mem_singleton.mp h]; exact hown
    · rw [List.map_append, List.pairwise_append]
      refine ⟨hp, by simp, fun k hk l hl hr e => fresh ?_⟩
      obtain ⟨w, hw, rfl⟩ := List.mem_map.mp hk
      simp only [List.map_cons, List.map_nil, List.mem_singleton] at hl
      subst hl
      simp only [Bool.and_eq_true, List.any_eq_true, beq_iff_eq]
      exact ⟨e ▸ hr, w, hw, e⟩

/-- An ordinary frame leaves its queue in order. -/
theorem offerOrdinary_queueOk {q : PortState} {own : QKind → Bool} {f : Frame} (h : q.QueueOk own)
    (hown : own .ordinary = true) : (q.offerOrdinary f).QueueOk own := by
  obtain ⟨hn, ho, hp, hs⟩ := h
  unfold offerOrdinary
  split
  · next room =>
    refine pump_queueOk ?_ ?_ ?_
    · have : q.ordinaryWaiting < Config.txOrdinary := by
        simp only [PortState.room, Bool.and_eq_true, decide_eq_true_eq] at room
        exact room.2
      simpa [ordinaryWaiting, QKind.control] using this
    · intro w hw
      rcases List.mem_append.mp hw with h | h
      · exact ho w h
      · rw [List.mem_singleton.mp h]; exact hown
    · rw [List.map_append, List.pairwise_append]
      refine ⟨hp, by simp, fun k _ l hl hr e => ?_⟩
      simp only [List.map_cons, List.map_nil, List.mem_singleton] at hl
      rw [e, hl] at hr
      simp [QKind.replaces] at hr
  · exact ⟨hn, ho, hp, hs⟩

/-- A frame reported sent leaves the queue in order. -/
theorem sent_queueOk {q : PortState} {own : QKind → Bool} (h : q.QueueOk own) : q.sent.QueueOk own :=
  pump_queueOk (q := { q with sending := none }) h.1 h.2.1 h.2.2.1

/-- An emptied port is in order. -/
theorem emptied_queueOk (q : PortState) (own : QKind → Bool) : q.emptied.QueueOk own := by
  simp [emptied, PortState.QueueOk, ordinaryWaiting]

end PortState

/-! ### Attention causes (R132) -/

namespace State

variable {s : State} {h : HoseId} {p : Profile} {c : Context}

/-- From FIRED a cause joins the set and nothing else happens. -/
theorem setCause_fired (w : Cause) (e : s.att.state = .fired) : s.setCause w = s.setAtt ⟨s.att.causes ||| w.mask, .fired⟩ := by
  simp [setCause, e]

/-- From ARMED it fires: one ATTENTION frame with the set is queued. -/
theorem setCause_armed (w : Cause) (e : s.att.state = .armed) :
    s.setCause w = (s.setAtt ⟨s.att.causes ||| w.mask, .fired⟩).cabControl .attention
      (attentionFrame (s.att.causes ||| w.mask)) := by
  simp [setCause, e, fireAttention]

/-- Either way the unit is FIRED with the cause in its set. -/
@[simp] theorem setCause_att (w : Cause) : (s.setCause w).att = ⟨s.att.causes ||| w.mask, .fired⟩ := by
  cases e : s.att.state
  · rw [setCause_armed w e]; rfl
  · rw [setCause_fired w e]; rfl

/-! ### A hose's valve and phases (R54, R55, R61, R62, R49) -/

/-- A valve command of a hose with a profile. -/
theorem queueValve_profile (v : ValveCmd) (e : (s.hose h).profile = some p) :
    s.queueValve h v = (s.setHose h { s.hose h with lastValve := some v }).setFieldPort
      (s.field.offerControl ⟨.valve h, valveFrame p.head v⟩) := by
  simp [queueValve, e]

/-- A hose holding profile and context enters CLOSING. -/
theorem enterClosing_eq (why : EndCause) (hp : (s.hose h).profile = some p) (hc : (s.hose h).ctx = some c) :
    s.enterClosing h why = s.closedAt h p c why := by
  simp [enterClosing, modHose, queueValve, Hose.enter, Hose.period, Timers.listed, entryProgress, Hose.progress,
    cabOrdinary, closedAt, hp, hc, Context.amountSoFar]

/-- A hose holding profile and context enters HELD. -/
theorem enterHeld_eq (mark : HoldMark) (hp : (s.hose h).profile = some p) (hc : (s.hose h).ctx = some c) :
    s.enterHeld h mark = s.heldAt h p c mark := by
  simp [enterHeld, modHose, queueValve, Hose.enter, Hose.period, Timers.listed, entryProgress, Hose.progress,
    cabOrdinary, heldAt, hp, hc, Context.amountSoFar]

/-- A held hose goes back into a flowing phase. -/
theorem resumeFlow_eq (ph : Phase) (hf : ph.flowing = true) (hp : (s.hose h).profile = some p) (hc : (s.hose h).ctx = some c) :
    s.resumeFlow h ph = s.resumedAt h p c ph := by
  cases ph <;> simp [Phase.flowing] at hf <;>
    simp [resumeFlow, modHose, queueValve, Hose.enter, Hose.period, Timers.listed, entryProgress, Hose.progress,
      cabOrdinary, resumedAt, hp, hc, Context.amountSoFar]

/-! ### The end of a transaction (R53, R59, R65) -/

/-- A release where the entry is still the context's own. -/
theorem release_held {r : EntryRef} (e : s.holdsTag r = true) :
    s.release r h = s.setEntry r.index (clearBusy h (s.entry r.index)) := by simp [release, e]

/-- A release of an entry that has gone does nothing. -/
theorem release_gone {r : EntryRef} (e : s.holdsTag r = false) : s.release r h = s := by simp [release, e]

/-- A settlement where the entry is still the context's own is SETTLED. -/
theorem settle_held {r : EntryRef} {net : Nat} (e : s.holdsTag r = true) :
    s.settle r net h = (true, s.setEntry r.index (s.settledEntry (s.entry r.index) net h)) := by
  simp only [settle, e, if_true, settledEntry, Entry.refilled, clearBusy]
  generalize s.entry r.index = x
  obtain ⟨⟨_, _, _, _, _, _, al⟩, _, per, _, _, _, _, busy, _, _, _⟩ := x
  by_cases hq : per = s.table.period <;> by_cases hb : busy = some h <;> cases al <;> simp [hq, hb]

/-- A settlement of an entry that has gone is GONE and changes nothing. -/
theorem settle_gone {r : EntryRef} {net : Nat} (e : s.holdsTag r = false) : s.settle r net h = (false, s) := by
  simp [settle, e]

/-- A transaction dropped leaves what Released says. -/
theorem dropTransaction_released (hc : (s.hose h).ctx = some c) : Released s (s.dropTransaction h) h c := by
  unfold dropTransaction
  rw [hc]
  dsimp only
  unfold releaseCtx Released
  cases hk : c.entry with
  | none => exact ⟨rfl, rfl, rfl, rfl, rfl⟩
  | some r =>
    dsimp only
    cases e : s.holdsTag r
    · rw [release_gone (s := s.unreserve.uncommit c.comp c.kind c.term) (by exact e)]
      exact ⟨rfl, rfl, rfl, rfl, rfl⟩
    · rw [release_held (s := s.unreserve.uncommit c.comp c.kind c.term) (by exact e)]
      exact ⟨rfl, rfl, rfl, rfl, rfl⟩

/-- The settlement a context asks for at RESULT entry (R65 step 2): GONE only for a delivery whose entry has gone, and no
change but the settled entry. -/
theorem settleCtx_eq (s : State) (c : Context) (h : HoseId) :
    s.settleCtx c h =
      (!((match c.kind with | .delivery => c.entry | .receipt => none).any fun r => !s.holdsTag r),
        s.setTable (match (match c.kind with | .delivery => c.entry | .receipt => none) with
          | some r => if s.holdsTag r then
              { s.table with entries := vset s.table.entries r.index (s.settledEntry (s.entry r.index) c.net h) }
              else s.table
          | none => s.table)) := by
  unfold settleCtx
  cases c.kind with
  | receipt => rfl
  | delivery =>
    cases c.entry with
    | none => rfl
    | some r =>
      cases e : s.holdsTag r
      · simp [settle_gone e, e, setTable]
      · simp [settle_held e, e, setEntry]

/-- The amount of R112 and its absence for a receipt, in numbers. -/
theorem amountSoFar_eq (c : Context) : c.amountSoFar = match c.kind with
    | .delivery => some ((c.net * c.price.getD 0 * c.fraction.getD 0 + 12800000) / 25600000)
    | .receipt => none := by
  unfold Context.amountSoFar amountOf
  cases c.kind <;> rfl

/-- Entry to RESULT leaves what ResultEntered says, with its PROGRESS or, at a warm start, without. -/
theorem resultEntry_entered (frame : Bool) (hp : (s.hose h).profile = some p) (hc : (s.hose h).ctx = some c) :
    ResultEntered s (s.resultEntry h frame) h p c := by
  have post : postDelayOf (s.hose h) = if p.postDelay = 0 then none else some p.postDelay := by simp [postDelayOf, hp]
  unfold resultEntry
  rw [hc]
  dsimp only
  rw [settleCtx_eq]
  have same : ∀ x, ((s.uncommit c.comp c.kind c.term).setTable x).hose h = s.hose h := fun _ => rfl
  unfold ResultEntered
  cases frame <;>
  · refine ⟨?_, rfl, rfl, rfl⟩
    show vset s.hoses h _ = _
    congr 1
    simp only [Hose.enter, resultCtx, amountSoFar_eq, same, post, Bool.not_not]
    rfl

/-! ### Acceptance (R36, R39, R41, R186) -/

/-- Flow start at a hose holding profile and context. -/
theorem flowStart_eq (hp : (s.hose h).profile = some p) (hc : (s.hose h).ctx = some c) :
    s.flowStart h =
      ((s.setHose h { s.hose h with
          phase := .slowStart, mark := none, resG := 0, resN := 0, lastValve := some .openSlow
          ctx := some { c with gross := 0, net := 0, heldTemp := none, startTime := some s.resp.clock,
                               flags := c.flags ||| flagIf (!s.resp.clockSet) .clockUnset }
          timers := { Timers.stopped with noFlow := some p.noFlow, silence := some p.silence } }).setFieldPort
        (s.field.offerControl ⟨.valve h, valveFrame p.head .openSlow⟩)).setCabPort
          (s.cab.offerOrdinary (progressFrame h .slowStart 0
            (match c.kind with | .delivery => some 0 | .receipt => none))) := by
  have zero : amountOf 0 (c.price.getD 0) (c.fraction.getD 0) = 0 := by simp [amountOf]
  cases hk : c.kind <;> simp [flowStart, modHose, queueValve, Hose.enter, Hose.period, Timers.listed, entryProgress,
    Hose.progress, cabOrdinary, hp, hc, hk, Context.amountSoFar, zero]

/-- A reservation raises the reserved count, and the level that reaches 960 sets LOG_HIGH (R115, R118). -/
theorem reserve_eq (s : State) :
    s.reserve = if s.billing.level + 1 = Config.logHighLevel
      then (s.setBilling { s.billing with reserved := s.billing.reserved + 1 }).setCause .logHigh
      else s.setBilling { s.billing with reserved := s.billing.reserved + 1 } := by
  by_cases e : s.billing.level + 1 = Config.logHighLevel
  · have : ({ s.billing with reserved := s.billing.reserved + 1 } : Billing).level = Config.logHighLevel := by
      rw [← e]; simp [Billing.level, Billing.storedCount, Nat.add_assoc]
    simp [reserve, levelRaised, e, this]
  · simp [reserve, levelRaised, e]

/-- What an acceptance has done before the hose is written: slot, busy hose and commitment. -/
theorem accept_units (s : State) (h : HoseId) (c : Context) :
    (s.reserve.takeEntry h c).commit c.comp c.kind c.preset =
      { s.reserve with
        table := (match c.entry with
          | some r => { s.table with entries := vset s.table.entries r.index { s.entry r.index with busy := some h } }
          | none => s.table)
        comps := vset s.comps c.comp ((s.comp c.comp).withCommit c.kind fun v => v + c.preset) } := by
  have hc : s.reserve.comps = s.comps := by simp
  have ht : s.reserve.table = s.table := by simp
  unfold takeEntry commit
  cases c.entry with
  | none => simp only [setComp, State.comp, hc, ← ht]
  | some r => simp only [setEntry, setTable, setComp, State.comp, State.entry, hc, ht]

/-- An acceptance step by step: the units, the hose in AUTHORIZED, its two frames, then flow start where the nozzle is lifted
and no site stop is in force. -/
theorem accept_eq (hp : (s.hose h).profile = some p) :
    s.accept h c =
      (let u := (s.reserve.takeEntry h c).commit c.comp c.kind c.preset
       let w := (u.setHose h { s.hose h with
          phase := .authorized, mark := none, ctx := some c
          timers := { Timers.stopped with window := some p.window } }).setCabPort
        ((u.cab.offerOrdinary (progressFrame h .authorized c.net c.amountSoFar)).offerOrdinary
          (grantedFrame h c.machine c.preset c.flags))
       if (s.hose h).nozzle.isLifted && !s.siteStop then w.flowStart h else w) := by
  have hu : ((s.reserve.takeEntry h c).commit c.comp c.kind c.preset).hose h = s.hose h := by simp
  have hs : ((s.reserve.takeEntry h c).commit c.comp c.kind c.preset).siteStop = s.siteStop := by simp
  unfold accept
  generalize (s.reserve.takeEntry h c).commit c.comp c.kind c.preset = u at hu hs
  simp [modHose, Hose.enter, Hose.period, Timers.listed, entryProgress, Hose.progress, cabOrdinary, hu, hs, hp]
  rfl

/-- A reservation's units: the Attention Unit and the cab port change only where the level meets 960. -/
theorem reserve_parts (s : State) :
    s.reserve.billing = { s.billing with reserved := s.billing.reserved + 1 }
      ∧ s.reserve.att = (if s.billing.level + 1 = Config.logHighLevel then ⟨s.att.causes ||| Cause.logHigh.mask, .fired⟩ else s.att)
      ∧ s.reserve.cab = (if decide (s.billing.level + 1 = Config.logHighLevel) && s.att.state == .armed then
          s.cab.offerControl ⟨.attention, ownFrame 0 9 (be2 (s.att.causes ||| Cause.logHigh.mask))⟩ else s.cab) := by
  by_cases e : s.billing.level + 1 = Config.logHighLevel
  · rw [reserve_eq, if_pos e]
    cases a : s.att.state
    · rw [setCause_armed _ (by simpa using a)]
      simp [e, setBilling, setAtt, cabControl, setCabPort, attentionFrame]
    · rw [setCause_fired _ (by simpa using a)]
      simp [e, setBilling, setAtt]
  · rw [reserve_eq, if_neg e]
    simp [e, setBilling]

/-- An acceptance leaves what Accepted says. -/
theorem accept_accepted (hp : (s.hose h).profile = some p) : Accepted s (s.accept h c) h p c := by
  have rest : s.reserve = { s with billing := s.reserve.billing, att := s.reserve.att, cab := s.reserve.cab } := by
    apply State.ext <;> simp
  obtain ⟨hb, ha, hc⟩ := s.reserve_parts
  rw [accept_eq hp, accept_units, rest, hb, ha, hc]
  unfold Accepted
  dsimp only
  split
  · next lifted =>
    rw [flowStart_eq (p := p) (c := c) (by simp [hp]) (by simp)]
    refine ⟨rfl, rfl, rfl, ?_, by simp, rfl, rfl, rfl⟩
    simp
  · next lifted =>
    exact ⟨rfl, rfl, rfl, rfl, by simp, rfl, rfl, rfl⟩

/-! ### Walks (R5, R6) -/

/-- The walk for a tag, with what its outcome does to the state: a fault cuts the chain, counts it and sets TABLE_FAULT. -/
theorem walkTag_eq (s : State) (tag : TagId) :
    s.walkTag tag = ((s.table.walk (bucketOf tag) (some tag)).1,
      match (s.table.walk (bucketOf tag) (some tag)).1 with
      | .fault pred => s.afterCut tag pred
      | _ => s) := by
  unfold walkTag walkBucket
  dsimp only
  cases e : (s.table.walk (bucketOf tag) (some tag)).1 <;> simp [e, afterCut]

/-! ### SWEEP (R18, R19) -/

/-- The marking walk of one bucket: what it marks, and the chain cut, counted and reported where it met a fault. -/
theorem markBucket_eq (s : State) (b : Bucket) (w : SweepWork) :
    State.markBucket b (w, s) =
      ({ w with
          walked := w.walked + 1, marks := w.marks ++ (s.table.walk b none).2,
          faults := w.faults + (match (s.table.walk b none).1 with | .fault _ => 1 | _ => 0) },
        match (s.table.walk b none).1 with
        | .fault pred => (s.setTable (s.table.cut b pred)).setCause .tableFault
        | _ => s) := by
  unfold State.markBucket walkBucket
  dsimp only
  cases e : (s.table.walk b none).1 <;> simp [e]

/-- The buckets still to walk begin with the next one. -/
theorem buckets_from : ∀ b : Bucket, (ids 64).filter (fun k => decide (b.val ≤ k.val))
    = b :: (ids 64).filter (fun k => decide (b.val + 1 ≤ k.val)) := by decide +kernel

/-- A bucket walked ahead is one less for the rest of the marking phase. -/
theorem sweepMark_next (s : State) (w : SweepWork) (b : Bucket) (h : w.walked = b.val) :
    State.sweepMark (w, s) = State.sweepMark (State.markBucket b (w, s)) := by
  have : (State.markBucket b (w, s)).1.walked = b.val + 1 := by simp [State.markBucket, h]
  unfold State.sweepMark
  rw [this]
  simp only [h]
  rw [buckets_from b, List.foldl_cons]

/-- With every bucket walked nothing is left to mark. -/
theorem sweepMark_walked (s : State) (w : SweepWork) (h : 64 ≤ w.walked) : State.sweepMark (w, s) = (w, s) := by
  have : (ids 64).filter (fun b => decide (w.walked ≤ b.val)) = [] := by
    rw [List.filter_eq_nil_iff]
    intro b _
    have := b.isLt
    simp
    omega
  unfold State.sweepMark
  simp only [this, List.foldl_nil]

/-! ### The retained store (R179) -/

/-- The stored control CRC matches the control items exactly where no loss stands between them. -/
theorem controlCrc_matches (s : State) : s.controlCrc = crc16 s.controlBytes ↔ s.power.crcDiff = 0#16 := by
  constructor
  · intro e
    have := congrArg (crc16 s.controlBytes ^^^ ·) e
    simpa [controlCrc, ← BitVec.xor_assoc] using this
  · intro e
    simp [controlCrc, e]

/-- The store is valid where the marker is present and its CRC matches. -/
theorem storeValid_iff (s : State) :
    s.storeValid = true ↔ s.power.marker = true ∧ s.controlCrc = crc16 s.controlBytes := by
  simp [storeValid, controlCrc_matches]

/-! ### The book (R89, R96) -/

/-- An increment within 48 bits moves the book by itself, and the judgement follows. -/
theorem bookMetered_fits {k : CompId} {d : Int} (hs : (s.comp k).settings.isSome = true)
    (hd : fits48 ((s.comp k).book + d) = true) :
    s.bookMetered k d = (s.setComp k { s.comp k with book := (s.comp k).book + d }).judge k := by
  simp [bookMetered, hs, addBook, signed48, drawFor, hd]

/-- At an unconfigured compartment it is discarded. -/
theorem bookMetered_unconfigured {k : CompId} {d : Int} (hs : (s.comp k).settings = none) : s.bookMetered k d = s := by
  simp [bookMetered, hs]

/-- The restock judgement of a configured compartment, whole (R96, R97). -/
theorem judge_configured {k : CompId} {st : Settings} (e : (s.comp k).settings = some st) :
    let x := s.comp k
    let low := decide (x.restock = .normal ∧ x.book < st.low)
    let back := decide (x.restock ≠ .normal ∧ (st.low : Int) + st.hysteresis ≤ x.book)
    s.judge k = { s with
      comps := vset s.comps k { x with
        restock := if low then .low else if back then .normal else x.restock
        orderRef := if back then none else x.orderRef
        requestTime := if low then some s.resp.clock else if back then none else x.requestTime }
      cab := if low then s.cab.offerControl ⟨.restock k, restockFrame k st.grade x.book st.capacity s.resp.clock⟩ else s.cab } := by
  intro x low back
  have same : ∀ r, x.restock = r → s = { s with comps := vset s.comps k { x with settings := some st, restock := r } } := by
    rintro _ rfl
    rw [← e]
    exact (show s.setComp k (s.comp k) = s by simp [setComp, comp]).symm
  unfold judge
  rw [e]
  dsimp only
  cases hr : x.restock with
  | normal =>
    by_cases hl : x.book < st.low
    · simp [x, low, back, hr, hl, e, cabControl, setCabPort, setComp]
    · simpa [x, low, back, hr, hl, e] using same _ hr
  | low | ordered =>
    by_cases hb : (st.low : Int) + st.hysteresis ≤ x.book
    · simp [x, low, back, hr, hb, e, setComp]
    · simpa [x, low, back, hr, hb, e] using same _ hr

/-- A change of the book and of the unattributed draw, before the judgement (R89). -/
theorem addBook_addDraw (k : CompId) (d : Int) :
    let x := s.comp k
    let draws := if fits48 (x.book + d) then s.draws else s.draws + 1
    (s.addBook k d).addDraw k (-d) = { s with
      comps := vset s.comps k { x with
        book := if fits48 (x.book + d) then x.book + d else (Config.unstated48 s.draws (x.book + d)).toInt
        unattributed := if fits48 (x.unattributed - d) then x.unattributed - d
          else (Config.unstated48 draws (x.unattributed - d)).toInt }
      draws := if fits48 (x.unattributed - d) then draws else draws + 1 } := by
  intro x draws
  have ed : x.unattributed + -d = x.unattributed - d := rfl
  by_cases f1 : fits48 (x.book + d) = true <;> by_cases f2 : fits48 (x.unattributed - d) = true <;>
    simp_all [addBook, addDraw, drawFor, signed48, draws, x, setComp, setDraws, comp]

/-- At an unconfigured compartment unbilled flow leaves no trace. -/
theorem bookUnbilled_unconfigured {k : CompId} {d : Int} (e : (s.comp k).settings = none) : s.bookUnbilled k d = s := by
  simp [bookUnbilled, e]

/-- Unbilled flow at a configured compartment, whole but for the hose and the cause (R67, R89, R96, R97). -/
theorem bookUnbilled_configured {k : CompId} {d : Int} {st : Settings} (e : (s.comp k).settings = some st) :
    let x := s.comp k
    let book := if fits48 (x.book + d) then x.book + d else (Config.unstated48 s.draws (x.book + d)).toInt
    let draws := if fits48 (x.book + d) then s.draws else s.draws + 1
    let low := decide (x.restock = .normal ∧ book < st.low)
    let back := decide (x.restock ≠ .normal ∧ (st.low : Int) + st.hysteresis ≤ book)
    s.bookUnbilled k d = { s with
      comps := vset s.comps k { x with
        book := book
        unattributed := if fits48 (x.unattributed - d) then x.unattributed - d
          else (Config.unstated48 draws (x.unattributed - d)).toInt
        restock := if low then .low else if back then .normal else x.restock
        orderRef := if back then none else x.orderRef
        requestTime := if low then some s.resp.clock else if back then none else x.requestTime }
      cab := if low then s.cab.offerControl ⟨.restock k, restockFrame k st.grade book st.capacity s.resp.clock⟩ else s.cab
      draws := if fits48 (x.unattributed - d) then draws else draws + 1 } := by
  intro x book draws low back
  unfold bookUnbilled
  simp only [e, Option.isSome_some, if_true]
  rw [judge_configured (st := st) (by rw [addBook_addDraw]; simpa [comp] using e), addBook_addDraw]
  simp only [comp, vget_vset_self, vset_vset]
  rfl

end State

/-! ### The stages of a sample (R73 to R80) -/

/-- Nothing of a sample's gross volume is lost: increment and residue make up the product (R74). -/
theorem measure_gross (c : Calibration) (beta step p resG resN : Nat) (t held : Option Int) :
    100000000 * (measure c beta step p resG resN t held).g + (measure c beta step p resG resN t held).resG
      = p * c.weight * c.factor (p / step) + resG := by
  simp only [measure, Calibration.grossProduct, bandRate]
  exact Nat.div_add_mod _ _

/-- Nor of its net volume (R77). -/
theorem measure_net (c : Calibration) (beta step p resG resN : Nat) (t held : Option Int) :
    1000000 * (measure c beta step p resG resN t held).n + (measure c beta step p resG resN t held).resN
      = (measure c beta step p resG resN t held).g * (vcf beta (measure c beta step p resG resN t held).temp.used).toNat
        + resN := by
  simp only [measure]
  exact Nat.div_add_mod _ _

/-- The residues it leaves are remainders of their divisions (R74, R77). -/
theorem measure_residues (c : Calibration) (beta step p resG resN : Nat) (t held : Option Int) :
    (measure c beta step p resG resN t held).resG < 100000000
      ∧ (measure c beta step p resG resN t held).resN < 1000000 := by
  simp only [measure]
  omega

/-- The temperature used lies between −40.0 and 70.0 degrees, where a held one does (R75). -/
theorem chooseTemp_range {t held : Option Int} {g : Nat} (h : ∀ x, held = some x → -400 ≤ x ∧ x ≤ 700) :
    -400 ≤ (chooseTemp t held g).used ∧ (chooseTemp t held g).used ≤ 700
      ∧ ∀ x, (chooseTemp t held g).held = some x → -400 ≤ x ∧ x ≤ 700 := by
  unfold chooseTemp
  cases t with
  | some t =>
    dsimp only
    split
    · simp
    · split
      · simp
      · simp
        omega
  | none =>
    cases held with
    | some x => simpa using ⟨(h x rfl).1, (h x rfl).2, h x rfl⟩
    | none => simp

/-- At such a temperature and a coefficient of at most 200 the factor is positive (R76, R84). -/
theorem vcf_pos {beta : Nat} {t : Int} (hb : beta ≤ 200) (ht : t ≤ 700) : 0 < vcf beta t := by
  unfold vcf
  have hz : 0 ≤ (200 : Int) - beta := by omega
  by_cases h : t ≤ 150
  · have : (beta : Int) * (t - 150) ≤ 0 := Int.mul_nonpos_of_nonneg_of_nonpos (by omega) (by omega)
    omega
  · have : (beta : Int) * (t - 150) ≤ 200 * 550 := Int.mul_le_mul (by omega) (by omega) (by omega) (by omega)
    omega

end Sys2Proof.Machine
end

