-- ==== Sys2Proof/Laws/Reading.lean ====
section
/-! SUPPORT. What a payload is read as: which rows requestInstr, commandInstr and frameInstr can answer. -/

namespace Sys2Proof

/-- Operands that fit a code are read as a row of that code, from the same nodes. -/
theorem commandOps_command (a : Addr) (code : Nat) (ops : List Byte) (i : Instr) (h : commandOps a code ops = some i) :
    ∃ least, i.command = some (a, BitVec.ofNat 8 code, least) := by
  unfold commandOps at h
  repeat' split at h
  all_goals first
    | simp only [reduceCtorEq] at h
    | (simp only [Option.some.injEq] at h; subst h; first | exact ⟨_, rfl⟩ | skip)
  exact ⟨_, if_neg ‹_›⟩

/-- A management payload is read as a row of its code, or as malformed. -/
theorem commandInstr_cases (a : Addr) (pl : List Byte) :
    commandInstr a pl = .malformedCommand a pl
      ∨ ∃ code ops least, pl = code :: ops ∧ (commandInstr a pl).command = some (a, code, least) := by
  cases pl with
  | nil => exact .inl rfl
  | cons c ops =>
    rcases h : commandOps a c.toNat ops with _ | i
    · exact .inl (by simp [commandInstr, h])
    · obtain ⟨least, e⟩ := commandOps_command a _ _ _ h
      exact .inr ⟨c, ops, least, rfl, by simpa [commandInstr, h] using e⟩

end Sys2Proof
end

