-- ==== Sys2Proof/Tests/Slice0.lean ====
section
/-! SUPPORT. Small tests: the ill-formed terms that WellFormed refuses, the manual's own figures, one step of every command,
and for each statement of the certificates a state that meets its hypotheses. Expected values come from the manual (the
chapter's worked sequence or rule is named) or are formed from it by hand. -/

set_option Elab.async false

namespace Sys2Proof.Tests

open Sys2Proof Sys2Proof.Machine

/-! ### States -/

/-- The state after a command; the state met where it stopped (no command stops). -/
def after (i : Instr) (s : State) : State :=
  match exec i s with
  | .next t => t
  | _ => s

/-- The payload of the newest frame waiting at the cab port. -/
def said (s : State) : List Byte := ((s.cab.queue.getLast?).map fun q => q.frame.payload).getD []

/-- Reset with node 3 at OPERATOR and node 5 at SUPERVISOR; node 2, the strap node, is at SITE (9.10). -/
def rdy : State :=
  State.reset.setResp { State.reset.resp with levels := vset (vset State.reset.resp.levels 3 .operator) 5 .supervisor }

def site2 : Addr := ⟨1, 2⟩
def oper3 : Addr := ⟨1, 3⟩
def sup5 : Addr := ⟨1, 5⟩

/-- An ISSUE profile on head node 10 and compartment 1 (3.11), its class mask without class 4 (2.12). -/
def issue0 : Profile :=
  { mode := .issue, head := 10, comp := 1, classMask := 0xFFEF, maxPreset := 1500000, minDelivery := 1000, slowStart := 2000,
    slowStop := 3000, window := 120, noFlow := 45, silence := 20, settle := 30, postDelay := 60, holdLimit := 300 }

/-- A RECEIVE profile on head node 15 and compartment 1 (5.10). -/
def receive5 : Profile := { issue0 with mode := .receive, head := 15 }

/-- The calibration of 4.11. -/
def cal411 : Calibration := ⟨10000, 120, 260, 400, 100300, 100120, 99960, 99800, 600⟩

/-- Compartment 1's settings of 5.10, with probe node 20. -/
def diesel : Settings :=
  { grade := 2, probe := some 20, capacity := 30000000, dead := 400000, low := 6000000, hysteresis := 4000000,
    high := 28500000, tolerance := 150000, limit := 3 }

/-- A loaded machine: tag 33 (bucket 33), number 1, class 1, cost centre 12, grade 2, hour check ON, 1,200,000 mL (11.4). -/
def truck : Loaded := ⟨33, 1, 1, 12, 0x04, true, some 1200000⟩

/-- A commissioned truck: hoses 0 and 5, compartment 1 with 7,000,000 mL, one machine at index 0. -/
def truckSite : State :=
  { rdy with
    table := { Table.cold with
      entries := vset Table.cold.entries 0 { newEntry truck 0 none none with lastHours := some 51230 }
      heads := vset Table.cold.heads 33 (some 0), free := Table.cold.free.tail }
    hoses := vset (vset rdy.hoses 0 { Hose.cold with profile := some issue0, phase := .idle, cal := some cal411 }) 5
      { Hose.cold with profile := some receive5, phase := .idle, cal := some cal411 }
    betas := vset rdy.betas 2 84
    comps := vset rdy.comps 1 { Compartment.cold with settings := some diesel, book := 7000000, base := 7000000 }
    billing := { rdy.billing with prices := vset rdy.billing.prices 2 18745 } }

/-- A delivery to the machine, accepted with 12,000 mL (3.11). -/
def delivery : Context :=
  { freshContext .delivery 2 1 0 12000 Flag.allowanceLimited.mask (some 51300) with
    entry := some ⟨0, 33⟩, machine := some 1, cls := some 1, centre := some 12, price := some 18745, fraction := some 256,
    startTime := some 0 }

/-- The truck with hose 0 holding the delivery in a phase, with some timers and totals. -/
def inPhase (ph : Phase) (timers : Timers) (gross net : Nat) : State :=
  { truckSite with
    hoses := vset truckSite.hoses 0
      { truckSite.hose 0 with phase := ph, ctx := some { delivery with gross := gross, net := net }, nozzle := .lifted
                              pulse := some ⟨65400, 40⟩, timers := timers
                              mark := if ph = .held then some .operator else none }
    table := { truckSite.table with entries := vset truckSite.table.entries 0 { truckSite.entry 0 with busy := some 0 } }
    comps := vset truckSite.comps 1 { truckSite.comp 1 with committedIssue := if ph = .result then 0 else 12000 - net }
    billing := { truckSite.billing with reserved := 1 } }

def flowTimers : Timers := { Timers.stopped with noFlow := some 45, silence := some 20 }
def authorized : State := inPhase .authorized { Timers.stopped with window := some 120 } 0 0
def flowing : State := inPhase .slowStart flowTimers 0 0
def held : State := inPhase .held { Timers.stopped with silence := some 20, holdLimit := some 300 } 0 0
/-- CLOSING after sample 13 of 3.11. -/
def closing : State := inPhase .closing { Timers.stopped with settle := some 30 } 12652 12455
/-- RESULT of the delivery of 3.11. -/
def result : State :=
  let s := inPhase .result { Timers.stopped with postDelay := some 60 } 12652 12455
  s.modHose 0 fun x =>
    { x with ctx := x.ctx.map fun c => { c with amount := some 2335, endCause := some .presetReached, endTime := some 9 } }
/-- The truck without its main supply. -/
def dark : State := truckSite.setPower { truckSite.power with main := false }
/-- A frame from a head or probe to the part. -/
def head10 : Addr := ⟨1, 10⟩
def head15 : Addr := ⟨1, 15⟩
def probe20 : Addr := ⟨1, 20⟩
/-- A receipt flowing at hose 5. -/
def receiving : State :=
  { truckSite with
    hoses := vset truckSite.hoses 5
      { truckSite.hose 5 with phase := .fullFlow, nozzle := .connected, timers := flowTimers
                              ctx := some (freshContext .receipt 2 1 0 22000000 0 none) }
    comps := vset truckSite.comps 1 { truckSite.comp 1 with committedReceive := 22000000 }
    billing := { truckSite.billing with reserved := 1 } }

/-! ### WellFormed refuses -/

theorem test_wf_bad_frame_passes_check : Instr.wf (.badFrame .cab (Frame.bytes ⟨1, 2, 11, [1]⟩)) = false := by decide +kernel
theorem test_wf_carriage_class_12 : Instr.wf (.carriageFrame .cab ⟨9, 3, 12, []⟩) = false := by decide
theorem test_wf_screen_class_13 : Instr.wf (.screenDrop .cab ⟨9, 3, 13, []⟩) = false := by decide
theorem test_wf_carriage_129_bytes : Instr.wf (.carriageFrame .cab ⟨9, 3, 13, List.replicate 129 0⟩) = false := by
  decide +kernel
theorem test_wf_screen_129_bytes : Instr.wf (.screenDrop .cab ⟨9, 3, 1, List.replicate 129 0⟩) = false := by decide +kernel
theorem test_wf_request_that_is_one : Instr.wf (.malformedRequest oper3 [5]) = false := by decide
theorem test_wf_request_129_bytes : Instr.wf (.malformedRequest oper3 (List.replicate 129 0)) = false := by decide +kernel
theorem test_wf_command_that_is_one : Instr.wf (.malformedCommand site2 [1]) = false := by decide
theorem test_wf_command_129_bytes : Instr.wf (.malformedCommand site2 (List.replicate 129 0)) = false := by decide +kernel
theorem test_wf_status_option_1 : Instr.wf (.status site2 1 0 1) = false := by decide

/-! ### The manual's figures -/

/-- The check value of R140. -/
theorem test_crc_check_value :
    crc16 [0x31, 0x32, 0x33, 0x34, 0x35, 0x36, 0x37, 0x38, 0x39] = 0x29B1#16 := by decide +kernel
/-- The bucket of 1.2's example. -/
theorem test_bucket_example : bucketOf 0x123456789ABC#48 = 33 := by decide
/-- The three deliveries priced in 6.3. -/
theorem test_amounts_of_6_3 :
    amountOf 612345 18745 288 = 129132 ∧ amountOf 1000 18745 256 = 187 ∧ amountOf 1000 50 256 = 1 := by decide +kernel
/-- Sample 1 of 4.11: g 2,002 with 40,000,000 carried, n 1,962 with 480,520 carried. -/
theorem test_sample_1_of_4_11 :
    let m := measure cal411 84 1 200 0 0 (some 385) none
    m.g = 2002 ∧ m.resG = 40000000 ∧ m.n = 1962 ∧ m.resN = 480520 ∧ m.flags = 0 := by decide +kernel
/-- Sample 4 of 4.11: two periods in one, the temperature held. -/
theorem test_sample_4_of_4_11 :
    let m := measure cal411 84 2 380 20000000 421820 none (some 385)
    m.g = 3804 ∧ m.resG = 76000000 ∧ m.n = 3729 ∧ m.resN = 330860 ∧ m.flags = Flag.sampleGap.mask ||| Flag.tempHeld.mask := by
  decide +kernel
theorem test_no_row_spells_a_word : decodeTableWord 16 0x0501 = none ∧ State.reset.withFetchWord 8 5 = State.reset := by
  refine ⟨rfl, rfl⟩

/-! ### One step of every command -/

/-- A bad frame of 5 bytes (R139). -/
theorem test_bad_frame_counts :
    (after (.badFrame .field [1, 2, 3, 0, 0]) rdy).field.bad = 1 ∧ (after (.badFrame .field [1, 2, 3, 0, 0]) rdy).field.good = 0 := by
  decide +kernel
/-- A VALVE frame from another node is misdirected (R143); a head frame before commissioning is stray (R144). -/
theorem test_screen_drop_misdirected :
    (after (.screenDrop .field ⟨1, 10, 5, [0]⟩) rdy).screen.misdirected = 1 := by decide +kernel
theorem test_screen_drop_stray :
    (after (.screenDrop .field ⟨1, 10, 1, [1, 1]⟩) rdy).screen.stray = 1 := by decide +kernel
/-- Class 20 of 8.8: source 3 forwarded to field node 9, source 4 screened out. -/
def display : State :=
  rdy.setScreen { rdy.screen with table := vset rdy.screen.table 7 ⟨false, true, 1#32 <<< 3, .always⟩ }
theorem test_carriage_forwarded :
    (after (.carriageFrame .cab ⟨9, 3, 20, [65]⟩) display).field.sending = some ⟨.ordinary, ⟨9, 3, 20, [65]⟩⟩ := by
  decide +kernel
theorem test_carriage_source_not_in_set :
    (after (.carriageFrame .cab ⟨9, 4, 20, [65]⟩) display).cab.screened = 1 := by decide +kernel
/-- A read of the machine is granted 1,200,000 mL, limited by its allowance (R34, R36). -/
theorem test_tag_read_granted :
    let t := after (.tagRead head10 33 51300 3) truckSite
    (t.hose 0).phase = .authorized ∧ (t.comp 1).committedIssue = 1200000 ∧ t.billing.reserved = 1
      ∧ (t.entry 0).busy = some 0 ∧ (t.entry 0).lastHours = some 51300
      ∧ (t.hose 0).ctx.map Context.flags = some Flag.allowanceLimited.mask := by decide +kernel
/-- 2.12: a reading of 53,400 lies above the window that ends at 53,230; the strike count becomes 1. -/
theorem test_tag_read_hours_strike :
    let t := after (.tagRead head10 33 53400 3) truckSite
    (t.hose 0).phase = .idle ∧ (t.entry 0).strikes = 1 ∧ (t.entry 0).barred = false := by decide +kernel
/-- Flow starts at a lift (R49) and the head is told to open slowly. -/
theorem test_nozzle_lift_starts_flow :
    let t := after (.nozzle head10 1) authorized
    (t.hose 0).phase = .slowStart ∧ t.field.sending = some ⟨.valve 0, ⟨10, 1, 5, [1]⟩⟩ := by decide +kernel
/-- A hang ends flow (R54). -/
theorem test_nozzle_hang_ends_flow :
    let t := after (.nozzle head10 2) flowing
    (t.hose 0).phase = .closing ∧ t.field.sending = some ⟨.valve 0, ⟨10, 1, 5, [0]⟩⟩ := by decide +kernel
/-- Sample 1 of 4.11, the total wrapped from 65,400 to 64, at hose 0 and on the book. -/
theorem test_meter_sample_1_of_4_11 :
    let t := after (.meterSample head10 41 64 385) flowing
    ((t.hose 0).ctx.map fun c => (c.gross, c.net)) = some (2002, 1962) ∧ (t.comp 1).book = 6998038
      ∧ (t.comp 1).committedIssue = 10038 ∧ (t.hose 0).resG = 40000000 := by decide +kernel
/-- A duplicate changes nothing but the port's count (R71). -/
theorem test_meter_sample_duplicate :
    let t := after (.meterSample head10 40 9 385) flowing
    t.hose 0 = flowing.hose 0 ∧ t.comp 1 = flowing.comp 1 ∧ t.field.good = 1 := by decide +kernel
theorem test_head_status_fault :
    let t := after (.headStatus head10 7) flowing
    (t.hose 0).phase = .closing ∧ hasCause t.att.causes .headFault = true := by decide +kernel
/-- 5.10: a book 180,320 mL above the reading counts as wide. -/
theorem test_probe_wide :
    let t := after (.probe probe20 6819680 0) truckSite
    (t.comp 1).varCount = 1 ∧ (t.comp 1).lastReading = some 6819680 := by decide +kernel
/-- A reading at the high threshold stops the receipt (R95). -/
theorem test_probe_overfill :
    let t := after (.probe probe20 28500000 0) receiving
    (t.hose 5).phase = .closing ∧ hasCause t.att.causes .overfill = true := by decide +kernel
theorem test_post :
    let t := after (.post oper3 0) result
    t.billing.stored.map Record.amount = [some 2335] ∧ t.billing.nextSeq = 2 ∧ (t.hose 0).phase = .idle := by decide +kernel
theorem test_post_wrong_phase : said (after (.post oper3 0) flowing) = [3, 0, 19, 1] := by decide +kernel
theorem test_hold :
    let t := after (.hold oper3 0) flowing
    (t.hose 0).phase = .held ∧ (t.hose 0).mark = some .operator := by decide +kernel
theorem test_resume_to_slow_start : ((after (.resume oper3 0) held).hose 0).phase = .slowStart := by decide +kernel
theorem test_stop_ends_flow :
    (((after (.stop oper3 0) flowing).hose 0).ctx.bind Context.endCause) = some .operatorStop := by decide +kernel
theorem test_stop_cancels :
    let t := after (.stop oper3 0) authorized
    (t.hose 0).phase = .idle ∧ (t.comp 1).committedIssue = 0 ∧ t.billing.reserved = 0 ∧ (t.entry 0).busy = none := by
  decide +kernel
/-- 3.12: the flowing hose is held under mark SITE. -/
theorem test_emergency_stop :
    let t := after (.emergencyStop oper3) flowing
    t.siteStop = true ∧ (t.hose 0).phase = .held ∧ (t.hose 0).mark = some .site := by decide +kernel
theorem test_manual_auth :
    let t := after (.manualAuth sup5 0 12 1 0 0xFFFF#16 0) truckSite
    (t.hose 0).phase = .authorized ∧ (t.comp 1).committedIssue = 1500000 := by decide +kernel
/-- 5.10's RECEIVE_START of 22,000,000 mL, here with a receive availability of 21,500,000. -/
theorem test_receive_start :
    let t := after (.receiveStart sup5 5 22000000 1 40117) truckSite
    (t.hose 5).phase = .authorized ∧ (t.comp 1).committedReceive = 21500000
      ∧ (t.hose 5).ctx.map Context.flags = some Flag.ullageLimited.mask := by decide +kernel
theorem test_malformed_request : said (after (.malformedRequest oper3 [9]) rdy) = [3, 0xFF, 22, 0xFF] := by decide +kernel
theorem test_auth_window_expiry :
    let t := after (.authWindowExpiry 0) authorized
    (t.hose 0).phase = .idle ∧ (t.hose 0).ctx = none ∧ (t.comp 1).committedIssue = 0 := by decide +kernel
theorem test_no_flow_expiry :
    (((after (.noFlowExpiry 0) flowing).hose 0).ctx.bind Context.endCause) = some .noFlow := by decide +kernel
theorem test_meter_silence_expiry :
    let t := after (.meterSilenceExpiry 0) flowing
    (t.hose 0).phase = .closing ∧ hasCause t.att.causes .meterSilent = true := by decide +kernel
/-- RESULT entry of 3.11: 2,335 cents, and nothing left of the 12,000 mL. -/
theorem test_settle_expiry :
    let t := after (.settleExpiry 0) closing
    (t.hose 0).phase = .result ∧ (t.hose 0).ctx.bind Context.amount = some 2335 ∧ (t.entry 0).busy = none := by decide +kernel
theorem test_post_delay_expiry :
    let t := after (.postDelayExpiry 0) result
    t.billing.stored.length = 1 ∧ t.billing.reserved = 0 ∧ (vget t.billing.centres 12).net = 12455 := by decide +kernel
theorem test_hold_limit_expiry :
    (((after (.holdLimitExpiry 0) held).hose 0).ctx.bind Context.endCause) = some .holdExpired := by decide +kernel
/-- 8.7: the oldest control frame goes before the ordinary ones. -/
theorem test_frame_sent_control_first :
    let d : Queued := ⟨.ordinary, ⟨9, 3, 20, [2]⟩⟩
    let v : Queued := ⟨.valve 2, ⟨12, 1, 5, [0]⟩⟩
    let t := after (.frameSent .field) (rdy.setFieldPort { rdy.field with sending := some d, queue := [d, d, v, d] })
    t.field.sending = some v ∧ t.field.queue = [d, d, d] := by decide +kernel
/-- A warm start takes the delivery to RESULT with POWER_LOST (R69). -/
theorem test_start_up_warm :
    let t := after (.startUp 2) flowing
    (t.hose 0).phase = .result ∧ t.att = ⟨0x0100, .fired⟩ ∧ (t.comp 1).committedIssue = 0 := by decide +kernel
/-- A start-up after the retention supply failed is a cold start (R179); straps of 7 give node 7 SITE. -/
theorem test_start_up_cold :
    let t := after (.startUp 7) (dark.setPower ⟨false, false, 0, 2⟩)
    t.levelOfNode 7 = .site ∧ t.levelOfNode 2 = .none ∧ (t.hose 0).profile = none ∧ t.att.causes = 0x0200 := by decide +kernel
/-- A lost control item leaves the store invalid: the start-up that follows is cold (R179). -/
theorem test_control_loss_starts_cold :
    let t := after (.startUp 2) (after (.storeValueLost none 1) dark)
    (t.hose 0).profile = none ∧ t.att.causes = 0x0200 ∧ t.power = ⟨true, true, 0, 2⟩ := by decide +kernel
/-- The answer of RESTART is taken by the cab transmitter; its sending is a start-up (R178). -/
def restarting : State := after (.frameSent .cab) (after (.restart site2) flowing)
theorem test_restart_answer_sent_starts_up :
    let t := after (.frameSent .cab) restarting
    (t.hose 0).phase = .result ∧ t.att = ⟨0x0100, .fired⟩ ∧ t.cab.good = 0 := by decide +kernel
/-- Code 19 is unknown: NACK RANGE with the code (R159, R161). -/
theorem test_malformed_command : said (after (.malformedCommand sup5 [19]) rdy) = [2, 19, 6] := by decide +kernel
theorem test_identify_starts : (said (after (.identify sup5) rdy)).take 7 = [0, 1, 0, 0x2A, 0x61, 0x0B, 0x06] := by
  decide +kernel
theorem test_status_general : (said (after (.status oper3 1 0 0) rdy)).length = 33 := by decide +kernel
theorem test_status_counter_clear :
    (after (.statusCounterClear sup5 4 0) rdy).cab.good = 0 ∧ (said (after (.statusCounterClear sup5 4 0) rdy)).length = 51 := by
  decide +kernel
theorem test_set_clock :
    let t := after (.setClock site2 1000) rdy
    t.resp.clock = 1000 ∧ t.resp.clockSet = true ∧ said t = [0, 3, 0, 0, 0, 3, 0xE8] := by decide +kernel
theorem test_set_privilege : (after (.setPrivilege site2 6 3) rdy).levelOfNode 6 = .site := by decide +kernel
/-- The one SITE node is not lowered (R165). -/
theorem test_set_privilege_last_site : said (after (.setPrivilege site2 2 2) rdy) = [1, 4, 11] := by decide +kernel
/-- 9.10: a set that would clear TABLE_PROTECT is refused. -/
theorem test_set_protection :
    let t := after (.setProtection site2 2) rdy
    t.resp.tableProtect = true ∧ said (after (.setProtection site2 1) (rdy.setResp t.resp)) = [1, 5, 4] := by decide +kernel
theorem test_digest_in_flight :
    (after (.digest sup5 2) rdy).resp.inFlight = some (.digest 5 .tariff)
      ∧ (after (.digest sup5 2) rdy).responseWaiting = false := by decide +kernel
theorem test_digest_done_counts_25 :
    let t := after .digestDone (after (.digest sup5 2) rdy)
    t.resp.inFlight = none ∧ (said t).drop 6 = [0, 25] := by decide +kernel
theorem test_query_empty : said (after (.queryEmpty oper3 3) truckSite) = [0, 7, 0, 3, 1] := by decide +kernel
theorem test_wipe :
    let t := after (.wipe site2) truckSite
    (t.hose 0).profile = none ∧ t.table.free.length = 512 ∧ t.levelOfNode 5 = .supervisor := by decide +kernel
theorem test_restart : (after (.restart site2) rdy).cab.queue.map Queued.kind = [.response true] := by decide +kernel
/-- 1.8: the next machine takes the top of the free stack and is linked at the head of its chain. -/
def machineB : MachineForm := ⟨0x21#48 ^^^ 65#48, 2, 1, 12, 4, 0, 0xFFFFFFFF⟩
theorem test_load_machine_links_at_head :
    let t := after (.loadMachine sup5 machineB) truckSite
    bucketOf machineB.tag = 33 ∧ vget t.table.heads 33 = some 1 ∧ (t.entry 1).next = some 0 ∧ said t = [0, 10, 0, 0, 1] := by
  decide +kernel
/-- 1.8: the deletion of an entry in the middle of its chain relinks its predecessor. -/
theorem test_delete_machine :
    let t := after (.deleteMachine sup5 33) truckSite
    (t.entry 0).inUse = false ∧ vget t.table.heads 33 = none ∧ t.table.free.head? = some 0 := by decide +kernel
theorem test_read_machine_by_tag :
    (said (after (.readMachineByTag oper3 33) truckSite)).take 8 = [0, 12, 0, 1, 0xFF, 0xFF, 0, 0] := by decide +kernel
theorem test_read_machine_by_index :
    said (after (.readMachineByIndex oper3 511) truckSite) = [0, 12, 0, 0, 0xFF, 0xFF] := by decide +kernel
/-- Above the allowance: ADJUSTED to 1,200,000 (R16). -/
theorem test_set_allowance :
    said (after (.setAllowance sup5 33 99999999) truckSite) = [0, 13, 1, 0, 0x12, 0x4F, 0x80] := by decide +kernel
theorem test_clear_strikes :
    let s := truckSite.setEntry 0 { truckSite.entry 0 with strikes := 3, barred := true }
    ((after (.clearStrikes sup5 33) s).entry 0).strikes = 0 ∧ ((after (.clearStrikes sup5 33) s).entry 0).barred = false := by
  decide +kernel
/-- The period wraps (R8). -/
theorem test_open_period_wraps :
    (after (.openPeriod sup5) (rdy.setTable { rdy.table with period := 0xFFFFFFFF })).table.period = 0 := by decide +kernel
theorem test_sweep_begins :
    (after (.sweep site2) truckSite).resp.inFlight = some (.sweep 2 ⟨0, 512, [], 0, 0⟩) := by decide +kernel
/-- 1.8: a stray entry is freed. -/
theorem test_sweep_done_frees_strays :
    let s := truckSite.setTable { truckSite.table with heads := Table.cold.heads }
    let t := after .sweepDone (after (.sweep site2) s)
    (t.entry 0).inUse = false ∧ t.resp.inFlight = none := by decide +kernel
theorem test_set_strike_policy :
    said (after (.setStrikePolicy site2 ⟨1, 2, 0, 3, 0⟩) rdy) = [0, 17, 1, 1, 2, 0, 3, 0, 1] := by decide +kernel
theorem test_roll_call_start : (after (.rollCallStart sup5) truckSite).table.rollCall = true := by decide +kernel
theorem test_roll_call_stop : (after (.rollCallStop sup5) truckSite).table.rollCall = false := by decide +kernel
theorem test_roll_call_read :
    let s := truckSite.setEntry 511 { truckSite.entry 0 with sighted := true }
    said (after (.rollCallRead oper3 511) s) = [0, 18, 0, 1, 0xFF, 0xFF, 0, 1] := by decide +kernel
/-- A form with one default and a maximum of 0 brought to the minimum delivery (R46). -/
def profileForm : ProfileForm :=
  { mode := 1, head := 11, comp := 1, classMask := 0xFFFF, maxPreset := 0, minDelivery := 0xFFFFFFFF, slowStart := 2000,
    slowStop := 3000, window := 120, noFlow := 45, silence := 20, settle := 30, postDelay := 60, holdLimit := 300 }
theorem test_load_hose_profile :
    let t := after (.loadHoseProfile site2 1 profileForm) truckSite
    (t.hose 1).phase = .idle ∧ (t.hose 1).profile.map Profile.maxPreset = some 1000 ∧ (said t).take 3 = [0, 20, 1] := by
  decide +kernel
theorem test_site_stop : (after (.siteStop sup5) flowing).siteStop = true := by decide +kernel
theorem test_site_resume : (after (.siteResume sup5) (flowing.setSiteStop true)).siteStop = false := by decide +kernel
theorem test_load_calibration_clamps :
    let t := after (.loadCalibration site2 0 ⟨999, 1, 2, 4095, 100000, 100000, 100000, 101001, 4096⟩) truckSite
    ((t.hose 0).cal.map fun c => (c.weight, c.c4)) = some (1000, 101000) ∧ t.calCounter = 1 := by decide +kernel
theorem test_load_grade : vget (after (.loadGrade site2 2 201) truckSite).betas 2 = 200 := by decide +kernel
theorem test_load_compartment :
    let t := after (.loadCompartment site2 0 ⟨2, 0xFF, 100, 90, 95, 20, 200, 5, 0xFF⟩) truckSite
    ((t.comp 0).settings.map fun c => (c.high, c.low, c.dead, c.hysteresis, c.limit)) = some (100, 95, 90, 5, 3) := by
  decide +kernel
theorem test_ack_restock :
    let s := truckSite.setComp 1 { truckSite.comp 1 with restock := .low }
    ((after (.ackRestock sup5 1 40117) s).comp 1).restock = .ordered := by decide +kernel
/-- 5,999,999 mL lie below the low threshold: LOW and a RESTOCK frame (R96). -/
theorem test_set_stock_below_low :
    let t := after (.setStock sup5 1 5999999) truckSite
    (t.comp 1).restock = .low ∧ (t.comp 1).base = 5999999 ∧ t.cab.queue.map Queued.kind = [.restock 1, .response false] := by
  decide +kernel
/-- 11.4: an adjustment of -139,935 mL. -/
theorem test_reconcile :
    let s := truckSite.setComp 1 { truckSite.comp 1 with book := 27519935, lastReading := some 27380000, unattributed := 35 }
    let t := after (.reconcile sup5 1) s
    (t.billing.stored.map fun r => (r.gross, r.net)) = [(35, -139935)] ∧ (t.comp 1).book = 27380000 := by decide +kernel
theorem test_load_tariff :
    (after (.loadTariff site2 ⟨1, 2, 3, 4, 5, 6, 7, 99999999⟩) rdy).billing.prices.toList = [1, 2, 3, 4, 5, 6, 7, 99999999] := by
  decide +kernel
theorem test_load_class_rate : vget (after (.loadClassRate site2 15 511) rdy).billing.fractions 15 = 511 := by decide +kernel
/-- A log of one record, sequence number 1. -/
def logged : State := after (.post oper3 0) result
def loggedIdle : State := { logged with cab := rdy.cab }
theorem test_read_log : (said (after (.readLog sup5 0) loggedIdle)).length = 68 := by decide +kernel
theorem test_release_log :
    let t := after (.releaseLog site2 1) loggedIdle
    t.billing.stored = [] ∧ t.billing.oldestIndex = 1 ∧ said t = [0, 33, 0, 0, 1, 0, 0, 0, 2] := by decide +kernel
/-- 6.10: ALL from 14 collects seven and answers with next number 21. -/
theorem test_read_centres :
    let t := said (after (.readCentres sup5 14 0) loggedIdle)
    t.take 5 = [0, 34, 0, 7, 21] ∧ t.length = 103 := by decide +kernel
theorem test_clear_centres : (vget (after (.clearCentres site2 12) loggedIdle).billing.centres 12).net = 0 := by decide +kernel
/-- 7.7: RETENTION_LOST acknowledged leaves the set empty and the unit ARMED. -/
theorem test_rearm :
    let t := after (.rearm sup5 0x0200) rdy
    t.att = ⟨0, .armed⟩ ∧ said t = [0, 36, 0, 0, 0, 0] := by decide +kernel
/-- Nodes 0 and 1 leave the source set: ADJUSTED (R152). -/
theorem test_load_frame_class :
    let t := after (.loadFrameClass site2 20 ⟨2, 0x0B, 0⟩) rdy
    vget t.screen.table 7 = ⟨false, true, 8, .always⟩ ∧ (said t).take 3 = [0, 37, 1] := by decide +kernel
theorem test_site_clock_wraps :
    (after .siteClockSecond (rdy.setResp { rdy.resp with clock := 0xFFFFFFFF })).resp.clock = 0 := by decide +kernel
theorem test_main_supply_loss :
    (after .mainSupplyLoss flowing).power.main = false ∧ ((after .mainSupplyLoss flowing).hose 0).phase = .slowStart := by
  decide +kernel
theorem test_retention_supply_failure : (after .retentionSupplyFailure dark).power.marker = false := by decide +kernel
/-- 1.8: a lost value leaves the check code wrong, and a read then cuts the chain. -/
theorem test_store_value_lost :
    let s := after (.storeValueLost (some (0, .number 9)) 0) truckSite
    (s.entry 0).checkGood = false ∧ vget (after (.tagRead head10 33 51300 3) s).table.heads 33 = none
      ∧ (after (.tagRead head10 33 51300 3) s).table.faults = 1 := by decide +kernel

/-- The state after a step. -/
def stepped (s : State) : State :=
  match step s with
  | .next t => t
  | _ => s
/-- A step takes the front command with the queue's rest; an empty queue idles. -/
theorem test_step_takes_the_front :
    let t := stepped (rdy.setPending [.siteClockSecond, .identify sup5])
    t.resp.clock = 1 ∧ t.pending = [.identify sup5] ∧ (stepped rdy).resp.clock = 0 := by decide +kernel

/-- A SWEEP by node 2 that has come so far. -/
def sweepingAt (w : SweepWork) (s : State) : State := s.setResp { s.resp with inFlight := some (.sweep 2 w) }
/-- The same machine with its chain lost: a stray entry. -/
def stray0 : State := truckSite.setTable { truckSite.table with heads := Table.cold.heads }
/-- An idle step walks one bucket: bucket 33 holds the machine of index 0 (R18). -/
theorem test_idle_step_walks_a_bucket :
    (stepped (sweepingAt ⟨33, 512, [], 0, 0⟩ truckSite)).resp.inFlight = some (.sweep 2 ⟨34, 512, [0], 0, 0⟩) := by
  decide +kernel
/-- With all buckets walked an idle step examines one entry, and a stray one is freed (R18). -/
theorem test_idle_step_frees_a_stray :
    let t := stepped (sweepingAt ⟨64, 1, [], 0, 0⟩ stray0)
    (t.entry 0).inUse = false ∧ t.table.free.head? = some 0 ∧ t.resp.inFlight = some (.sweep 2 ⟨64, 0, [], 1, 0⟩) := by
  decide +kernel

/-! ### States that meet the statements' hypotheses -/

theorem witness_StepTakesTheFrontCommand :
    (rdy.setPending [.siteClockSecond]).pending = [.siteClockSecond] ∧ rdy.pending = [] ∧ rdy.resp.inFlight = none
      ∧ ((sweepingAt .start dark).pending = [] ∧ (sweepingAt .start dark).power.main = false) := by decide +kernel
theorem witness_NothingHappensThatIsNotDue :
    dark.power.main = false ∧ (truckSite.hose 0).timers = .stopped ∧ (flowing.hose 0).timers.noFlow = some 45
      ∧ (flowing.hose 0).phase ≠ .authorized ∧ (flowing.hose 0).phase ≠ .held ∧ (truckSite.hose 0).phase ≠ .closing
      ∧ (truckSite.hose 0).phase.flowing = false ∧ (truckSite.hose 0).phase ≠ .result ∧ rdy.resp.inFlight = none
      ∧ (rdy.port .field).sending = none ∧ rdy.power.main = true := by decide +kernel
theorem witness_SupplyAndStoreEvents :
    rdy.power.main = true ∧ dark.power.main = false ∧ rdy.controlCrc = crc16 rdy.controlBytes
      ∧ exec .siteClockSecond rdy = .next (after .siteClockSecond rdy) := by
  refine ⟨by decide, by decide, ?_, rfl⟩
  have : rdy.power.crcDiff = 0#16 := by decide
  simp [State.controlCrc, this]
theorem witness_ParseReadsBackEveryFrame :
    (Frame.mk 1 2 11 []).payload.length ≤ 128 ∧ (Frame.mk 31 31 63 (List.replicate 128 0)).payload.length ≤ 128
      ∧ parseFrame (Frame.bytes ⟨1, 2, 11, [1]⟩) = some ⟨1, 2, 11, [1]⟩ := by decide +kernel
theorem witness_FrameIsReadAsItsCommand :
    Instr.wf (.tagRead head10 33 51300 3) = true
      ∧ Instr.linkFrame (.nozzle head10 1) = some (.field, ⟨1, 10, 1, [1]⟩)
      ∧ Instr.linkFrame (.post oper3 0) = some (.cab, ⟨1, 3, 6, [1, 0]⟩)
      ∧ Instr.linkFrame (.setClock site2 1) = some (.cab, ⟨1, 2, 11, [3, 0, 0, 0, 1]⟩)
      ∧ Instr.wf (.carriageFrame .cab ⟨9, 3, 13, []⟩) = true ∧ Instr.wf (.malformedCommand site2 []) = true := by
  decide +kernel
theorem witness_RawFrameMeetsTheFateOfItsRow :
    (Frame.mk 1 2 11 []).payload.length ≤ 128 ∧ (Frame.mk 9 3 63 (List.replicate 128 0)).payload.length ≤ 128 := by
  decide +kernel
/-- One bad frame for each case of R139, each one step over its bound. -/
theorem witness_BadFrameIsDroppedAndCounted :
    rdy.power.main = true ∧ parseFrame [1, 2, 11, 0, 0] = none ∧ parseFrame [1, 2, 11, 1, 0, 0] = none
      ∧ parseFrame ([1, 2, 11, 129] ++ List.replicate 131 0) = none ∧ parseFrame [32, 2, 11, 0, 0, 0] = none
      ∧ parseFrame [1, 32, 11, 0, 0, 0] = none ∧ parseFrame [1, 2, 64, 0, 0, 0] = none
      ∧ parseFrame [1, 2, 11, 0, 0, 0] = none := by decide +kernel
theorem witness_DeviceFramesAreScreened :
    truckSite.power.main = true ∧ (Frame.mk 1 1 12 (List.replicate 128 0)).payload.length ≤ 128
      ∧ ((12 : FrameClass).val ≤ 12 ∧ (4 : FrameClass).val ≤ 4 ∧ (1 : Node).val < 2 ∧ 2 ≤ (2 : Node).val)
      ∧ (truckSite.headOwner 10).isSome = true ∧ (truckSite.probeOwner 20).isSome = true
      ∧ (truckSite.headOwner 20).isSome = false ∧ (truckSite.probeOwner 10).isSome = false
      ∧ (nozzleOf 0).isSome = false ∧ (nozzleOf 5).isSome = false := by decide +kernel
/-- The port's queue with twenty ordinary frames waiting behind one being sent: no room. -/
def crowded : PortState := { PortState.cold with
  sending := some ⟨.ordinary, ⟨9, 3, 20, []⟩⟩, queue := List.replicate 20 ⟨.ordinary, ⟨9, 3, 20, []⟩⟩ }
theorem witness_CarriageFrameIsJudgedByItsEntry :
    display.power.main = true ∧ vget display.screen.table 7 = ⟨false, true, 8, .always⟩ ∧ (7 : Fin 51).val + 13 = (20 : FrameClass).val
      ∧ (0 : Fin 51).val + 13 = (13 : FrameClass).val ∧ (50 : Fin 51).val + 13 = (63 : FrameClass).val
      ∧ (8 : Word).getLsbD (3 : Node).val = true ∧ (8 : Word).getLsbD (4 : Node).val = false
      ∧ (display.port Port.cab.other).room = true ∧ crowded.room = false
      ∧ vget rdy.screen.table 7 = ⟨false, false, 0, .never⟩ ∧ ((1 : Node).val < 2 ∧ 2 ≤ (2 : Node).val) := by decide +kernel
theorem witness_SentFrameGivesWayToTheNext :
    rdy.power.main = true ∧ (rdy.port .cab).sending.isSome = true ∧ (rdy.port .cab).queue = []
      ∧ crowded.sending = some ⟨.ordinary, ⟨9, 3, 20, []⟩⟩ ∧ (∀ w ∈ crowded.queue, w.kind.control = false)
      ∧ QKind.control (.valve 2) = true
      ∧ (restarting.power.main = true ∧ (restarting.port .cab).sending.map Queued.kind = some (.response true)) := by
  decide +kernel
/-- The states of 9.10: a response waiting, and a digest in flight. -/
def answered : State := after (.openPeriod sup5) rdy
def digesting : State := after (.digest site2 1) rdy
theorem witness_CommandsAreRefusedByTheResponder :
    answered.responseWaiting = true ∧ answered.power.main = true
      ∧ Instr.command (.openPeriod sup5) = some (sup5, 15, .supervisor) ∧ digesting.resp.inFlight.isSome = true
      ∧ digesting.responseWaiting = false ∧ rdy.resp.inFlight = none
      ∧ (rdy.levelOfNode 3).code < Level.supervisor.code ∧ (rdy.levelOfNode 4).code < Level.operator.code
      ∧ Instr.wf (.malformedCommand sup5 []) = true ∧ Instr.wf (.malformedCommand sup5 [18, 3]) = true
      ∧ Instr.wf (.malformedCommand sup5 [18, 255, 0, 0]) = true ∧ Instr.wf (.malformedCommand sup5 [18, 2]) = true
      ∧ Level.operator.code ≤ (rdy.levelOfNode 3).code ∧ 3 ≤ (3 : Byte).toNat := by decide +kernel
theorem witness_OperatorRequestsAreRefused :
    truckSite.power.main = true ∧ Instr.wf (.malformedRequest oper3 []) = true
      ∧ (truckSite.levelOfNode 4).code < Level.operator.code ∧ (truckSite.levelOfNode 3).code < Level.supervisor.code
      ∧ Level.operator.code ≤ (truckSite.levelOfNode 3).code ∧ 6 ≤ (6 : Byte).toNat
      ∧ (closing.hose 0).phase ≠ .result ∧ (closing.hose 0).phase.flowing = false ∧ (closing.hose 0).phase = .closing
      ∧ (result.hose 0).phase.active = false ∧ (truckSite.hose 0).phase ≠ .held ∧ (held.hose 0).phase = .held := by
  decide +kernel

/-- Walks: the machine found, an absent tag of its bucket, and a chain at fault. -/
def faulty : State := after (.storeValueLost (some (0, .number 9)) 0) truckSite
def unlimited : State := truckSite.setEntry 0 (newEntry { truck with allowance := none } 0 none none)
theorem witness_AllowanceStrikesAndPeriod :
    truckSite.CommandReady sup5 .supervisor ∧ (truckSite.table.walk (bucketOf 33) (some 33)).1 = .found 0 none
      ∧ (99999999 : Word).toNat ≤ 99999999 ∧ 99999999 < (100000000 : Word).toNat
      ∧ (truckSite.entry 0).loaded.allowance = some 1200000
      ∧ unlimited.CommandReady sup5 .supervisor ∧ (unlimited.entry 0).loaded.allowance = none
      ∧ (unlimited.table.walk (bucketOf 33) (some 33)).1 = .found 0 none
      ∧ (truckSite.table.walk (bucketOf 34) (some 34)).1 = .missing
      ∧ faulty.CommandReady sup5 .supervisor ∧ (faulty.table.walk (bucketOf 33) (some 33)).1 = .fault none := by
  decide +kernel
/-- The truck with every index in use, and the forms at the bounds of R11. -/
def full : State := truckSite.setTable { truckSite.table with free := [] }
def nextPeriod : State := truckSite.setTable { truckSite.table with period := 1 }
def fullFaulty : State := faulty.setTable { faulty.table with free := [] }
theorem witness_LoadMachineWritesTheEntry :
    truckSite.CommandReady sup5 .supervisor
      ∧ (0xFFFF#16 = 0xFFFF#16 ∧ 15 < (16 : Byte).toNat ∧ 63 < (64 : Byte).toNat ∧ 1 < (2 : Byte).toNat
          ∧ 99999999 < (100000000 : Word).toNat ∧ (100000000 : Word) ≠ 0xFFFFFFFF#32)
      ∧ (machineB.tag ≠ 0 ∧ machineB.number ≠ 0 ∧ machineB.number ≠ 0xFFFF#16 ∧ machineB.cls.toNat = (1 : ClassId).val
          ∧ machineB.centre.toNat = (12 : CentreId).val ∧ machineB.grades ≠ 0 ∧ machineB.hourCheck.toNat = false.toNat
          ∧ machineB.allowance ≠ 0 ∧ machineB.allowance = 0xFFFFFFFF#32)
      ∧ (truckSite.table.walk (bucketOf machineB.tag) (some machineB.tag)).1 = .missing
      ∧ truckSite.table.free.head? = some 1 ∧ full.table.free = [] ∧ full.CommandReady sup5 .supervisor
      ∧ (full.table.walk (bucketOf machineB.tag) (some machineB.tag)).1 = .missing
      ∧ (truckSite.table.walk (bucketOf 33) (some 33)).1 = .found 0 none ∧ (truckSite.entry 0).period = truckSite.table.period
      ∧ (unlimited.entry 0).loaded.allowance = none ∧ (truckSite.entry 0).remaining = some 1200000
      ∧ (nextPeriod.CommandReady sup5 .supervisor ∧ (nextPeriod.table.walk (bucketOf 33) (some 33)).1 = .found 0 none
          ∧ (nextPeriod.entry 0).period ≠ nextPeriod.table.period)
      ∧ (faulty.table.walk (bucketOf machineB.tag) (some machineB.tag)).1 = .fault none
      ∧ fullFaulty.CommandReady sup5 .supervisor ∧ fullFaulty.table.free = [] := by decide +kernel
/-- Two machines in bucket 33: index 1, then index 0 (1.8). -/
def twoMachines : State := { after (.loadMachine sup5 machineB) truckSite with cab := rdy.cab }
theorem witness_DeleteMachineUnlinksTheEntry :
    twoMachines.CommandReady sup5 .supervisor
      ∧ (twoMachines.table.walk (bucketOf machineB.tag) (some machineB.tag)).1 = .found 1 none
      ∧ (twoMachines.table.walk (bucketOf 33) (some 33)).1 = .found 0 (some 1)
      ∧ (twoMachines.table.walk (bucketOf 34) (some 34)).1 = .missing
      ∧ (faulty.table.walk (bucketOf 33) (some 33)).1 = .fault none := by decide +kernel
theorem witness_ReadMachineRefillsWhatItReads :
    truckSite.CommandReady oper3 .operator ∧ (truckSite.table.walk (bucketOf 33) (some 33)).1 = .found 0 none
      ∧ (truckSite.table.walk (bucketOf 34) (some 34)).1 = .missing
      ∧ (faulty.table.walk (bucketOf 33) (some 33)).1 = .fault none ∧ faulty.CommandReady oper3 .operator
      ∧ (511 : Half).toNat ≤ 511 ∧ 511 < (512 : Half).toNat := by decide +kernel
theorem witness_SweepFreesWhatNoChainReaches :
    truckSite.CommandReady site2 .site
      ∧ ((sweepingAt .start truckSite).power.main = true ∧ (sweepingAt .start truckSite).pending = []
          ∧ (sweepingAt .start truckSite).resp.inFlight = some (.sweep 2 .start))
      ∧ (SweepWork.start.walked = (0 : Bucket).val ∧ (truckSite.table.walk 0 none).1 = .missing)
      ∧ ((sweepingAt ⟨33, 512, [], 0, 0⟩ faulty).power.main = true ∧ (faulty.table.walk 33 none).1 = .fault none)
      ∧ ((stray0.entry 0).inUse = true ∧ (0 : EntryId) ∉ ([] : List EntryId) ∧ (0 : EntryId) ∈ ([0] : List EntryId)
          ∧ (stray0.entry 511).inUse = false) := by decide +kernel
theorem witness_WalksFindWhatIsLoaded :
    (twoMachines.table.walk 33 (some 33)).1 = .found 0 (some 1) ∧ (faulty.table.walk 33 (some 33)).1 = .fault none := by
  decide +kernel

/-- Reads: without calibration, under site stop, with the entry barred, and with the entry busy. -/
def uncalibrated : State := truckSite.setHose 0 { truckSite.hose 0 with cal := none }
def barred0 : State := truckSite.setEntry 0 { truckSite.entry 0 with barred := true }
def busy0 : State := truckSite.setEntry 0 { truckSite.entry 0 with busy := some 5 }
/-- The machine's entry under a tag lost to 0, at the head of the chain of bucket 0, under a check code that fits. -/
def zeroTag : State :=
  let e := (truckSite.entry 0).loaded
  (truckSite.setTable { truckSite.table with heads := vset truckSite.table.heads 0 (some 0) }).setEntry 0
    { truckSite.entry 0 with loaded := { e with tag := 0 }, next := none, check := checkCode { e with tag := 0 } none }
/-- R21: a zero tag fails the lookup, machine number and strikes absent. -/
theorem test_zero_tag_is_unknown :
    after (.tagRead head10 0 51300 3) zeroTag = (zeroTag.countGood .field).noticeRefused 0 .unknownTag 0 none none := by
  decide +kernel
theorem witness_TagReadIsRefusedBeforeItsTests :
    truckSite.HeadReady head10 0 ∧ (3 : Byte).toNat ≤ 3 ∧ (truckSite.hose 0).profile = some issue0
      ∧ (truckSite.hose 0).phase = .idle ∧ issue0.mode = .issue ∧ (flowing.hose 0).phase ≠ .idle ∧ receive5.mode ≠ .issue
      ∧ (uncalibrated.HeadReady head10 0 ∧ (uncalibrated.hose 0).cal = none)
      ∧ (truckSite.hose 0).cal ≠ none ∧ (truckSite.comp issue0.comp).settings ≠ none ∧ truckSite.siteStop = false
      ∧ (truckSite.setSiteStop true).HeadReady head10 0
      ∧ (truckSite.table.walk (bucketOf 34) (some 34)).1 = .missing
      ∧ (faulty.HeadReady head10 0 ∧ (faulty.table.walk (bucketOf 33) (some 33)).1 = .fault none)
      ∧ (barred0.HeadReady head10 0 ∧ (barred0.table.walk (bucketOf 33) (some 33)).1 = .found 0 none
          ∧ (barred0.entry 0).barred = true)
      ∧ (busy0.HeadReady head10 0 ∧ (busy0.table.walk (bucketOf 33) (some 33)).1 = .found 0 none
          ∧ (busy0.entry 0).barred = false ∧ (busy0.entry 0).busy ≠ none)
      ∧ (33 : TagId) ≠ 0 ∧ zeroTag.HeadReady head10 0 ∧ zeroTag.siteStop = false
      ∧ (zeroTag.table.walk (bucketOf 0) (some 0)).1 = .found 0 none := by decide +kernel
/-- The hypotheses that the read of the machine at hose 0 meets. -/
theorem witness_read_reaches_its_tests :
    (33 : TagId) ≠ 0 ∧ truckSite.HeadReady head10 0 ∧ 1 ≤ (3 : Byte).toNat ∧ (3 : Byte).toNat ≤ 3 ∧ (truckSite.hose 0).profile = some issue0
      ∧ (truckSite.hose 0).phase = .idle ∧ issue0.mode = .issue ∧ (truckSite.hose 0).cal.isSome = true
      ∧ (truckSite.comp issue0.comp).settings = some diesel ∧ truckSite.siteStop = false
      ∧ (truckSite.table.walk (bucketOf 33) (some 33)).1 = .found 0 none ∧ (truckSite.entry 0).barred = false
      ∧ (truckSite.entry 0).busy = none := by decide +kernel
/-- Beside witness_read_reaches_its_tests: a grade and a class that fail, and the window 51,230 to 53,230 of 2.12. -/
theorem witness_FailedTestStrikesTheMachine :
    (truck.grades.getLsbD diesel.grade.val = true ∧ truck.grades.getLsbD 3 = false)
      ∧ (issue0.classMask.getLsbD truck.cls.val = true ∧ issue0.classMask.getLsbD 4 = false)
      ∧ (truckSite.entry 0).loaded.hourCheck = true ∧ (53231 : Word).toNat ≤ 999999
      ∧ (truckSite.entry 0).lastHours = some 51230 ∧ 51230 + truckSite.table.policy.maxJump < (53231 : Word).toNat
      ∧ (51229 : Word).toNat < 51230 := by decide +kernel
/-- Beside witness_read_reaches_its_tests: a pass operation that bars, a full log on either ground, and an E below the
minimum. -/
theorem witness_TagReadIsRefusedAfterItsTests :
    (truck.grades.getLsbD diesel.grade.val = true ∧ issue0.classMask.getLsbD truck.cls.val = true)
      ∧ (51230 ≤ 53230 ∧ 53230 ≤ 51230 + truckSite.table.policy.maxJump)
      ∧ ((1 : Nat) ≠ 0 ∧ 1 ≤ StrikeOp.incr.apply 0)
      ∧ ¬ (truckSite.table.policy.threshold ≠ 0
          ∧ truckSite.table.policy.threshold ≤ truckSite.table.policy.pass.apply (truckSite.entry 0).strikes)
      ∧ Billing.full { truckSite.billing with nextSeq := 4294967295 } = true
      ∧ Billing.full { truckSite.billing with nextSeq := 4294967294 } = false
      ∧ Billing.full { truckSite.billing with reserved := 1024 } = true
      ∧ Billing.full { truckSite.billing with reserved := 1023 } = false
      ∧ min issue0.maxPreset (min 999 1200000) < issue0.minDelivery := by decide +kernel
/-- Beside witness_read_reaches_its_tests: both tests passed at the last hour of the window, no bar, log space, and E. -/
theorem witness_TagReadIsAccepted :
    (truck.grades.getLsbD diesel.grade.val = true ∧ issue0.classMask.getLsbD truck.cls.val = true)
      ∧ (51230 ≤ (53230 : Word).toNat ∧ (53230 : Word).toNat ≤ 51230 + truckSite.table.policy.maxJump)
      ∧ truckSite.table.policy.pass.apply (truckSite.entry 0).strikes < truckSite.table.policy.threshold
      ∧ truckSite.billing.level < 1024 ∧ truckSite.billing.nextSeq + truckSite.billing.reserved < 4294967295
      ∧ issue0.minDelivery ≤ min issue0.maxPreset (min 6600000 1200000) := by decide +kernel
theorem witness_OperatorStartIsRefused :
    truckSite.RequestReady sup5 .supervisor
      ∧ (¬ (6 : Byte).toNat < 6 ∧ ¬ (64 : Byte).toNat < 64 ∧ ¬ (16 : Byte).toNat < 16 ∧ 99999999 < (100000000 : Word).toNat)
      ∧ (flowing.RequestReady sup5 .supervisor ∧ (flowing.hose 0).phase ≠ .idle)
      ∧ (truckSite.hose 0).phase = .idle ∧ (truckSite.hose 5).profile = some receive5 ∧ receive5.mode ≠ .issue
      ∧ issue0.mode ≠ .receive ∧ (uncalibrated.RequestReady sup5 .supervisor ∧ (uncalibrated.hose 0).cal = none)
      ∧ (truckSite.comp receive5.comp).settings = some diesel ∧ (truckSite.setSiteStop true).RequestReady sup5 .supervisor
      ∧ min 999 21500000 < receive5.minDelivery := by decide +kernel
theorem witness_OperatorStartIsAccepted :
    truckSite.RequestReady sup5 .supervisor ∧ (truckSite.hose 0).profile = some issue0
      ∧ (truckSite.hose 5).profile = some receive5 ∧ (truckSite.hose 5).phase = .idle
      ∧ (truckSite.hose 5).cal.isSome = true ∧ (truckSite.comp 1).settings = some diesel ∧ truckSite.siteStop = false
      ∧ truckSite.billing.level < 1024 ∧ truckSite.billing.nextSeq + truckSite.billing.reserved < 4294967295
      ∧ ((63 : Byte).toNat = (63 : CentreId).val ∧ (15 : Byte).toNat = (15 : ClassId).val ∧ 0xFFFF#16 ≠ 0#16)
      ∧ issue0.minDelivery ≤ min issue0.maxPreset ((truckSite.comp 1).issueAvail diesel)
      ∧ receive5.minDelivery ≤ min (99999999 : Word).toNat ((truckSite.comp 1).receiveAvail diesel) := by decide +kernel
/-- The truck with both nozzles already lifted. -/
def lifted : State :=
  (truckSite.modHose 0 fun x => { x with nozzle := .lifted }).modHose 5 fun x => { x with nozzle := .connected }
theorem witness_AcceptanceQueuesItsFramesInOrder :
    ((truckSite.hose 0).profile = some issue0 ∧ (truckSite.hose 0).phase = .idle ∧ truckSite.HeadReady head10 0
        ∧ truckSite.RequestReady sup5 .supervisor ∧ truckSite.billing.level + 1 ≠ 960 ∧ truckSite.cab.sending.isSome = true
        ∧ truckSite.cab.queue.length ≤ 29 ∧ truckSite.cab.ordinaryWaiting ≤ 17 ∧ (truckSite.hose 0).nozzle.isLifted = false)
      ∧ ((after (.tagRead head10 33 51300 3) truckSite).hose 0).phase ≠ .idle
      ∧ ((after (.manualAuth sup5 0 12 1 0 0xFFFF#16 0) truckSite).hose 0).phase ≠ .idle
      ∧ ((after (.receiveStart sup5 5 22000000 1 40117) truckSite).hose 5).phase ≠ .idle
      ∧ (lifted.HeadReady head10 0 ∧ (lifted.hose 0).phase = .idle ∧ (lifted.hose 0).nozzle.isLifted = true
          ∧ ((after (.tagRead head10 33 51300 3) lifted).hose 0).phase = .slowStart) := by decide +kernel
theorem witness_RollCallMarksAndReads :
    truckSite.CommandReady sup5 .supervisor ∧ truckSite.CommandReady oper3 .operator ∧ (511 : Half).toNat ≤ 511
      ∧ 511 < (512 : Half).toNat := by decide +kernel
theorem witness_TableProtectedLoads :
    truckSite.CommandReady site2 .site ∧ truckSite.resp.tableProtect = false
      ∧ (rdy.setResp { rdy.resp with tableProtect := true }).CommandReady site2 .site
      ∧ (4 ≤ (4 : Byte).toNat ∧ 7 < (8 : Byte).toNat ∧ (7 : Byte).toNat ≤ 7 ∧ 15 < (16 : Byte).toNat ∧ 511 < (512 : Half).toNat)
      ∧ (12 : Byte).toNat < 13 ∧ (13 : Byte).toNat = (0 : Fin 51).val + 13 ∧ (63 : Byte).toNat = (50 : Fin 51).val + 13
      ∧ 63 < (64 : Byte).toNat ∧ 3 < (4 : Byte).toNat ∧ 4 < (5 : Byte).toNat ∧ (4 : Byte).toNat = Guard.calOpen.code := by
  decide +kernel

theorem witness_NozzleStartsAndEndsFlow :
    authorized.HeadReady head10 0 ∧ (1 : Byte).toNat = Nozzle.lifted.code ∧ (4 : Byte).toNat = Nozzle.disconnected.code
      ∧ (authorized.hose 0).profile = some issue0 ∧ (authorized.hose 0).ctx.isSome = true
      ∧ (authorized.hose 0).phase = .authorized ∧ authorized.siteStop = false
      ∧ (flowing.HeadReady head10 0 ∧ (flowing.hose 0).phase.flowing = true)
      ∧ (held.HeadReady head10 0 ∧ (held.hose 0).phase = .held) ∧ (truckSite.hose 0).phase = .idle
      ∧ (closing.hose 0).phase ≠ .authorized ∧ (authorized.setSiteStop true).siteStop = true := by decide +kernel
theorem witness_FlowEndsInClosing :
    flowing.power.main = true ∧ (flowing.hose 0).profile = some issue0 ∧ (flowing.hose 0).ctx = some delivery
      ∧ (flowing.hose 0).phase.flowing = true ∧ (flowing.hose 0).timers.noFlow.isSome = true
      ∧ (flowing.hose 0).timers.silence.isSome = true ∧ (held.hose 0).phase = .held
      ∧ (held.hose 0).timers.holdLimit.isSome = true ∧ flowing.HeadReady head10 0 ∧ (1 : Byte) ≠ 0
      ∧ flowing.RequestReady oper3 .operator ∧ truckSite.HeadReady head10 0
      ∧ (truckSite.hose 0).phase.flowing = false ∧ (truckSite.hose 0).phase ≠ .held := by decide +kernel
/-- Held under mark SITE; with 3,000 mL left; with 3,001 left; with nothing left. -/
def heldBySite : State := held.modHose 0 fun x => { x with mark := some .site }
theorem witness_HoldAndResume :
    flowing.RequestReady oper3 .operator ∧ (flowing.hose 0).profile = some issue0 ∧ (flowing.hose 0).ctx = some delivery
      ∧ (flowing.hose 0).phase.flowing = true ∧ (flowing.hose 0).phase ≠ .held
      ∧ (held.RequestReady oper3 .operator ∧ (held.hose 0).phase = .held ∧ held.siteStop = false
          ∧ (held.hose 0).mark ≠ some .site)
      ∧ (heldBySite.RequestReady oper3 .operator ∧ (heldBySite.hose 0).mark = some .site
          ∧ (heldBySite.levelOfNode 3).code < Level.supervisor.code
          ∧ Level.supervisor.code ≤ (heldBySite.levelOfNode 5).code)
      ∧ (12000 ≤ 12000 ∧ (9000 < 12000 ∧ 12000 ≤ 9000 + issue0.slowStop) ∧ 8999 + issue0.slowStop < 12000) := by
  decide +kernel
theorem witness_SiteStopHoldsEveryFlowingHose :
    flowing.HosesOk ∧ flowing.RequestReady oper3 .operator ∧ flowing.siteStop = false
      ∧ flowing.CommandReady sup5 .supervisor
      ∧ ((held.setSiteStop true).HosesOk ∧ (held.setSiteStop true).RequestReady oper3 .operator
          ∧ (held.setSiteStop true).CommandReady sup5 .supervisor) := by decide +kernel
theorem witness_TransactionsEndInResultOrIdle :
    authorized.power.main = true ∧ (authorized.hose 0).profile = some issue0 ∧ (authorized.hose 0).ctx = some delivery
      ∧ (authorized.hose 0).phase = .authorized ∧ (authorized.hose 0).timers.window.isSome = true
      ∧ authorized.RequestReady oper3 .operator
      ∧ (closing.power.main = true ∧ (closing.hose 0).profile = some issue0
          ∧ (closing.hose 0).ctx = some { delivery with gross := 12652, net := 12455 } ∧ (closing.hose 0).phase = .closing
          ∧ (closing.hose 0).timers.settle.isSome = true ∧ closing.HeadReady head10 0)
      ∧ (2 : Byte).toNat = Nozzle.hung.code ∧ (delivery.gross = 0 ∧ delivery.net = 0) := by decide +kernel
theorem witness_PostingWritesTheRecord :
    (result.hose 0).phase = .result ∧ (result.hose 0).ctx.isSome = true ∧ result.power.main = true
      ∧ (result.hose 0).timers.postDelay.isSome = true ∧ result.RequestReady oper3 .operator := by decide +kernel
theorem witness_AppliedSampleIsMetered :
    flowing.HeadReady head10 0 ∧ (flowing.hose 0).profile = some issue0 ∧ (flowing.hose 0).ctx = some delivery
      ∧ (flowing.hose 0).cal = some cal411 ∧ (flowing.comp delivery.comp).settings = some diesel
      ∧ (flowing.hose 0).phase.executing = true ∧ (flowing.hose 0).pulse = some ⟨65400, 40⟩ ∧ (41 : Byte) ≠ 40
      ∧ (closing.hose 0).phase.executing = true := by decide +kernel
/-- An idle hose with a pulse reference, with and without its calibration. -/
def dripping : State := truckSite.modHose 0 fun x => { x with pulse := some ⟨65400, 40⟩ }
theorem witness_UnbilledAndIgnoredSamples :
    dripping.HeadReady head10 0 ∧ (dripping.hose 0).profile = some issue0 ∧ (dripping.hose 0).pulse = some ⟨65400, 40⟩
      ∧ (dripping.hose 0).phase ≠ .off ∧ (dripping.hose 0).phase.executing = false ∧ (dripping.hose 0).cal = some cal411
      ∧ (truckSite.hose 0).pulse = none
      ∧ ((dripping.modHose 0 fun x => { x with phase := .off }).HeadReady head10 0)
      ∧ ((dripping.modHose 0 fun x => { x with cal := none }).HeadReady head10 0)
      ∧ ((64 : Half) - 65400).toNat ≠ 0 ∧ ((65400 : Half) - 65400).toNat = 0
      ∧ ((dripping.comp issue0.comp).settings = some diesel ∧ (dripping.setComp issue0.comp .cold).HeadReady head10 0
          ∧ ((dripping.setComp issue0.comp .cold).comp issue0.comp).settings = none) := by decide +kernel
/-- A VALVE frame for hose 1 waiting for another head. -/
def valveWaits : State := truckSite.setFieldPort { truckSite.field with
  sending := some ⟨.ordinary, ⟨9, 3, 20, []⟩⟩, queue := [⟨.valve 1, ⟨12, 1, 5, [0]⟩⟩] }
theorem witness_HoseProfileIsLoadedAtRest :
    truckSite.CommandReady site2 .site ∧ 6 ≤ (6 : Byte).toNat ∧ (1 : Byte).toNat = (1 : HoseId).val
      ∧ (flowing.CommandReady site2 .site ∧ (flowing.hose 0).phase ≠ .off ∧ (flowing.hose 0).phase ≠ .idle)
      ∧ (truckSite.hose 1).phase = .off
      ∧ (2 < (3 : Byte).toNat ∧ (1 : Byte).toNat < 2 ∧ 31 < (32 : Byte).toNat ∧ 3 < (4 : Byte).toNat)
      ∧ (profileForm.mode.toNat = Mode.issue.code ∧ profileForm.head.toNat = (11 : Node).val
          ∧ profileForm.comp.toNat = (1 : CompId).val ∧ profileForm.maxPreset ≠ 0xFFFFFFFF#32)
      ∧ truckSite.headNodeTaken 1 10 = true ∧ truckSite.headNodeTaken 1 11 = false ∧ truckSite.valveElsewhere 1 11 = false
      ∧ (valveWaits.CommandReady site2 .site ∧ valveWaits.headNodeTaken 1 11 = false
          ∧ valveWaits.valveElsewhere 1 11 = true) := by decide +kernel
theorem witness_CalibrationLoadsAreCounted :
    truckSite.CommandReady site2 .site ∧ truckSite.resp.calProtect = false
      ∧ (rdy.setResp { rdy.resp with calProtect := true }).CommandReady site2 .site
      ∧ 6 ≤ (6 : Byte).toNat ∧ (5 : Byte).toNat = (5 : HoseId).val ∧ (truckSite.hose 0).phase = .idle
      ∧ (flowing.CommandReady site2 .site ∧ (flowing.hose 0).phase = .slowStart)
      ∧ (calRangeOk ⟨1000, 1, 2, 4095, 0, 0, 0, 0, 4096⟩ = true ∧ calRangeOk ⟨1000, 0, 2, 3, 0, 0, 0, 0, 4⟩ = false
          ∧ calRangeOk ⟨1000, 1, 2, 4096, 0, 0, 0, 0, 4097⟩ = false)
      ∧ 8 ≤ (8 : Byte).toNat ∧ (2 : Byte).toNat = (2 : Grade).val ∧ flowing.gradeActive 2 = true
      ∧ truckSite.gradeActive 2 = false := by decide +kernel

theorem witness_ProbeReadingsKeepTheVarianceCount :
    truckSite.ProbeReady probe20 1 ∧ (truckSite.comp 1).settings = some diesel ∧ (28499999 : Word).toNat < diesel.high
      ∧ (flowing.ProbeReady probe20 1 ∧ flowing.executingOn 1 = true) ∧ truckSite.executingOn 1 = false
      ∧ ((truckSite.comp 1).book - (6850000 : Word).toNat).natAbs ≤ diesel.tolerance
      ∧ diesel.tolerance < ((truckSite.comp 1).book - (6849999 : Word).toNat).natAbs := by decide +kernel
theorem witness_OverfillStopsFlowingReceipts :
    receiving.ProbeReady probe20 1 ∧ receiving.HosesOk ∧ (receiving.comp 1).settings = some diesel
      ∧ diesel.high ≤ (28500000 : Word).toNat ∧ (receiving.hose 5).drawsOn 1 = true
      ∧ (receiving.hose 5).phase.flowing = true ∧ (receiving.hose 5).ctx.map Context.kind = some .receipt
      ∧ flowing.ProbeReady probe20 1 ∧ truckSite.ProbeReady probe20 1 := by decide +kernel
/-- Compartment 1 in LOW. -/
def low1 : State := truckSite.setComp 1 { truckSite.comp 1 with restock := .low, book := 5999999 }
theorem witness_CompartmentCommands :
    truckSite.CommandReady site2 .site ∧ truckSite.CommandReady sup5 .supervisor
      ∧ 3 < (4 : Byte).toNat ∧ (3 : Byte).toNat = (3 : CompId).val
      ∧ (7 < (8 : Byte).toNat ∧ (1 : Byte).toNat < 2 ∧ 31 < (32 : Byte).toNat ∧ (254 : Byte) ≠ 0xFF#8
          ∧ 99999999 < (100000000 : Word).toNat ∧ (99999999 : Word).toNat ≤ 99999999)
      ∧ ((7 : Byte).toNat = (7 : Grade).val ∧ (31 : Byte).toNat = (31 : Node).val)
      ∧ truckSite.probeNodeTaken 1 (some 10) = true ∧ truckSite.probeNodeTaken 2 (some 20) = true
      ∧ truckSite.probeNodeTaken 1 (some 20) = false ∧ truckSite.probeNodeTaken 1 none = false
      ∧ (flowing.CommandReady site2 .site ∧ flowing.gradeBusy 1 3 = true) ∧ truckSite.gradeBusy 1 3 = false
      ∧ (truckSite.comp 0).settings = none ∧ (truckSite.comp 1).restock = .normal
      ∧ (low1.CommandReady sup5 .supervisor ∧ (low1.comp 1).settings = some diesel ∧ (low1.comp 1).restock ≠ .normal)
      ∧ (diesel.capacity < (30000001 : Word).toNat ∧ (30000000 : Word).toNat ≤ diesel.capacity)
      ∧ (flowing.CommandReady sup5 .supervisor ∧ flowing.executingOn 1 = true) ∧ truckSite.executingOn 1 = false
      ∧ ((5999999 : Int) < diesel.low ∧ (diesel.low : Int) ≤ 6000000 ∧ (diesel.low : Int) + diesel.hysteresis ≤ 10000000
          ∧ (9999999 : Int) < (diesel.low : Int) + diesel.hysteresis) := by decide +kernel
/-- Compartment 1 with a last reading, with room in the log and without. -/
def probed : State := truckSite.setComp 1 { truckSite.comp 1 with lastReading := some 6900000 }
def probedFull : State := probed.setBilling { probed.billing with reserved := 1024 }
theorem witness_ReconcilePostsTheAdjustment :
    probed.CommandReady sup5 .supervisor ∧ 3 < (4 : Byte).toNat ∧ (1 : Byte).toNat = (1 : CompId).val
      ∧ (probed.comp 0).settings = none ∧ (probed.comp 1).settings = some diesel
      ∧ (flowing.CommandReady sup5 .supervisor ∧ flowing.executingOn 1 = true) ∧ probed.executingOn 1 = false
      ∧ (truckSite.comp 1).lastReading = none ∧ (probed.comp 1).lastReading = some 6900000
      ∧ (probedFull.CommandReady sup5 .supervisor ∧ 1024 ≤ probedFull.billing.level) ∧ probed.billing.level < 1024
      ∧ fits48 (6900000 - (probed.comp 1).book) = true := by decide +kernel

theorem witness_LogIsReadAndReleased :
    (loggedIdle.billing.oldestIndex < 1024 ∧ loggedIdle.billing.stored.length < loggedIdle.billing.nextSeq
        ∧ loggedIdle.billing.stored.map Record.seq
          = List.range' (loggedIdle.billing.nextSeq - loggedIdle.billing.stored.length) loggedIdle.billing.stored.length)
      ∧ loggedIdle.CommandReady sup5 .supervisor ∧ loggedIdle.CommandReady site2 .site
      ∧ loggedIdle.billing.nextSeq ≤ (2 : Word).toNat ∧ (0 : Word).toNat < 1 ∧ 1 ≤ (1 : Word).toNat
      ∧ (1 : Word).toNat < loggedIdle.billing.nextSeq := by decide +kernel
theorem witness_CentresAreReadAndCleared :
    loggedIdle.CommandReady sup5 .supervisor ∧ loggedIdle.CommandReady site2 .site
      ∧ (63 < (64 : Byte).toNat ∧ (63 : Byte).toNat ≤ 63 ∧ 1 < (2 : Byte).toNat ∧ (1 : Byte).toNat ≤ 1)
      ∧ (63 : Byte).toNat = (63 : CentreId).val ∧ 63 < (254 : Byte).toNat ∧ (254 : Byte) ≠ 0xFF#8 := by decide +kernel
theorem witness_RearmRemovesAndReissues :
    rdy.CommandReady sup5 .supervisor ∧ 0x0400#16 ≤ 0x0400#16 ∧ 0x03FF#16 < 0x0400#16
      ∧ rdy.att.causes &&& ~~~0x0200#16 = 0#16 ∧ rdy.att.causes &&& ~~~0x01FF#16 ≠ 0#16 := by decide +kernel
theorem witness_ReadingCommandsAndCounterClear :
    truckSite.CommandReady ⟨1, 4⟩ .none ∧ truckSite.CommandReady oper3 .operator ∧ truckSite.CommandReady sup5 .supervisor
      ∧ (5 < (6 : Byte).toNat ∧ 5 < (6 : Byte).toNat ∧ 3 < (4 : Byte).toNat ∧ 1 < (2 : Byte).toNat ∧ (0 : Byte) ≠ 1)
      ∧ ((5 : Byte).toNat = (5 : HoseId).val ∧ (3 : Byte).toNat = (3 : CompId).val ∧ 3 < (4 : Byte).toNat) := by
  decide +kernel
theorem witness_ClockPrivilegeAndProtection :
    rdy.CommandReady site2 .site ∧ ((31 : Byte).toNat = (31 : Node).val ∧ (3 : Byte).toNat = Level.site.code)
      ∧ (rdy.levelOfNode 2 = .site ∧ ∀ k, k ≠ 2 → rdy.levelOfNode k ≠ .site) ∧ Level.supervisor ≠ Level.site
      ∧ rdy.levelOfNode 5 ≠ .site ∧ ((1 : Byte).toNat < 2 ∧ 31 < (32 : Byte).toNat ∧ 3 < (4 : Byte).toNat)
      ∧ (rdy.setResp { rdy.resp with calProtect := true }).resp.calProtect = true ∧ rdy.resp.calProtect = false := by
  decide +kernel
theorem witness_DigestAnswersTheCrc :
    rdy.CommandReady sup5 .supervisor ∧ 6 < (7 : Byte).toNat ∧ digesting.power.main = true
      ∧ digesting.resp.inFlight = some (.digest 2 .machines) := by decide +kernel
theorem witness_WipeEmptiesTheSiteTables :
    truckSite.CommandReady site2 .site ∧ (loggedIdle.CommandReady site2 .site ∧ loggedIdle.billing.stored ≠ [])
      ∧ (flowing.CommandReady site2 .site ∧ flowing.billing.stored = [] ∧ (flowing.hose 0).phase ≠ .off
          ∧ (flowing.hose 0).phase ≠ .idle)
      ∧ truckSite.billing.stored = [] ∧ (∀ h, (truckSite.hose h).phase = .off ∨ (truckSite.hose h).phase = .idle) := by
  decide +kernel
theorem witness_ColdStartTakesEveryColdValue :
    (dark.setPower ⟨false, false, 0, 2⟩).power.marker = false
      ∧ (after (.storeValueLost none 1) dark).power.crcDiff ≠ 0 := by decide +kernel
theorem witness_WarmStartActsByPhase :
    flowing.power.marker = true ∧ flowing.power.crcDiff = 0 ∧ flowing.HosesOk ∧ authorized.HosesOk ∧ closing.HosesOk
      ∧ result.HosesOk ∧ held.HosesOk := by decide +kernel
/-- The invariants of a step hold of the truck with a delivery under way. -/
theorem witness_StepKeepsAttention : flowing.AttentionOk := by decide +kernel
theorem witness_StepKeepsTheHoses :
    (inPhase .authorized { Timers.stopped with window := some 120 } 0 0).HosesOk ∧ authorized.ValvesOk ∧ flowing.ResiduesOk := by
  decide +kernel
theorem witness_StepKeepsTheFreeStack : rdy.FreeStackOk := by
  have free : Table.cold.free = List.finRange 512 := by simp only [Table.cold]
  have blank : ∀ i, (vget Table.cold.entries i).inUse = false := fun i => by simp [Table.cold, vget, Entry.blank]
  have table : rdy.table = Table.cold := by simp only [rdy, State.setResp, State.reset]
  refine ⟨?_, fun i => ?_⟩
  · rw [table, free]
    exact List.nodup_finRange 512
  · rw [State.entry, table, free, blank]
    simp
theorem witness_StepKeepsTheLog : flowing.ReservationsOk ∧ loggedIdle.LogOk := by decide +kernel
theorem witness_StepKeepsCommitments : flowing.CommitmentsOk ∧ flowing.AccountsOk := by
  have ctx0 : (flowing.hose 0).ctx = some delivery := by decide +kernel
  have rest : ∀ h : HoseId, h ≠ 0 → (flowing.hose h).ctx = none := by decide +kernel
  refine ⟨⟨by decide +kernel, by decide +kernel, fun h x hx => ?_⟩, fun c => ⟨?_, ?_, ?_, fun r hr => ?_⟩⟩
  · by_cases h0 : h = 0
    · subst h0
      cases Option.some.inj (ctx0.symm.trans hx)
      exact ⟨by decide, fun _ => by decide +kernel⟩
    · simp [rest h h0] at hx
  · revert c; decide +kernel
  · revert c; decide +kernel
  · revert c; decide +kernel
  · have none_read : ∀ c, (flowing.comp c).lastReading = none := by decide +kernel
    simp [none_read c] at hr
theorem witness_StepKeepsTheQueueBounds : flowing.QueuesOk ∧ answered.QueuesOk := by decide +kernel
theorem witness_StepKeepsPrivileges : rdy.PrivilegesOk ∧ rdy.HasSite ∧ rdy.storeValid = true := by
  refine ⟨by decide +kernel, ⟨2, by decide +kernel⟩, by decide +kernel⟩

end Sys2Proof.Tests
end

section
/-! PROOF. The Machine Table's chains: what a walk finds, and what a cut leaves of a chain at fault (R5, R6). -/

namespace Sys2Proof.Machine

namespace Table

variable {t : Table} {b : Bucket} {seek : Option TagId}

/-! ### One visit of a walk -/

/-- What R6 asks of a visited entry. -/
theorem visitGood_iff {i : EntryId} :
    t.visitGood b i = true ↔ (vget t.entries i).check = checkCode (vget t.entries i).loaded (vget t.entries i).next
      ∧ (vget t.entries i).inUse = true ∧ bucketOf (vget t.entries i).loaded.tag = b := by
  simp [visitGood, Entry.checkGood, and_assoc]

/-- A visit fails: the walk ends at a fault. -/
theorem walkFrom_bad {n : Nat} {i : EntryId} {pred : Option EntryId} (h : t.visitGood b i = false) :
    t.walkFrom b seek (n + 1) (some i) pred = (.fault pred, []) := by
  simp [walkFrom, h]

/-- A visit meets the tag sought: the walk ends there. -/
theorem walkFrom_sought {n : Nat} {i : EntryId} {pred : Option EntryId} (h : t.visitGood b i = true)
    (hs : seek = some (vget t.entries i).loaded.tag) :
    t.walkFrom b seek (n + 1) (some i) pred = (.found i pred, [i]) := by
  simp [walkFrom, h, ← hs]

/-- A visit passes: the walk goes on along the forward link. -/
theorem walkFrom_pass {n : Nat} {i : EntryId} {pred : Option EntryId} (h : t.visitGood b i = true)
    (hs : seek ≠ some (vget t.entries i).loaded.tag) :
    t.walkFrom b seek (n + 1) (some i) pred =
      ((t.walkFrom b seek n (vget t.entries i).next (some i)).1,
        i :: (t.walkFrom b seek n (vget t.entries i).next (some i)).2) := by
  simp [walkFrom, h, hs]

/-! ### What a walk finds (R5) -/

/-- A walk ends found only at an entry that passed its visit and holds the tag sought. -/
theorem walkFrom_found {n : Nat} {start pred : Option EntryId} {i : EntryId} {p : Option EntryId}
    (h : (t.walkFrom b seek n start pred).1 = .found i p) :
    t.visitGood b i = true ∧ seek = some (vget t.entries i).loaded.tag := by
  induction n generalizing start pred with
  | zero => cases start <;> simp [walkFrom] at h
  | succ n ih =>
    cases start with
    | none => simp [walkFrom] at h
    | some k =>
      cases hg : t.visitGood b k with
      | false => simp [walkFrom_bad hg] at h
      | true =>
        by_cases hs : seek = some (vget t.entries k).loaded.tag
        · rw [walkFrom_sought hg hs] at h
          obtain ⟨rfl, -⟩ := WalkEnd.found.inj h
          exact ⟨hg, hs⟩
        · rw [walkFrom_pass hg hs] at h
          exact ih h

/-- What a walk for a tag finds is an in-use entry of its bucket that holds the tag under a good check code (R5, R6). -/
theorem walk_found {tag : TagId} {i : EntryId} {p : Option EntryId} (h : (t.walk b (some tag)).1 = .found i p) :
    (vget t.entries i).inUse = true ∧ (vget t.entries i).loaded.tag = tag ∧ bucketOf tag = b
      ∧ (vget t.entries i).check = checkCode (vget t.entries i).loaded (vget t.entries i).next := by
  obtain ⟨good, sought⟩ := walkFrom_found h
  obtain ⟨check, used, bucket⟩ := visitGood_iff.mp good
  obtain rfl := Option.some.inj sought
  exact ⟨used, rfl, bucket, check⟩

/-! ### What a cut leaves (R6) -/

/-- A walk under way meets its fault behind an entry, so the cut there is at that entry's link. -/
theorem walkFrom_fault_some {n : Nat} {start : Option EntryId} {k : EntryId} {pred : Option EntryId}
    (h : (t.walkFrom b seek n start (some k)).1 = .fault pred) : ∃ j, pred = some j := by
  induction n generalizing start k with
  | zero =>
    cases start with
    | none => simp [walkFrom] at h
    | some i => exact ⟨k, (WalkEnd.fault.inj h).symm⟩
  | succ n ih =>
    cases start with
    | none => simp [walkFrom] at h
    | some i =>
      cases hg : t.visitGood b i with
      | false =>
        rw [walkFrom_bad hg] at h
        exact ⟨k, (WalkEnd.fault.inj h).symm⟩
      | true =>
        by_cases hs : seek = some (vget t.entries i).loaded.tag
        · simp [walkFrom_sought hg hs] at h
        · rw [walkFrom_pass hg hs] at h
          exact ih h

/-- A cut at an entry keeps every entry's loaded fields and in-use mark. -/
theorem cut_some_loaded (j k : EntryId) :
    (vget (t.cut b (some j)).entries k).loaded = (vget t.entries k).loaded
      ∧ (vget (t.cut b (some j)).entries k).inUse = (vget t.entries k).inUse := by
  by_cases e : k = j <;> simp [cut, setAfter, vget_vset, e, Entry.relink]

/-- The entry at which a chain is cut has no forward link left. -/
theorem cut_some_self (j : EntryId) : vget (t.cut b (some j)).entries j = (vget t.entries j).relink none := by
  simp [cut, setAfter]

/-- Every other entry stands as it was. -/
theorem cut_some_ne {j k : EntryId} (e : k ≠ j) : vget (t.cut b (some j)).entries k = vget t.entries k := by
  simp [cut, setAfter, vget_vset_ne _ _ e]

/-- A good entry stays good when its chain is cut: the link's change renews the check code. -/
theorem visitGood_cut {j k : EntryId} (h : t.visitGood b k = true) : (t.cut b (some j)).visitGood b k = true := by
  by_cases e : k = j
  · subst e
    obtain ⟨-, used, bucket⟩ := visitGood_iff.mp h
    rw [visitGood_iff, cut_some_self]
    exact ⟨rfl, used, bucket⟩
  · rw [visitGood_iff, cut_some_ne e]
    exact visitGood_iff.mp h

/-- From an entry that passes its visit, the walk that met a fault behind j ends at j once j's link is cut. -/
theorem walkFrom_cut {j : EntryId} {n : Nat} {i : EntryId} {p q : Option EntryId} (hg : t.visitGood b i = true)
    (h : (t.walkFrom b seek (n + 1) (some i) p).1 = .fault (some j)) :
    ((t.cut b (some j)).walkFrom b seek (n + 1) (some i) q).1 = .missing := by
  induction n generalizing i p q with
  | zero =>
    by_cases hs : seek = some (vget t.entries i).loaded.tag
    · simp [walkFrom_sought hg hs] at h
    · rw [walkFrom_pass (visitGood_cut hg) (by rwa [(cut_some_loaded j i).1])]
      rw [walkFrom_pass hg hs] at h
      cases hn : (vget t.entries i).next with
      | none => simp [hn, walkFrom] at h
      | some k =>
        simp only [hn, walkFrom, WalkEnd.fault.injEq, Option.some.injEq] at h
        subst h
        simp [cut_some_self, Entry.relink, walkFrom]
  | succ n ih =>
    by_cases hs : seek = some (vget t.entries i).loaded.tag
    · simp [walkFrom_sought hg hs] at h
    · rw [walkFrom_pass (visitGood_cut hg) (by rwa [(cut_some_loaded j i).1])]
      rw [walkFrom_pass hg hs] at h
      by_cases e : i = j
      · subst e
        simp [cut_some_self, Entry.relink, walkFrom]
      · rw [cut_some_ne e]
        cases hn : (vget t.entries i).next with
        | none => simp [walkFrom]
        | some k =>
          rw [hn] at h
          cases hk : t.visitGood b k with
          | false =>
            rw [walkFrom_bad hk] at h
            exact absurd (Option.some.inj (WalkEnd.fault.inj h)) e
          | true => exact ih hk h

/-- A chain cut where its walk met a fault has no fault left, and the tag sought is not in it (R6). -/
theorem walk_cut {pred : Option EntryId} (h : (t.walk b seek).1 = .fault pred) :
    ((t.cut b pred).walk b seek).1 = .missing := by
  have headless : ((t.cut b none).walk b seek).1 = .missing := by simp [walk, cut, setAfter, walkFrom]
  unfold walk at h
  cases hh : vget t.heads b with
  | none => simp [hh, walkFrom] at h
  | some i =>
    rw [hh] at h
    cases hg : t.visitGood b i with
    | false =>
      rw [walkFrom_bad hg] at h
      obtain rfl := WalkEnd.fault.inj h
      exact headless
    | true =>
      by_cases hs : seek = some (vget t.entries i).loaded.tag
      · simp [walkFrom_sought hg hs] at h
      · have behind := h
        rw [walkFrom_pass hg hs] at behind
        obtain ⟨j, rfl⟩ := walkFrom_fault_some behind
        have heads : vget (t.cut b (some j)).heads b = some i := hh
        unfold walk
        rw [heads]
        exact walkFrom_cut hg h

end Table

/-- An entry just loaded stands at the head of its bucket, good and in use, where a walk for its tag finds it (R5, R11). -/
theorem State.linkNew_walk (s : State) (l : Loaded) (i : EntryId) (rest : List EntryId) :
    ((s.linkNew l i rest).table.walk (bucketOf l.tag) (some l.tag)).1 = .found i none := by
  have head : vget (s.linkNew l i rest).table.heads (bucketOf l.tag) = some i := by simp [State.linkNew]
  have good : (s.linkNew l i rest).table.visitGood (bucketOf l.tag) i = true := by
    simp [Table.visitGood_iff, State.linkNew, newEntry]
  rw [Table.walk, head, Table.walkFrom_sought good (by simp [State.linkNew, newEntry])]

/-- Settles O19: a loaded entry is its bucket's head, a walk ends found only at a visit that passed, and the cut renews the
check code of the entry it ends the chain at. -/
theorem walksFindWhatIsLoaded : Obligations.WalksFindWhatIsLoaded :=
  ⟨State.linkNew_walk, fun _ _ _ _ _ => Table.walk_found, fun _ _ _ _ => Table.walk_cut⟩

end Sys2Proof.Machine
end

section
/-! PROOF. What keeps the free stack, the in-use marks and the supplies: every command but the few that load, delete, wipe or
free an entry, start the part up or touch the supplies. The invariant of R4 and the store's CRC difference follow from the
same walk over the commands. -/

namespace Sys2Proof.Machine

namespace State

/-! ### The free stack and the in-use marks (R4) -/

/-- The free stack and every in-use mark stand as they were. -/
structure SameUse (s t : State) : Prop where
  free : t.table.free = s.table.free
  inUse : ∀ i, (t.entry i).inUse = (s.entry i).inUse

/-- With them the invariant of R4 stands. -/
theorem SameUse.freeStackOk {s t : State} (k : SameUse s t) (h : s.FreeStackOk) : t.FreeStackOk := by
  obtain ⟨nodup, free⟩ := h
  refine ⟨k.free ▸ nodup, fun i => ?_⟩
  rw [k.free, k.inUse]
  exact free i

/-- The supplies, the free stack and every in-use mark stand as they were. -/
structure Keeps (s t : State) : Prop extends SameUse s t where
  power : t.power = s.power

namespace Keeps

variable {s g : State}

theorem refl (s : State) : Keeps s s := ⟨⟨rfl, fun _ => rfl⟩, rfl⟩

theorem trans {t : State} (h : Keeps s g) (k : Keeps g t) : Keeps s t :=
  ⟨⟨k.free.trans h.free, fun i => (k.inUse i).trans (h.inUse i)⟩, k.power.trans h.power⟩

/-- What leaves the table and the supplies alone keeps all three. -/
theorem of_same {t : State} (table : t.table = s.table) (power : t.power = s.power) : Keeps s t :=
  ⟨⟨by rw [table], fun i => by simp only [State.entry, table]⟩, power⟩

/-- As of_same, where an equation shows the state left. -/
theorem of_eq {t u : State} (e : t = u) (table : u.table = s.table) (power : u.power = s.power) : Keeps s t :=
  e ▸ of_same table power

/-- An entry written without a change of its in-use mark. -/
theorem setEntry {i : EntryId} {x : Entry} (e : x.inUse = (s.entry i).inUse) : Keeps s (s.setEntry i x) :=
  ⟨⟨rfl, fun k => by rw [setEntry_entry]; split <;> simp_all⟩, rfl⟩

/-- A table with other entries under the same in-use marks and the same free stack. -/
theorem setTable {x : Table} (free : x.free = s.table.free)
    (inUse : ∀ i, (vget x.entries i).inUse = (s.entry i).inUse) : Keeps s (s.setTable x) := ⟨⟨free, inUse⟩, rfl⟩

/-! ### The Machine Table's operations -/

theorem cut (b : Bucket) (pred : Option EntryId) : Keeps s (s.setTable (s.table.cut b pred)) := by
  cases pred with
  | none => exact setTable rfl fun _ => rfl
  | some j => exact setTable rfl fun k => (Table.cut_some_loaded j k).2

theorem setCause (c : Cause) : Keeps s (s.setCause c) := of_same (by simp) (by simp)

theorem walkBucket (b : Bucket) (seek : Option TagId) : Keeps s (s.walkBucket b seek).2 := by
  unfold State.walkBucket
  dsimp only
  split
  · exact (cut ..).trans (setCause _)
  · exact refl s

theorem walkTag (tag : TagId) : Keeps s (s.walkTag tag).2 := walkBucket ..

theorem refill (i : EntryId) : Keeps s (s.refill i) := setEntry (by unfold Entry.refilled; split <;> rfl)

theorem refillAll (is : List EntryId) : Keeps s (s.refillAll is) := by
  refine setTable rfl fun i => ?_
  rw [vget_vmapIdx]
  unfold Entry.refilled
  (repeat' split) <;> rfl

theorem clearBusy_inUse (h : HoseId) (e : Entry) : (clearBusy h e).inUse = e.inUse := by
  unfold clearBusy; split <;> rfl

theorem release (r : EntryRef) (h : HoseId) : Keeps s (s.release r h) := by
  unfold State.release
  split
  · exact setEntry (clearBusy_inUse ..)
  · exact refl s

theorem releaseCtx (c : Context) (h : HoseId) : Keeps s (s.releaseCtx c h) := by
  unfold State.releaseCtx
  split
  · exact release ..
  · exact refl s

theorem settleCtx (c : Context) (h : HoseId) : Keeps s (s.settleCtx c h).2 := by
  unfold State.settleCtx
  split
  · next r _ _ =>
    cases e : s.holdsTag r
    · rw [settle_gone e]
      exact refl s
    · rw [settle_held e]
      exact setEntry (by unfold settledEntry; dsimp only; split <;> rfl)
  · exact refl s

theorem takeEntry (h : HoseId) (c : Context) : Keeps s (s.takeEntry h c) := by
  unfold State.takeEntry
  split
  · exact setEntry rfl
  · exact refl s

theorem applyStrike (op : StrikeOp) (i : EntryId) : Keeps s (s.applyStrike op i) := by
  have struck : Keeps s (s.setEntry i ((s.entry i).strike op s.table.policy.threshold)) := setEntry rfl
  unfold State.applyStrike
  dsimp only
  split
  · exact struck.trans (setCause _)
  · exact struck

theorem passed (i : EntryId) (rollCall : Bool) (r : Option Nat) :
    Keeps s (s.setEntry i ((s.entry i).passed rollCall r)) := setEntry rfl

/-! ### The hoses' operations -/

theorem modHose (h : HoseId) (f : Hose → Hose) : Keeps s (s.modHose h f) := of_same rfl rfl

theorem uncommit (c : CompId) (k : TxKind) (e : Nat) : Keeps s (s.uncommit c k e) := of_same rfl rfl

theorem unreserve : Keeps s s.unreserve := of_same rfl rfl

theorem entryProgress (h : HoseId) : Keeps s (s.entryProgress h) := of_same (by simp) (by simp)

theorem requestRefused (b : Option Byte) (why : Reason) (k : Option RequestKind) : Keeps s (s.requestRefused b why k) :=
  of_same (by simp) (by simp)

theorem accept (h : HoseId) (c : Context) : Keeps s (s.accept h c) := by
  have units : Keeps s ((s.reserve.takeEntry h c).commit c.comp c.kind c.preset) :=
    ((of_same (s := s) (by simp) (by simp)).trans (takeEntry h c)).trans (of_same rfl rfl)
  refine units.trans (of_same ?_ ?_) <;>
  · unfold State.accept
    dsimp only
    split <;> simp

theorem dropTransaction (h : HoseId) : Keeps s (s.dropTransaction h) := by
  unfold State.dropTransaction
  split
  · exact modHose ..
  · next c _ => exact ((unreserve.trans (uncommit ..)).trans (releaseCtx c h)).trans (modHose ..)

theorem cancel (h : HoseId) (why : Reason) (kind : Option RequestKind) : Keeps s (s.cancel h why kind) :=
  ((dropTransaction h).trans (requestRefused ..)).trans (entryProgress h)

theorem resultEntry (h : HoseId) (frame : Bool) : Keeps s (s.resultEntry h frame) := by
  unfold State.resultEntry
  split
  · exact refl s
  · next c _ =>
    have settled : Keeps s ((s.uncommit c.comp c.kind c.term).settleCtx c h).2 :=
      (uncommit ..).trans (settleCtx c h)
    dsimp only
    split
    · exact (settled.trans (modHose ..)).trans (entryProgress _)
    · exact settled.trans (modHose ..)

theorem endClosing (h : HoseId) : Keeps s (s.endClosing h) := by
  unfold State.endClosing
  split
  · exact refl s
  · split
    · exact (dropTransaction h).trans (entryProgress _)
    · exact resultEntry ..

theorem nozzleEvent (h : HoseId) (v : Nozzle) : Keeps s (s.nozzleEvent h v) := by
  have told : Keeps s (s.modHose h fun x => { x with nozzle := v }) := modHose ..
  unfold State.nozzleEvent
  dsimp only
  repeat' split
  all_goals first
    | exact told
    | exact told.trans (endClosing h)
    | exact told.trans (of_same (by simp) (by simp))

theorem stopRequest (h : HoseId) : Keeps s (s.stopRequest h) := by
  unfold State.stopRequest
  split
  · exact cancel ..
  all_goals exact of_same (by simp) (by simp)

/-! ### A tag read and the operator's starts -/

theorem refuseFound (h : HoseId) (why : Reason) (tag : TagId) (i : EntryId) : Keeps s (s.refuseFound h why tag i) :=
  of_same (by simp) (by simp)

theorem authRefused (h : HoseId) (why : Reason) (tag : Option TagId) (m k : Option Nat) :
    Keeps s (s.authRefused h why tag m k) := of_same (by simp) (by simp)

theorem spaceAndPreset (h : HoseId) (p : Profile) (st : Settings) (i : EntryId) (tag : TagId) (r : Option Nat) :
    Keeps s (s.spaceAndPreset h p st i tag r) := by
  unfold State.spaceAndPreset
  by_cases full : s.billing.full = true
  · rw [if_pos full]
    exact refuseFound ..
  · rw [if_neg full]
    refine (refill i).trans ?_
    dsimp only
    repeat' split
    all_goals first
      | exact refuseFound ..
      | exact accept ..

theorem testsAndStrikes (h : HoseId) (p : Profile) (st : Settings) (i : EntryId) (tag : TagId) (r : Option Nat) :
    Keeps s (s.testsAndStrikes h p st i tag r) := by
  unfold State.testsAndStrikes
  dsimp only
  split
  · exact (applyStrike ..).trans (refuseFound ..)
  · exact (applyStrike ..).trans (refuseFound ..)
  · split
    · exact (applyStrike ..).trans (refuseFound ..)
    · split
      · exact (applyStrike ..).trans (refuseFound ..)
      · exact ((applyStrike ..).trans (passed ..)).trans (spaceAndPreset ..)

theorem lookupTag (h : HoseId) (p : Profile) (st : Settings) (tag : TagId) (r : Option Nat) :
    Keeps s (s.lookupTag h p st tag r) := by
  unfold State.lookupTag
  dsimp only
  split
  · exact (walkTag tag).trans (authRefused ..)
  · exact (walkTag tag).trans (authRefused ..)
  · split
    · exact (walkTag tag).trans (authRefused ..)
    · split
      · exact (walkTag tag).trans (refuseFound ..)
      · split
        · exact (walkTag tag).trans (refuseFound ..)
        · exact (walkTag tag).trans (testsAndStrikes ..)

theorem tagReadEvent (h : HoseId) (tag : TagId) (hours : Word) (q : Byte) : Keeps s (s.tagReadEvent h tag hours q) := by
  unfold State.tagReadEvent State.evaluateRead
  repeat' split
  all_goals first
    | exact refl s
    | exact authRefused ..
    | exact lookupTag ..

theorem manualRequest (n : Node) (h z c p : Byte) (m : Half) (r : Word) : Keeps s (s.manualRequest n h z c p m r) := by
  unfold State.manualRequest State.manualEvaluate
  dsimp only
  repeat' split
  all_goals first
    | exact requestRefused ..
    | exact authRefused ..
    | exact accept ..

theorem receiveRequest (n : Node) (h : Byte) (v : Word) (p : Byte) (r : Word) : Keeps s (s.receiveRequest n h v p r) := by
  unfold State.receiveRequest State.receiveEvaluate
  dsimp only
  repeat' split
  all_goals first
    | exact requestRefused ..
    | exact authRefused ..
    | exact accept ..

/-! ### The commands of the Machine Table that free and take no entry -/

theorem cmdReadByTag (tag : TagId) : Keeps s (s.cmdReadByTag tag).1 := by
  unfold State.cmdReadByTag
  dsimp only
  split
  · exact (walkTag tag).trans (refill _)
  · exact walkTag tag

theorem cmdReadByIndex (start : Half) : Keeps s (s.cmdReadByIndex start).1 := by
  unfold State.cmdReadByIndex
  dsimp only
  split
  · exact refillAll _
  · exact refl s

theorem cmdSetAllowance (tag : TagId) (v : Word) : Keeps s (s.cmdSetAllowance tag v).1 := by
  unfold State.cmdSetAllowance
  dsimp only
  repeat' split
  · exact walkTag tag
  · exact (walkTag tag).trans (setEntry rfl)
  · exact walkTag tag
  · exact refl s

theorem cmdClearStrikes (tag : TagId) : Keeps s (s.cmdClearStrikes tag).1 := by
  unfold State.cmdClearStrikes
  dsimp only
  split
  · exact (walkTag tag).trans (setEntry rfl)
  · exact walkTag tag

theorem cmdSetStrikePolicy (f : PolicyForm) : Keeps s (s.cmdSetStrikePolicy f).1 := by
  unfold State.cmdSetStrikePolicy
  repeat' split
  · exact refl s
  · exact refl s
  · exact setTable rfl fun _ => rfl

theorem cmdRollCallStart : Keeps s s.cmdRollCallStart.1 := setTable rfl fun i => by rw [vget_vmap]; rfl

/-! ### A warm start -/

theorem warmHose (h : HoseId) : Keeps s (s.warmHose h) := by
  have items : Keeps s (s.modHose h warmItems) := modHose ..
  unfold State.warmHose
  dsimp only
  split
  · exact items.trans (dropTransaction h)
  · split
    · exact (items.trans (modHose ..)).trans (resultEntry ..)
    · split
      · exact items.trans (modHose ..)
      · exact items

theorem warmHoses (l : List HoseId) : Keeps s (l.foldl (fun u h => u.warmHose h) s) := by
  induction l generalizing s with
  | nil => exact refl s
  | cons h l ih => exact (warmHose h).trans ih

/-- Once the supplies and the straps are read, a warm start keeps the rest of the supplies. -/
theorem warmStart (n : Node) : Keeps (s.warmResp n) (s.warmStart n) := by
  have link : Keeps (s.warmResp n) (s.warmResp n).warmLink := of_same (warmLink_table _) (warmLink_power _)
  refine (link.trans (warmHoses (ids 6))).trans (of_same ?_ ?_) <;> simp only [State.warmStart] <;> simp

end Keeps

/-! ### The walk over the commands -/

/-- The reception of a frame and the frames queued in answer keep all three. -/
theorem keeps_received (s : State) : Received (Keeps s) where
  good _ _ h := h.trans (.of_same (by simp) (by simp))
  bad _ _ h := h.trans (.of_same (by simp) (by simp))
  screened _ _ h := h.trans (.of_same (by simp) (by simp))
  screen _ _ h := h.trans (.of_same (by simp) (by simp))
  forward _ _ _ h := h.trans (.of_same (by simp) (by simp))
  control _ _ _ h := h.trans (.of_same (by simp) (by simp))
  ordinary _ _ h := h.trans (.of_same (by simp) (by simp))

namespace Keeps

variable {s : State} {a : Addr}

/-- A command keeps what its owner keeps. -/
theorem command {code : Byte} {least : Level} {act : State → State × Reply} (owner : ∀ g, Keeps g (act g).1) :
    Keeps s (s.takeCommand a code least act) :=
  (keeps_received s).takeCommand (refl s) fun g h => h.trans (owner g)

/-- An OPERATOR frame keeps what its owner keeps. -/
theorem operator {act : State → State} (owner : ∀ g, Keeps g (act g)) : Keeps s (s.takeOperator a act) :=
  (keeps_received s).takeOperator (refl s) fun g h => h.trans (owner g)

/-- A request that names a hose keeps what the hose's rule keeps. -/
theorem request {kind : RequestKind} {hose : Byte} {act : HoseId → State → State} (owner : ∀ k g, Keeps g (act k g)) :
    Keeps s (s.takeHoseRequest a kind hose act) :=
  (keeps_received s).takeHoseRequest (refl s) fun k g h => h.trans (owner k g)

/-- A field device frame keeps what its owner keeps. -/
theorem device {ι : Type} {owner : State → Node → Option ι} {formOk : Bool} {act : ι → State → State}
    (keeps : ∀ i g, Keeps g (act i g)) : Keeps s (s.takeField a owner formOk act) :=
  (keeps_received s).takeField (refl s) fun i g h => h.trans (keeps i g)

/-- An expiry keeps what the timer's act keeps. -/
theorem expiry {h : HoseId} {timer : Timers → Option Nat} {inPhase : Phase → Bool} {act : State → State}
    (owner : Keeps s (act s)) : Keeps s (s.expiry h timer inPhase act) :=
  expiry_elim (refl s) fun _ _ => owner

end Keeps

end State

open State

/-- The rows that load, delete, wipe or free an entry, may start the part up, or touch the supplies. -/
def Instr.reshapes : Instr → Bool
  | .loadMachine _ _ | .deleteMachine _ _ | .wipe _ | .sweepDone | .frameSent _ | .startUp _ | .mainSupplyLoss
  | .retentionSupplyFailure | .storeValueLost _ _ => true
  | _ => false

/-- Every other row keeps the free stack, the in-use marks and the supplies. -/
theorem row_keeps (j : Instr) (s : State) (raw : Instr.raw j = false) (other : Instr.reshapes j = false) :
    ∃ t, exec j s = .next t ∧ Keeps s t := by
  cases j with
  | badFrame | screenDrop | carriageFrame | malformedRequest | malformedCommand => cases raw
  | loadMachine | deleteMachine | wipe | sweepDone | frameSent | startUp | mainSupplyLoss | retentionSupplyFailure
  | storeValueLost => cases other
  | tagRead => exact ⟨_, rfl, .device fun _ _ => .tagReadEvent ..⟩
  | nozzle a v => exact ⟨_, rfl, .device fun _ _ => by split; exacts [.nozzleEvent .., .refl _]⟩
  | meterSample => exact ⟨_, rfl, .device fun _ _ => .of_same (by simp) (by simp)⟩
  | headStatus => exact ⟨_, rfl, .device fun _ _ => .of_same (by simp) (by simp)⟩
  | probe => exact ⟨_, rfl, .device fun _ _ => .of_eq (probeEvent_only ..) rfl rfl⟩
  | post => exact ⟨_, rfl, .request fun _ _ => .of_same (by simp) (by simp)⟩
  | hold => exact ⟨_, rfl, .request fun _ _ => .of_same (by simp) (by simp)⟩
  | resume => exact ⟨_, rfl, .request fun _ _ => .of_same (by simp) (by simp)⟩
  | stop => exact ⟨_, rfl, .request fun _ _ => .stopRequest _⟩
  | emergencyStop =>
    exact ⟨_, rfl, .operator fun _ => by split; exacts [.requestRefused .., .of_same (by simp) (by simp)]⟩
  | manualAuth => exact ⟨_, rfl, .operator fun _ => .manualRequest ..⟩
  | receiveStart => exact ⟨_, rfl, .operator fun _ => .receiveRequest ..⟩
  | authWindowExpiry => exact ⟨_, rfl, .expiry (.cancel ..)⟩
  | noFlowExpiry => exact ⟨_, rfl, .expiry (.of_same (by simp) (by simp))⟩
  | meterSilenceExpiry => exact ⟨_, rfl, .expiry (.of_same (by simp) (by simp))⟩
  | settleExpiry => exact ⟨_, rfl, .expiry (.endClosing _)⟩
  | postDelayExpiry => exact ⟨_, rfl, .expiry (.of_same (by simp) (by simp))⟩
  | holdLimitExpiry => exact ⟨_, rfl, .expiry (.of_same (by simp) (by simp))⟩
  | identify => exact ⟨_, rfl, .command fun _ => .refl _⟩
  | status a x n o =>
    refine ⟨_, rfl, ?_⟩
    split
    · exact .command fun _ => .of_eq (cmdStatusCounterClear_fst_only ..) rfl rfl
    · exact .command fun _ => .of_eq (cmdStatus_fst_only ..) rfl rfl
  | statusCounterClear => exact ⟨_, rfl, .command fun _ => .of_eq (cmdStatusCounterClear_fst_only ..) rfl rfl⟩
  | setClock => exact ⟨_, rfl, .command fun _ => .of_eq (cmdSetClock_fst_only ..) rfl rfl⟩
  | setPrivilege => exact ⟨_, rfl, .command fun _ => .of_eq (cmdSetPrivilege_fst_only ..) rfl rfl⟩
  | setProtection => exact ⟨_, rfl, .command fun _ => .of_eq (cmdSetProtection_fst_only ..) rfl rfl⟩
  | digest => exact ⟨_, rfl, .command fun _ => .of_eq (cmdDigest_fst_only ..) rfl rfl⟩
  | digestDone => exact ⟨_, rfl, by split; exacts [.of_same (by simp) (by simp), .refl s]⟩
  | queryEmpty => exact ⟨_, rfl, .command fun _ => .of_eq (cmdQueryEmpty_fst_only ..) rfl rfl⟩
  | restart => exact ⟨_, rfl, .command fun _ => .refl _⟩
  | readMachineByTag => exact ⟨_, rfl, .command fun _ => .cmdReadByTag _⟩
  | readMachineByIndex => exact ⟨_, rfl, .command fun _ => .cmdReadByIndex _⟩
  | setAllowance => exact ⟨_, rfl, .command fun _ => .cmdSetAllowance ..⟩
  | clearStrikes => exact ⟨_, rfl, .command fun _ => .cmdClearStrikes _⟩
  | openPeriod => exact ⟨_, rfl, .command fun _ => .setTable rfl fun _ => rfl⟩
  | sweep => exact ⟨_, rfl, .command fun _ => .of_eq (cmdSweep_fst_only ..) rfl rfl⟩
  | setStrikePolicy => exact ⟨_, rfl, .command fun _ => .cmdSetStrikePolicy _⟩
  | rollCallStart => exact ⟨_, rfl, .command fun _ => .cmdRollCallStart⟩
  | rollCallStop => exact ⟨_, rfl, .command fun _ => .setTable rfl fun _ => rfl⟩
  | rollCallRead => exact ⟨_, rfl, .command fun _ => .of_eq (cmdRollCallRead_fst_only ..) rfl rfl⟩
  | loadHoseProfile => exact ⟨_, rfl, .command fun _ => .of_eq (cmdLoadHoseProfile_fst_only ..) rfl rfl⟩
  | siteStop => exact ⟨_, rfl, .command fun _ => .of_eq (cmdSiteStop_fst_only _) rfl rfl⟩
  | siteResume => exact ⟨_, rfl, .command fun _ => .of_eq (cmdSiteResume_fst_only _) rfl rfl⟩
  | loadCalibration => exact ⟨_, rfl, .command fun _ => .of_eq (cmdLoadCalibration_fst_only ..) rfl rfl⟩
  | loadGrade => exact ⟨_, rfl, .command fun _ => .of_eq (cmdLoadGrade_fst_only ..) rfl rfl⟩
  | loadCompartment => exact ⟨_, rfl, .command fun _ => .of_eq (cmdLoadCompartment_fst_only ..) rfl rfl⟩
  | ackRestock => exact ⟨_, rfl, .command fun _ => .of_eq (cmdAckRestock_fst_only ..) rfl rfl⟩
  | setStock => exact ⟨_, rfl, .command fun _ => .of_eq (cmdSetStock_fst_only ..) rfl rfl⟩
  | reconcile => exact ⟨_, rfl, .command fun _ => .of_eq (cmdReconcile_fst_only ..) rfl rfl⟩
  | loadTariff => exact ⟨_, rfl, .command fun _ => .of_eq (cmdLoadTariff_fst_only ..) rfl rfl⟩
  | loadClassRate => exact ⟨_, rfl, .command fun _ => .of_eq (cmdLoadClassRate_fst_only ..) rfl rfl⟩
  | readLog => exact ⟨_, rfl, .command fun _ => .of_eq (cmdReadLog_fst_only ..) rfl rfl⟩
  | releaseLog => exact ⟨_, rfl, .command fun _ => .of_eq (cmdReleaseLog_fst_only ..) rfl rfl⟩
  | readCentres => exact ⟨_, rfl, .command fun _ => .of_eq (cmdReadCentres_fst_only ..) rfl rfl⟩
  | clearCentres => exact ⟨_, rfl, .command fun _ => .of_eq (cmdClearCentres_fst_only ..) rfl rfl⟩
  | rearm => exact ⟨_, rfl, .command fun _ => .of_eq (cmdRearm_fst_only ..) rfl rfl⟩
  | loadFrameClass => exact ⟨_, rfl, .command fun _ => .of_eq (cmdLoadFrameClass_fst_only ..) rfl rfl⟩
  | siteClockSecond => exact ⟨_, rfl, by split; exacts [.of_same rfl rfl, .refl s]⟩

end Sys2Proof.Machine
end

section
/-! PROOF. The free stack (R4): what loads, deletes, sweeps, wipes and starts up keeps it the list of the entries not in use, and
so does every step. -/

namespace Sys2Proof.Machine

namespace State

variable {s : State}

/-! ### Entries taken and freed (R4) -/

/-- Freeing an entry in use pushes an index the stack does not hold. -/
theorem freeEntry_freeStackOk {i : EntryId} (h : s.FreeStackOk) (used : (s.entry i).inUse = true) :
    (s.freeEntry i).FreeStackOk := by
  obtain ⟨nodup, free⟩ := h
  have fresh : i ∉ s.table.free := fun m => by simp [(free i).mp m] at used
  refine ⟨List.nodup_cons.mpr ⟨fresh, nodup⟩, fun k => ?_⟩
  by_cases e : k = i
  · subst e
    simp [freeEntry, entry]
  · have other : (s.freeEntry i).entry k = s.entry k := vget_vset_ne _ _ e
    rw [other, ← free k]
    simp [freeEntry, e]

/-- Loading an entry takes the index on top of the stack, and no other. -/
theorem linkNew_freeStackOk {l : Loaded} {i : EntryId} {rest : List EntryId} (h : s.FreeStackOk)
    (top : s.table.free = i :: rest) : (s.linkNew l i rest).FreeStackOk := by
  obtain ⟨nodup, free⟩ := h
  rw [top] at nodup free
  obtain ⟨taken, nodup⟩ := List.nodup_cons.mp nodup
  refine ⟨nodup, fun k => ?_⟩
  by_cases e : k = i
  · subst e
    simpa [linkNew, entry, newEntry] using taken
  · have other : (s.linkNew l i rest).entry k = s.entry k := vget_vset_ne _ _ e
    rw [other, ← free k]
    simp [linkNew, e]

/-- The table of a cold start holds every index on its stack and no entry in use. -/
theorem freeStackOk_of_cold {period : Word} (e : s.table = { Table.cold with period := period }) : s.FreeStackOk := by
  have stack : s.table.free = List.finRange 512 := by rw [e, Table.cold]
  have entries : s.table.entries = Vector.replicate 512 Entry.blank := by rw [e, Table.cold]
  have blank : ∀ i, s.entry i = Entry.blank := fun i => by rw [entry, entries, vget_replicate]
  exact ⟨stack ▸ List.nodup_finRange 512, fun i => by
    rw [stack, blank]
    exact ⟨fun _ => rfl, fun _ => List.mem_finRange i⟩⟩

/-! ### SWEEP (R18) -/

/-- What the freeing phase still frees. -/
theorem mem_sweepFreed {w : SweepWork} {i : EntryId} :
    i ∈ s.sweepFreed w ↔ i.val < w.left ∧ s.sweepable w i = true := by
  simp [sweepFreed]

/-- An entry after the rest of the freeing phase. -/
theorem sweepFree_entry (w : SweepWork) (i : EntryId) :
    (s.sweepFree w).entry i = if i ∈ s.sweepFreed w then { s.entry i with inUse := false } else s.entry i := by
  have read : (s.sweepFree w).entry i
      = if i.val < w.left && s.sweepable w i then { s.entry i with inUse := false } else s.entry i := vget_vmapIdx ..
  simp only [read, mem_sweepFreed, Bool.and_eq_true, decide_eq_true_eq]

/-- The rest of the freeing phase pushes entries in use alone, each once. -/
theorem sweepFree_freeStackOk {w : SweepWork} (h : s.FreeStackOk) : (s.sweepFree w).FreeStackOk := by
  obtain ⟨nodup, free⟩ := h
  have used : ∀ i ∈ s.sweepFreed w, (s.entry i).inUse = true := fun i m => by
    have := (mem_sweepFreed.mp m).2
    simp only [sweepable, Bool.and_eq_true] at this
    exact this.1
  refine ⟨List.nodup_append'.mpr ⟨nodup_ids.filter _, nodup, fun i m f => ?_⟩, fun i => ?_⟩
  · exact absurd (used i m) (by simp [(free i).mp f])
  · rw [sweepFree_entry]
    by_cases m : i ∈ s.sweepFreed w
    · simp [sweepFree, m]
    · simp [sweepFree, m, free i]

/-- A marking walk frees and takes no entry. -/
theorem Keeps.markBucket (b : Bucket) (w : SweepWork) : Keeps s (State.markBucket b (w, s)).2 := .walkBucket b none

/-- Nor does the rest of the marking phase. -/
theorem Keeps.sweepMark (w : SweepWork) : Keeps s (State.sweepMark (w, s)).2 := by
  unfold State.sweepMark
  generalize (ids 64).filter _ = l
  induction l generalizing s w with
  | nil => exact .refl s
  | cons b l ih => exact (Keeps.markBucket b w).trans (ih _)

theorem examineEntry_freeStackOk {i : EntryId} {w : SweepWork} (h : s.FreeStackOk) :
    (State.examineEntry i (w, s)).2.FreeStackOk := by
  unfold State.examineEntry
  dsimp only
  split
  · next free =>
    simp only [sweepable, Bool.and_eq_true] at free
    exact freeEntry_freeStackOk h free.1
  · exact h

theorem sweepMoment_freeStackOk {w : SweepWork} (h : s.FreeStackOk) : (State.sweepMoment (w, s)).2.FreeStackOk := by
  unfold State.sweepMoment
  dsimp only
  split
  · exact (Keeps.markBucket ..).freeStackOk h
  · split
    · exact h
    · split
      · exact examineEntry_freeStackOk h
      · exact h

theorem sweepTick_freeStackOk (h : s.FreeStackOk) : s.sweepTick.FreeStackOk := by
  unfold State.sweepTick
  split
  · exact sweepMoment_freeStackOk h
  · exact h

/-! ### The commands that load, delete and wipe -/

theorem cmdLoadMachine_freeStackOk {m : MachineForm} (h : s.FreeStackOk) : (s.cmdLoadMachine m).1.FreeStackOk := by
  unfold State.cmdLoadMachine
  split
  · exact h
  · next l _ =>
    have walked := (Keeps.walkTag l.tag).freeStackOk h
    dsimp only
    split
    · exact (Keeps.setEntry (by rfl)).freeStackOk walked
    · split
      · exact walked
      · next top => exact linkNew_freeStackOk walked top

theorem cmdDeleteMachine_freeStackOk {tag : TagId} (h : s.FreeStackOk) : (s.cmdDeleteMachine tag).1.FreeStackOk := by
  have kept := Keeps.walkTag (s := s) tag
  unfold State.cmdDeleteMachine
  dsimp only
  split
  · next i pred found =>
    rw [walkTag_eq] at found
    have used : ((s.walkTag tag).2.entry i).inUse = true := (kept.inUse i).trans (Table.walk_found found).1
    have unlinked : Keeps (s.walkTag tag).2 ((s.walkTag tag).2.setTable
        ((s.walkTag tag).2.table.setAfter (bucketOf tag) pred ((s.walkTag tag).2.entry i).next)) := by
      cases pred with
      | none => exact .setTable rfl fun _ => rfl
      | some j => exact .setEntry (i := j) rfl
    exact freeEntry_freeStackOk ((kept.trans unlinked).freeStackOk h) ((unlinked.inUse i).trans used)
  · exact kept.freeStackOk h

theorem cmdWipe_freeStackOk (h : s.FreeStackOk) : s.cmdWipe.1.FreeStackOk := by
  unfold State.cmdWipe
  repeat' split
  · exact h
  · exact h
  · exact freeStackOk_of_cold rfl

/-! ### Start-up -/

theorem startUp_freeStackOk {straps : Node} (h : s.FreeStackOk) : (s.startUp straps).FreeStackOk := by
  unfold State.startUp
  split
  · exact (Keeps.warmStart straps).freeStackOk h
  · exact freeStackOk_of_cold (period := 0) (by simp [coldStart, coldItems, Table.cold])

/-! ### Every step -/

/-- The reception of a frame leaves the table alone. -/
theorem freeStackOk_received : Received FreeStackOk where
  good s p h := ((keeps_received s).good s p (.refl s)).freeStackOk h
  bad s p h := ((keeps_received s).bad s p (.refl s)).freeStackOk h
  screened s p h := ((keeps_received s).screened s p (.refl s)).freeStackOk h
  screen s x h := ((keeps_received s).screen s x (.refl s)).freeStackOk h
  forward s p f h := ((keeps_received s).forward s p f (.refl s)).freeStackOk h
  control s k f h := ((keeps_received s).control s k f (.refl s)).freeStackOk h
  ordinary s f h := ((keeps_received s).ordinary s f (.refl s)).freeStackOk h

end State

open State

/-- The rows that reshape the table or the supplies keep the free stack too. -/
theorem reshapes_freeStackOk {j : Instr} {s t : State} (reshapes : Instr.reshapes j = true) (h : s.FreeStackOk)
    (e : exec j s = .next t) : t.FreeStackOk := by
  have r := freeStackOk_received
  cases j with
  | loadMachine =>
    obtain rfl := Host.Outcome.next.inj e
    exact r.takeCommand h fun _ => cmdLoadMachine_freeStackOk
  | deleteMachine =>
    obtain rfl := Host.Outcome.next.inj e
    exact r.takeCommand h fun _ => cmdDeleteMachine_freeStackOk
  | wipe =>
    obtain rfl := Host.Outcome.next.inj e
    exact r.takeCommand h fun _ => cmdWipe_freeStackOk
  | sweepDone =>
    obtain rfl := Host.Outcome.next.inj e
    split
    · next node w _ _ =>
      refine r.answer ?_ ..
      exact sweepFree_freeStackOk (w := (State.sweepMark (w, s)).1) ((Keeps.sweepMark w).freeStackOk h)
    · exact h
  | frameSent p =>
    obtain rfl := Host.Outcome.next.inj e
    split
    · split
      · exact startUp_freeStackOk h
      · cases p <;> exact h
    · exact h
  | startUp =>
    obtain rfl := Host.Outcome.next.inj e
    exact startUp_freeStackOk h
  | mainSupplyLoss | retentionSupplyFailure =>
    obtain rfl := Host.Outcome.next.inj e
    split <;> exact h
  | storeValueLost entry change =>
    obtain rfl := Host.Outcome.next.inj e
    cases entry with
    | none => exact h
    | some loss =>
      obtain ⟨i, lost⟩ := loss
      exact (Keeps.setEntry (by cases lost <;> rfl)).freeStackOk h
  | _ => cases reshapes

/-- Settles O56: a row of its own keeps the stack and the marks or is one of the few that reshape them, the raw rows end in a
row of their own or in a drop, and an idle step is a moment of a SWEEP. -/
theorem stepKeepsTheFreeStack : Obligations.StepKeepsTheFreeStack := by
  intro s t h e
  unfold step at e
  split at e
  · obtain rfl := Host.Outcome.next.inj e
    exact sweepTick_freeStackOk h
  · next rest _ =>
    refine freeStackOk_received.exec (fun j u raw hu v ev => ?_) _ (s.setPending rest) _ h e
    cases reshapes : Instr.reshapes j with
    | true => exact reshapes_freeStackOk reshapes hu ev
    | false =>
      obtain ⟨w, ew, kept⟩ := row_keeps j u raw reshapes
      obtain rfl := Host.Outcome.next.inj (ew.symm.trans ev)
      exact kept.freeStackOk hu

end Sys2Proof.Machine
end

section
/-! PROOF. The supplies, the clock's second and the retained store (R168, R179), and that no command but the loss of a control
item parts the stored CRC from the control items. -/

namespace Sys2Proof.Machine

/-! ### A value the store loses (R2) -/

/-- A loss changes loaded fields, link or check code, and no kept field. -/
theorem Entry.lose_kept (e : Entry) (l : LostValue) :
    e.lose l = { e with loaded := (e.lose l).loaded, next := (e.lose l).next, check := (e.lose l).check } := by
  cases l <;> rfl

/-- The stored check code stays unless it is the value lost. -/
theorem Entry.lose_check {e : Entry} {l : LostValue} (h : ∀ v, l ≠ .check v) : (e.lose l).check = e.check := by
  cases l with
  | check v => exact absurd rfl (h v)
  | _ => rfl

/-- The forward link stays unless it is the value lost. -/
theorem Entry.lose_next {e : Entry} {l : LostValue} (h : ∀ v, l ≠ .link v) : (e.lose l).next = e.next := by
  cases l with
  | link v => exact absurd rfl (h v)
  | _ => rfl

namespace State

variable {s : State}

/-- A change added to the store's difference is added to the stored CRC. -/
theorem controlCrc_lost {t : State} {d : Half} (bytes : t.controlBytes = s.controlBytes)
    (diff : t.power.crcDiff = s.power.crcDiff ^^^ d) : t.controlCrc = s.controlCrc ^^^ d := by
  rw [controlCrc, controlCrc, bytes, diff, BitVec.xor_assoc]

/-! ### The stored CRC keeps matching (R179) -/

/-- The stored CRC matches the control items. -/
def CrcMatches (s : State) : Prop := s.power.crcDiff = 0#16

theorem CrcMatches.of_power {t : State} (h : s.CrcMatches) (e : t.power = s.power) : t.CrcMatches := by
  rwa [CrcMatches, e]

theorem CrcMatches.of_eq {t u : State} (h : s.CrcMatches) (e : t = u) (power : u.power = s.power) : t.CrcMatches :=
  e ▸ h.of_power power

theorem crcMatches_received : Received CrcMatches where
  good s p h := h.of_power ((keeps_received s).good s p (.refl s)).power
  bad s p h := h.of_power ((keeps_received s).bad s p (.refl s)).power
  screened s p h := h.of_power ((keeps_received s).screened s p (.refl s)).power
  screen s x h := h.of_power ((keeps_received s).screen s x (.refl s)).power
  forward s p f h := h.of_power ((keeps_received s).forward s p f (.refl s)).power
  control s k f h := h.of_power ((keeps_received s).control s k f (.refl s)).power
  ordinary s f h := h.of_power ((keeps_received s).ordinary s f (.refl s)).power

/-- A start-up leaves it matching: a warm start finds it so, a cold start writes it. -/
theorem startUp_crcMatches {straps : Node} (h : s.CrcMatches) : (s.startUp straps).CrcMatches := by
  unfold State.startUp
  split
  · exact CrcMatches.of_power (s := s.warmResp straps) h (Keeps.warmStart straps).power
  · exact CrcMatches.of_power (s := s.coldItems straps) rfl (setCause_power ..)

end State

open State

/-- The rows that reshape the table or the supplies leave the stored CRC matching, but for a lost control item. -/
theorem reshapes_crcMatches {j : Instr} {s t : State} (reshapes : Instr.reshapes j = true)
    (whole : ∀ l d, j = .storeValueLost l d → d = 0#16) (h : s.CrcMatches) (e : exec j s = .next t) : t.CrcMatches := by
  have r := crcMatches_received
  cases j with
  | loadMachine a m =>
    obtain rfl := Host.Outcome.next.inj e
    exact r.takeCommand h fun g hg => hg.of_eq (g.cmdLoadMachine_fst_only m) rfl
  | deleteMachine a tag =>
    obtain rfl := Host.Outcome.next.inj e
    exact r.takeCommand h fun g hg => hg.of_eq (g.cmdDeleteMachine_fst_only tag) rfl
  | wipe =>
    obtain rfl := Host.Outcome.next.inj e
    exact r.takeCommand h fun g hg => hg.of_eq g.cmdWipe_fst_only rfl
  | sweepDone =>
    obtain rfl := Host.Outcome.next.inj e
    split
    · next node w _ _ =>
      refine r.answer ?_ ..
      exact CrcMatches.of_power (s := (State.sweepMark (w, s)).2) (h.of_eq (s.sweepMark_snd_only w) rfl) rfl
    · exact h
  | frameSent p =>
    obtain rfl := Host.Outcome.next.inj e
    split
    · split
      · exact startUp_crcMatches h
      · cases p <;> exact h
    · exact h
  | startUp =>
    obtain rfl := Host.Outcome.next.inj e
    exact startUp_crcMatches h
  | mainSupplyLoss | retentionSupplyFailure =>
    obtain rfl := Host.Outcome.next.inj e
    split <;> exact h
  | storeValueLost entry change =>
    obtain rfl := whole _ _ rfl
    obtain rfl := Host.Outcome.next.inj e
    show s.power.crcDiff ^^^ 0#16 = 0#16
    rw [h, BitVec.xor_zero]
  | _ => cases reshapes

/-- The rows that are a frame of their own class and form, which the hand-off takes to an owner. -/
def Instr.ownFrame : Instr → Bool
  | .badFrame _ _ | .screenDrop _ _ | .carriageFrame _ _ | .malformedRequest _ _ | .malformedCommand _ _ => false
  | .authWindowExpiry _ | .noFlowExpiry _ | .meterSilenceExpiry _ | .settleExpiry _ | .postDelayExpiry _
  | .holdLimitExpiry _ | .frameSent _ | .startUp _ | .digestDone | .sweepDone | .siteClockSecond | .mainSupplyLoss
  | .retentionSupplyFailure | .storeValueLost _ _ => false
  | _ => true

/-- The hand-off of a frame keeps a property that the reception keeps and the rows of frames keep: no event is handed off. -/
theorem Received.handOff {P : State → Prop} (r : Received P) {i : Instr} {s t : State} (h : P s)
    (rows : ∀ j, Instr.ownFrame j = true → ∀ t, Machine.exec j s = .next t → P t) (e : handOff i s = .next t) : P t := by
  have own := rows i
  cases i with
  | screenDrop p f =>
    obtain rfl := Host.Outcome.next.inj e
    exact dropFrame_elim h (r.stray _ h) (r.misdirected _ h) (r.screened _ _ (r.good _ _ h))
  | carriageFrame p f =>
    obtain rfl := Host.Outcome.next.inj e
    exact takeCarriage_elim h (r.screened _ _ (r.good _ _ h)) (r.forward _ _ _ (r.good _ _ h))
  | malformedRequest a pl =>
    obtain rfl := Host.Outcome.next.inj e
    exact r.takeOperator h fun g hg => r.ordinary _ _ hg
  | malformedCommand a pl =>
    obtain rfl := Host.Outcome.next.inj e
    unfold State.refuseCommand
    split
    · exact r.takeCommand h fun g hg => hg
    · exact takeMgmt_elim h (r.stray _ h) (r.misdirected _ h) (r.screened _ _ (r.good _ _ h))
        fun _ => r.answer (r.good _ _ h) ..
  | badFrame | authWindowExpiry | noFlowExpiry | meterSilenceExpiry | settleExpiry | postDelayExpiry | holdLimitExpiry
  | frameSent | startUp | digestDone | sweepDone | siteClockSecond | mainSupplyLoss | retentionSupplyFailure
  | storeValueLost =>
    obtain rfl := Host.Outcome.next.inj e
    exact h
  | _ => exact own rfl t e

/-- A frame delivered whole keeps what its hand-off keeps. -/
theorem Received.receiveFrame {P : State → Prop} (r : Received P) {p : Port} {f : Frame} {s t : State} (h : P s)
    (rows : ∀ j, Instr.ownFrame j = true → ∀ t, Machine.exec j s = .next t → P t) (e : receiveFrame p f s = .next t) :
    P t := by
  unfold Machine.receiveFrame at e
  split at e
  · exact r.handOff h rows e
  · obtain rfl := Host.Outcome.next.inj e
    split
    · exact r.bad _ _ h
    · exact h

/-- So does a raw row. -/
theorem Received.raw {P : State → Prop} (r : Received P) {i : Instr} {s t : State} (raw : Instr.raw i = true) (h : P s)
    (rows : ∀ j, Instr.ownFrame j = true → ∀ t, Machine.exec j s = .next t → P t) (e : Machine.exec i s = .next t) :
    P t := by
  cases i with
  | badFrame p bytes =>
    change execBadFrame p bytes s = _ at e
    unfold execBadFrame at e
    split at e
    · obtain rfl := Host.Outcome.next.inj e
      split
      · exact r.bad _ _ h
      · exact h
    · exact r.receiveFrame h rows e
  | screenDrop | carriageFrame | malformedRequest | malformedCommand => exact r.receiveFrame h rows e
  | _ => cases raw

/-- No command but the loss of a control item parts the stored CRC from the items. -/
theorem exec_crcMatches {i : Instr} {s t : State} (whole : ∀ l d, i = .storeValueLost l d → d = 0#16)
    (h : s.CrcMatches) (e : exec i s = .next t) : t.CrcMatches := by
  have row : ∀ j : Instr, (∀ l d, j = .storeValueLost l d → d = 0#16) → Instr.raw j = false →
      ∀ t, exec j s = .next t → t.CrcMatches := by
    intro j whole raw t ev
    cases reshapes : Instr.reshapes j with
    | true => exact reshapes_crcMatches reshapes whole h ev
    | false =>
      obtain ⟨w, ew, kept⟩ := row_keeps j s raw reshapes
      obtain rfl := Host.Outcome.next.inj (ew.symm.trans ev)
      exact h.of_power kept.power
  cases raw : Instr.raw i with
  | false => exact row i whole raw t e
  | true =>
    refine crcMatches_received.raw raw h (fun j own => row j ?_ ?_) e
    · rintro l d rfl
      cases own
    · cases j <;> first | rfl | cases own

/-- Settles O4: each event's arm is its whole next state; a loss is taken apart by the value it names; and the stored CRC
keeps matching along every command that loses no control item. -/
theorem supplyAndStoreEvents : Obligations.SupplyAndStoreEvents := by
  refine ⟨fun s => ⟨fun on => ?_, fun on => ?_, fun off => ?_, s.storeValid_iff, fun d => ?_, fun e l d => ?_⟩, ?_⟩
  · exact congrArg Host.Outcome.next (if_pos on)
  · exact congrArg Host.Outcome.next (if_pos on)
  · exact congrArg Host.Outcome.next (if_neg (by simp [off]))
  · exact ⟨_, rfl, rfl, controlCrc_lost rfl rfl, rfl⟩
  · refine ⟨(s.entry e).lose l, _, rfl, rfl, controlCrc_lost rfl rfl, rfl, Entry.lose_kept _ l, Entry.lose_check,
      Entry.lose_next, ?_⟩
    refine ⟨?_, ?_, ?_, ?_, ?_, ?_, ?_, ?_, ?_⟩ <;> rintro v rfl
    case refine_8 | refine_9 => exact ⟨rfl, rfl⟩
    all_goals rfl
  · intro i s t whole e good
    rw [controlCrc_matches] at good ⊢
    exact exec_crcMatches whole good e

end Sys2Proof.Machine
end

section
/-! PROOF. The commands of the Machine Table (chapter 1.6): what each does once its walk is done, and the answer it gives. -/

namespace Sys2Proof.Machine

/-! ### Operands in range -/

theorem finOf_eq_some {n v : Nat} {i : Fin n} : finOf n v = some i ↔ v = i.val := by
  unfold finOf
  split
  · simp [Fin.ext_iff]
  · have := i.isLt
    simp
    omega

theorem finOf_eq_none {n v : Nat} : finOf n v = none ↔ n ≤ v := by
  unfold finOf
  split <;> simp <;> omega

namespace State

variable {s : State} {a : Addr} {tag : TagId} {i : EntryId} {pred : Option EntryId}

/-! ### The walk for a tag by its outcome (R5, R6) -/

theorem walkTag_found (h : (s.table.walk (bucketOf tag) (some tag)).1 = .found i pred) :
    s.walkTag tag = (.found i pred, s) := by rw [walkTag_eq, h]

theorem walkTag_missing (h : (s.table.walk (bucketOf tag) (some tag)).1 = .missing) : s.walkTag tag = (.missing, s) := by
  rw [walkTag_eq, h]

theorem walkTag_fault (h : (s.table.walk (bucketOf tag) (some tag)).1 = .fault pred) :
    s.walkTag tag = (.fault pred, s.afterCut tag pred) := by rw [walkTag_eq, h]

/-- A command that reaches its owner is answered as the owner says, over the state the owner leaves. -/
theorem takeCommand_answered {code : Byte} {least : Level} {act : State → State × Reply} {t : State} {st : Status}
    {res : ResultCode} {data : List Byte} (ready : s.CommandReady a least)
    (e : act (s.countGood .cab) = (t, .now st res data)) :
    (.next (s.takeCommand a code least act) : Host.Outcome State Fault Refusal) = .next (t.answer a.src st code res data) := by
  rw [takeCommand_ready ready, e]
  rfl

/-! ### CLEAR_STRIKES, SET_ALLOWANCE (R16, R17) -/

theorem cmdClearStrikes_found (h : (s.table.walk (bucketOf tag) (some tag)).1 = .found i pred) :
    s.cmdClearStrikes tag = (s.setEntry i { s.entry i with strikes := 0, barred := false }, passOk []) := by
  simp only [cmdClearStrikes, walkTag_found h]

theorem cmdClearStrikes_missing (h : (s.table.walk (bucketOf tag) (some tag)).1 = .missing) :
    s.cmdClearStrikes tag = (s, fail .notFound) := by simp only [cmdClearStrikes, walkTag_missing h]

theorem cmdClearStrikes_fault (h : (s.table.walk (bucketOf tag) (some tag)).1 = .fault pred) :
    s.cmdClearStrikes tag = (s.afterCut tag pred, fail .notFound) := by simp only [cmdClearStrikes, walkTag_fault h]

theorem cmdSetAllowance_range {volume : Word} (v : 99999999 < volume.toNat) :
    s.cmdSetAllowance tag volume = (s, fail .range) := if_neg (Nat.not_le.mpr v)

theorem cmdSetAllowance_limited {volume : Word} {old : Nat} (v : volume.toNat ≤ 99999999)
    (h : (s.table.walk (bucketOf tag) (some tag)).1 = .found i pred) (o : (s.entry i).loaded.allowance = some old) :
    s.cmdSetAllowance tag volume =
      (s.setEntry i { s.entry i with remaining := some (min volume.toNat old), period := s.table.period },
        passAdj (old < volume.toNat) (beN 4 (min volume.toNat old))) := by
  simp only [cmdSetAllowance, if_pos (show volume.toNat ≤ Config.maxVolume from v), walkTag_found h, o]

theorem cmdSetAllowance_unlimited {volume : Word} (v : volume.toNat ≤ 99999999)
    (h : (s.table.walk (bucketOf tag) (some tag)).1 = .found i pred) (o : (s.entry i).loaded.allowance = none) :
    s.cmdSetAllowance tag volume = (s, fail .state) := by
  simp only [cmdSetAllowance, if_pos (show volume.toNat ≤ Config.maxVolume from v), walkTag_found h, o]

theorem cmdSetAllowance_missing {volume : Word} (v : volume.toNat ≤ 99999999)
    (h : (s.table.walk (bucketOf tag) (some tag)).1 = .missing) :
    s.cmdSetAllowance tag volume = (s, fail .notFound) := by
  simp only [cmdSetAllowance, if_pos (show volume.toNat ≤ Config.maxVolume from v), walkTag_missing h]

theorem cmdSetAllowance_fault {volume : Word} (v : volume.toNat ≤ 99999999)
    (h : (s.table.walk (bucketOf tag) (some tag)).1 = .fault pred) :
    s.cmdSetAllowance tag volume = (s.afterCut tag pred, fail .notFound) := by
  simp only [cmdSetAllowance, if_pos (show volume.toNat ≤ Config.maxVolume from v), walkTag_fault h]

end State

open State

/-- Settles O14: each command by its walk's outcome. -/
theorem allowanceStrikesAndPeriod : Obligations.AllowanceStrikesAndPeriod := by
  intro a s ready g
  refine ⟨fun tag i pred h => ?_, fun tag volume v => ?_, fun tag volume i pred v h => ⟨fun old o => ?_, fun o => ?_⟩,
    fun tag h => ⟨?_, fun volume v => ?_⟩, fun tag pred h => ⟨?_, fun volume v => ?_⟩, ?_⟩
  · exact takeCommand_answered ready (cmdClearStrikes_found h)
  · exact takeCommand_answered ready (cmdSetAllowance_range v)
  · refine (takeCommand_answered ready (cmdSetAllowance_limited v h o)).trans ?_
    simp only [decide_eq_true_eq]
    rfl
  · exact takeCommand_answered ready (cmdSetAllowance_unlimited v h o)
  · exact takeCommand_answered ready (cmdClearStrikes_missing h)
  · exact takeCommand_answered ready (cmdSetAllowance_missing v h)
  · exact takeCommand_answered ready (cmdClearStrikes_fault h)
  · exact takeCommand_answered ready (cmdSetAllowance_fault v h)
  · exact takeCommand_answered (act := State.cmdOpenPeriod) ready rfl

namespace State

variable {s : State} {a : Addr} {tag : TagId} {i : EntryId} {pred : Option EntryId}

/-! ### DELETE_MACHINE (R13) -/

theorem cmdDeleteMachine_found (h : (s.table.walk (bucketOf tag) (some tag)).1 = .found i pred) :
    s.cmdDeleteMachine tag =
      ((s.setTable (s.table.setAfter (bucketOf tag) pred (s.entry i).next)).freeEntry i, passOk (beN 2 i.val)) := by
  simp only [cmdDeleteMachine, walkTag_found h]

theorem cmdDeleteMachine_missing (h : (s.table.walk (bucketOf tag) (some tag)).1 = .missing) :
    s.cmdDeleteMachine tag = (s, fail .notFound) := by simp only [cmdDeleteMachine, walkTag_missing h]

theorem cmdDeleteMachine_fault (h : (s.table.walk (bucketOf tag) (some tag)).1 = .fault pred) :
    s.cmdDeleteMachine tag = (s.afterCut tag pred, fail .notFound) := by simp only [cmdDeleteMachine, walkTag_fault h]

end State

/-- Settles O16: by the walk's outcome, and at a found entry by its place in the chain. -/
theorem deleteMachineUnlinksTheEntry : Obligations.DeleteMachineUnlinksTheEntry := by
  intro a tag s i ready g
  refine ⟨fun h => ?_, fun j h => ?_, fun h => ?_, fun pred h => ?_⟩
  · exact takeCommand_answered ready (cmdDeleteMachine_found (s := s.countGood .cab) h)
  · exact takeCommand_answered ready (cmdDeleteMachine_found (s := s.countGood .cab) h)
  · exact takeCommand_answered ready (cmdDeleteMachine_missing h)
  · exact takeCommand_answered ready (cmdDeleteMachine_fault h)

namespace State

variable {s : State} {a : Addr} {tag : TagId} {i : EntryId} {pred : Option EntryId}

/-! ### READ_MACHINE (R14, R15) -/

theorem cmdReadByTag_found (h : (s.table.walk (bucketOf tag) (some tag)).1 = .found i pred) :
    s.cmdReadByTag tag = (s.refill i,
      passOk ([1#8, 0xFF#8, 0xFF#8] ++ ((s.entry i).refilled s.table.period).readForm i)) := by
  have read : (s.refill i).entry i = (s.entry i).refilled s.table.period := by simp [refill]
  simp only [cmdReadByTag, walkTag_found h, read]
  rfl

theorem cmdReadByTag_missing (h : (s.table.walk (bucketOf tag) (some tag)).1 = .missing) :
    s.cmdReadByTag tag = (s, fail .notFound) := by simp only [cmdReadByTag, walkTag_missing h]

theorem cmdReadByTag_fault (h : (s.table.walk (bucketOf tag) (some tag)).1 = .fault pred) :
    s.cmdReadByTag tag = (s.afterCut tag pred, fail .notFound) := by simp only [cmdReadByTag, walkTag_fault h]

/-- An entry after the refill of a list of entries. -/
theorem refillAll_entry (is : List EntryId) (k : EntryId) :
    (s.refillAll is).entry k = if k ∈ is then (s.entry k).refilled s.table.period else s.entry k := by
  have read : (s.refillAll is).entry k = if is.contains k then (s.entry k).refilled s.table.period else s.entry k :=
    vget_vmapIdx ..
  simpa only [List.contains_iff_mem] using read

/-- A read by index refills what it reads and answers the refilled forms. -/
theorem cmdReadByIndex_reads {start : Half} (v : start.toNat ≤ 511) :
    let got := ((ids 512).filter fun i => decide (start.toNat ≤ i.val) && (s.entry i).inUse).take 3
    s.cmdReadByIndex start = (s.refillAll got,
      passOk (beN 1 got.length ++ optN 2 (nextIndex got.getLast? (decide (got.length < 3)))
        ++ (got.map fun i => ((s.entry i).refilled s.table.period).readForm i).flatten)) := by
  intro got
  have forms : (got.map fun i => ((s.refillAll got).entry i).readForm i)
      = got.map fun i => ((s.entry i).refilled s.table.period).readForm i :=
    List.map_congr_left fun i m => by rw [refillAll_entry, if_pos m]
  simp only [cmdReadByIndex, if_pos v]
  rw [← forms]

theorem nextIndex_end (last : Option EntryId) : nextIndex last true = none := by
  cases last <;> rfl

theorem nextIndex_some (i : EntryId) : nextIndex (some i) false = if i.val = 511 then none else some (i.val + 1) := by
  simp [nextIndex]

end State

/-- Settles O17: by the walk's outcome, and by index through the refill of what is read. -/
theorem readMachineRefillsWhatItReads : Obligations.ReadMachineRefillsWhatItReads := by
  intro a s ready g refilled
  refine ⟨fun tag i pred h => ?_, fun tag h => ?_, fun tag pred h => ?_, fun start v => ?_, fun start v => ?_⟩
  · exact takeCommand_answered ready (cmdReadByTag_found h)
  · exact takeCommand_answered ready (cmdReadByTag_missing h)
  · exact takeCommand_answered ready (cmdReadByTag_fault h)
  · intro inUse got
    refine ⟨g.refillAll got, nextIndex got.getLast? (decide (got.length < 3)),
      takeCommand_answered ready (cmdReadByIndex_reads v), rfl, refillAll_entry got, fun few => ?_, fun i full last => ?_⟩
    · have : got.length < 3 := (List.length_take_le' ..).trans_lt few
      rw [decide_eq_true this, nextIndex_end]
    · rw [last, decide_eq_false (by omega), nextIndex_some]
  · exact takeCommand_answered ready (if_neg (by omega))

end Sys2Proof.Machine
end

section
/-! PROOF. LOAD_MACHINE (R11, R12): which forms are acceptable, the entry replaced, the entry linked. -/

namespace Sys2Proof.Machine

/-! ### The operands of LOAD_MACHINE (R11, R181) -/

/-- LOAD_MACHINE's test of an allowance: absent, or 1 to 99,999,999 mL. -/
def allowanceInRange : Option Nat → Bool
  | none => true
  | some v => 1 ≤ v && v ≤ Config.maxVolume

theorem allowanceInRange_iff {v : Word} :
    allowanceInRange (allowanceOf v) = true ↔ v ≠ 0 ∧ (v.toNat ≤ 99999999 ∨ v = 0xFFFFFFFF#32) := by
  unfold allowanceInRange allowanceOf
  by_cases absent : v = 0xFFFFFFFF#32
  · simp [absent]
  · have positive : 1 ≤ v.toNat ↔ v ≠ 0#32 := by
      rw [Nat.one_le_iff_ne_zero, ne_eq, ne_eq, BitVec.toNat_eq]
      rfl
    simp [absent, positive]

/-- The forms R11 accepts. -/
structure AcceptableForm (m : MachineForm) : Prop where
  tag : m.tag ≠ 0
  number : m.number ≠ 0
  numberPresent : m.number ≠ 0xFFFF#16
  grades : m.grades ≠ 0
  hourCheck : m.hourCheck.toNat ≤ 1
  allowance : m.allowance ≠ 0
  allowanceBound : m.allowance.toNat ≤ 99999999 ∨ m.allowance = 0xFFFFFFFF#32

theorem number_inRange {n : Half} : (1 ≤ n.toNat ∧ n.toNat ≤ 65534) ↔ n ≠ 0 ∧ n ≠ 0xFFFF#16 := by
  rw [ne_eq, ne_eq, BitVec.toNat_eq, BitVec.toNat_eq]
  have := n.isLt
  change _ ↔ ¬ n.toNat = 0 ∧ ¬ n.toNat = 65535
  omega

/-- The loaded fields of a form: those of an acceptable one, with class and cost centre in range. -/
theorem loadedOf_eq {m : MachineForm} {c : ClassId} {z : CentreId} (hc : m.cls.toNat = c.val) (hz : m.centre.toNat = z.val)
    (l : Loaded) :
    loadedOf m = some l ↔ AcceptableForm m ∧
      l = ⟨m.tag, m.number.toNat, c, z, m.grades, m.hourCheck == 1#8, allowanceOf m.allowance⟩ := by
  have acceptable : (m.tag != 0#48 && decide (1 ≤ m.number.toNat) && decide (m.number.toNat ≤ 65534) && m.grades != 0#8
      && decide (m.hourCheck.toNat ≤ 1) && allowanceInRange (allowanceOf m.allowance)) = true ↔ AcceptableForm m := by
    simp only [Bool.and_eq_true, allowanceInRange_iff, bne_iff_ne, decide_eq_true_eq]
    constructor
    · rintro ⟨⟨⟨⟨⟨tag, least⟩, most⟩, grades⟩, hour⟩, allowance, bound⟩
      obtain ⟨number, present⟩ := number_inRange.mp ⟨least, most⟩
      exact ⟨tag, number, present, grades, hour, allowance, bound⟩
    · rintro ⟨tag, number, present, grades, hour, allowance, bound⟩
      obtain ⟨least, most⟩ := number_inRange.mpr ⟨number, present⟩
      exact ⟨⟨⟨⟨⟨tag, least⟩, most⟩, grades⟩, hour⟩, allowance, bound⟩
  have yes (ok : AcceptableForm m) : loadedOf m = some
      ⟨m.tag, m.number.toNat, c, z, m.grades, m.hourCheck == 1#8, allowanceOf m.allowance⟩ := by
    unfold loadedOf
    rw [finOf_eq_some.mpr hc, finOf_eq_some.mpr hz]
    exact if_pos (acceptable.mpr ok)
  have no (bad : ¬ AcceptableForm m) : loadedOf m = none := by
    unfold loadedOf
    rw [finOf_eq_some.mpr hc, finOf_eq_some.mpr hz]
    exact if_neg (acceptable.not.mpr bad)
  by_cases ok : AcceptableForm m
  · rw [yes ok]
    simp only [Option.some.injEq, ok, true_and]
    exact eq_comm
  · simp [no ok, ok]

/-- A form whose class or cost centre is out of range, or that is not acceptable otherwise, has no loaded fields. -/
theorem loadedOf_unacceptable {m : MachineForm} (h : m.tag = 0 ∨ m.number = 0 ∨ m.number = 0xFFFF#16 ∨ 15 < m.cls.toNat
      ∨ 63 < m.centre.toNat ∨ m.grades = 0 ∨ 1 < m.hourCheck.toNat ∨ m.allowance = 0
      ∨ (99999999 < m.allowance.toNat ∧ m.allowance ≠ 0xFFFFFFFF#32)) : loadedOf m = none := by
  cases e : loadedOf m with
  | none => rfl
  | some l =>
    have inRange : m.cls.toNat < 16 ∧ m.centre.toNat < 64 := by
      unfold loadedOf at e
      split at e
      · next c z hc hz =>
        rw [finOf_eq_some.mp hc, finOf_eq_some.mp hz]
        exact ⟨c.isLt, z.isLt⟩
      · cases e
    obtain ⟨cls, centre⟩ := inRange
    obtain ⟨ok, -⟩ := (loadedOf_eq (c := ⟨_, cls⟩) (z := ⟨_, centre⟩) rfl rfl l).mp e
    rcases h with h | h | h | h | h | h | h | h | ⟨h, h'⟩
    · exact absurd h ok.tag
    · exact absurd h ok.number
    · exact absurd h ok.numberPresent
    · omega
    · omega
    · exact absurd h ok.grades
    · exact absurd h (Nat.not_lt.mpr ok.hourCheck)
    · exact absurd h ok.allowance
    · exact ok.allowanceBound.elim (fun b => absurd b (Nat.not_le.mpr h)) (fun b => absurd b h')

namespace State

variable {s : State} {m : MachineForm} {l : Loaded} {i : EntryId} {pred : Option EntryId}

/-! ### LOAD_MACHINE by its walk's outcome (R4, R6, R11, R12) -/

theorem cmdLoadMachine_range (e : loadedOf m = none) : s.cmdLoadMachine m = (s, fail .range) := by
  simp only [cmdLoadMachine, e]

theorem cmdLoadMachine_found (e : loadedOf m = some l)
    (h : (s.table.walk (bucketOf l.tag) (some l.tag)).1 = .found i pred) :
    s.cmdLoadMachine m =
      (s.setEntry i ((s.entry i).replaced l s.table.period), .now .pass .replaced (beN 2 i.val)) := by
  simp only [cmdLoadMachine, e, walkTag_found h]

theorem cmdLoadMachine_new {rest : List EntryId} (e : loadedOf m = some l)
    (h : (s.table.walk (bucketOf l.tag) (some l.tag)).1 = .missing) (top : s.table.free = i :: rest) :
    s.cmdLoadMachine m = (s.linkNew l i rest, passOk (beN 2 i.val)) := by
  simp only [cmdLoadMachine, e, walkTag_missing h, top]

theorem cmdLoadMachine_full (e : loadedOf m = some l)
    (h : (s.table.walk (bucketOf l.tag) (some l.tag)).1 = .missing) (top : s.table.free = []) :
    s.cmdLoadMachine m = (s, fail .tableFull) := by
  simp only [cmdLoadMachine, e, walkTag_missing h, top]

/-- A chain's cut leaves the free stack alone. -/
theorem afterCut_free (tag : TagId) (pred : Option EntryId) : (s.afterCut tag pred).table.free = s.table.free := by
  simp only [afterCut, setCause_table]
  cases pred <;> rfl

theorem cmdLoadMachine_cut_new {rest : List EntryId} (e : loadedOf m = some l)
    (h : (s.table.walk (bucketOf l.tag) (some l.tag)).1 = .fault pred) (top : s.table.free = i :: rest) :
    s.cmdLoadMachine m = ((s.afterCut l.tag pred).linkNew l i rest, passOk (beN 2 i.val)) := by
  simp only [cmdLoadMachine, e, walkTag_fault h, afterCut_free, top]

theorem cmdLoadMachine_cut_full (e : loadedOf m = some l)
    (h : (s.table.walk (bucketOf l.tag) (some l.tag)).1 = .fault pred) (top : s.table.free = []) :
    s.cmdLoadMachine m = (s.afterCut l.tag pred, fail .tableFull) := by
  simp only [cmdLoadMachine, e, walkTag_fault h, afterCut_free, top]

end State

/-! ### The remaining allowance of a replaced entry (the table of R12) -/

theorem replacedRemaining_past {e : Entry} {period : Word} {new : Option Nat} (h : e.period ≠ period) :
    replacedRemaining e period new = new := if_pos h

theorem replacedRemaining_unlimited {e : Entry} {period : Word} (h : e.period = period) :
    replacedRemaining e period none = none := by
  cases o : e.loaded.allowance <;> simp [replacedRemaining, h, o]

theorem replacedRemaining_newLimit {e : Entry} {period : Word} {v : Nat} (h : e.period = period)
    (o : e.loaded.allowance = none) : replacedRemaining e period (some v) = some v := by
  simp [replacedRemaining, h, o]

theorem replacedRemaining_limited {e : Entry} {period : Word} {v old left : Nat} (h : e.period = period)
    (o : e.loaded.allowance = some old) (r : e.remaining = some left) :
    replacedRemaining e period (some v) = some (min left v) := by
  simp [replacedRemaining, h, o, r]

open State

/-- Settles O15: the form's loaded fields, then the walk's outcome, then the free stack. -/
theorem loadMachineWritesTheEntry : Obligations.LoadMachineWritesTheEntry := by
  intro a m s ready g
  refine ⟨fun bad => takeCommand_answered ready (cmdLoadMachine_range (loadedOf_unacceptable bad)), ?_⟩
  intro c z b tag number present hc hz grades hour allowed bound allowance l head linked
  have hourBit : (m.hourCheck == 1#8) = b := by
    cases b <;> simp_all [BitVec.toNat_eq]
  have loaded : loadedOf m = some l :=
    (loadedOf_eq hc hz l).mpr ⟨⟨tag, number, present, grades, hour ▸ Bool.toNat_le b, allowed, bound⟩, by rw [hourBit]; rfl⟩
  refine ⟨fun i pred h => ?_, fun h => ⟨fun i rest top => ?_, fun top => ?_⟩, fun pred h => ⟨fun i rest top => ?_, fun top => ?_⟩⟩
  · refine ⟨replacedRemaining (s.entry i) s.table.period allowance, takeCommand_answered ready (cmdLoadMachine_found loaded h),
      replacedRemaining_past, fun p none => ?_, fun p v some o => ?_, fun p v old some o left r => ?_⟩
    · rw [none, replacedRemaining_unlimited p]
    · rw [some, replacedRemaining_newLimit p o]
    · rw [some, replacedRemaining_limited p o r]
  · exact (takeCommand_answered ready (cmdLoadMachine_new loaded h top)).trans rfl
  · exact takeCommand_answered ready (cmdLoadMachine_full loaded h top)
  · exact (takeCommand_answered ready (cmdLoadMachine_cut_new loaded h top)).trans rfl
  · exact (takeCommand_answered ready (cmdLoadMachine_cut_full loaded h top)).trans rfl

end Sys2Proof.Machine
end

section
/-! PROOF. SWEEP (R18, R19): its moments, its end, and that SWEEP_DONE leaves the same whether a moment before it passed at an
idle step or not. -/

namespace Sys2Proof.Machine

/-- The indices below the next one that meet a condition are those below it and, where it meets it, itself. -/
theorem filter_below_succ {n : Nat} (i : Fin n) (p : Fin n → Bool) :
    (ids n).filter (fun k => decide (k.val < i.val + 1) && p k)
      = (ids n).filter (fun k => decide (k.val < i.val) && p k) ++ if p i then [i] else [] := by
  obtain ⟨before, after, split⟩ := List.append_of_mem (mem_ids i)
  have sorted : (before ++ i :: after).Pairwise (· < ·) := by
    rw [← split, ids_eq_finRange]
    exact List.pairwise_lt_finRange n
  obtain ⟨-, sortedAfter, across⟩ := List.pairwise_append.mp sorted
  have low : ∀ k ∈ before, k.val < i.val := fun k m => across k m i (List.mem_cons_self ..)
  have high : ∀ k ∈ after, i.val < k.val := fun k m => (List.pairwise_cons.mp sortedAfter).1 k m
  have lows : before.filter (fun k => decide (k.val < i.val + 1) && p k)
      = before.filter (fun k => decide (k.val < i.val) && p k) :=
    List.filter_congr fun k m => by
      rw [decide_eq_true (low k m), decide_eq_true (Nat.lt_succ_of_lt (low k m))]
  have highs : ∀ b : Nat, b ≤ i.val + 1 → after.filter (fun k => decide (k.val < b) && p k) = [] := fun b hb =>
    List.filter_eq_nil_iff.mpr fun k m => by
      have := high k m
      simp
      omega
  rw [split]
  simp only [List.filter_append, List.filter_cons, lows, highs _ (Nat.le_refl _), highs _ (Nat.le_succ _)]
  cases p i <;> simp

namespace State

variable {s : State} {w : SweepWork} {node : Node}

/-! ### The moments (R18) -/

theorem sweepMoment_bucket {b : Bucket} (h : w.walked = b.val) : sweepMoment (w, s) = markBucket b (w, s) := by
  simp only [sweepMoment, finOf_eq_some.mpr h]

theorem sweepMoment_entry {i : EntryId} (walked : 64 ≤ w.walked) (h : w.left = i.val + 1) :
    sweepMoment (w, s) = examineEntry i (w, s) := by
  simp only [sweepMoment, finOf_eq_none.mpr walked, h, finOf_eq_some.mpr (rfl : i.val = i.val)]

theorem sweepMoment_over (walked : 64 ≤ w.walked) (h : w.left = 0) : sweepMoment (w, s) = (w, s) := by
  simp only [sweepMoment, finOf_eq_none.mpr walked, h]

/-- An idle step of a SWEEP in flight: the next moment, with the SWEEP still in flight. -/
theorem sweepTick_moment (on : s.power.main = true) (flight : s.resp.inFlight = some (.sweep node w)) :
    s.sweepTick = (sweepMoment (w, s)).2.setResp
      { s.resp with inFlight := some (.sweep node (sweepMoment (w, s)).1) } := by
  have resp : (sweepMoment (w, s)).2.resp = s.resp := by rw [sweepMoment_snd_only]
  unfold sweepTick
  rw [on, flight]
  dsimp only
  rw [resp]

/-- A SWEEP in flight is what the responder holds. -/
theorem setResp_inFlight (flight : s.resp.inFlight = some (.sweep node w)) :
    s.setResp { s.resp with inFlight := some (.sweep node w) } = s := by
  rw [← flight]
  rfl

theorem examineEntry_freed {i : EntryId} (c : s.sweepable w i = true) :
    examineEntry i (w, s) = ({ w with left := i.val, freed := w.freed + 1 }, s.freeEntry i) := by
  simp only [examineEntry, if_pos c]

theorem examineEntry_kept {i : EntryId} (c : s.sweepable w i = false) :
    examineEntry i (w, s) = ({ w with left := i.val }, s) := by
  simp only [examineEntry, c]
  rfl

theorem step_idle (idle : s.pending = []) : step s = .next s.sweepTick := by
  unfold step
  rw [idle]

/-! ### The end (R18, R160) -/

/-- What SWEEP_DONE does once the marking phase is over: the rest freed, the flight ended, the three counts answered. -/
def sweepAnswer (node : Node) (r : SweepWork × State) : State :=
  let t := (r.2.sweepFree r.1).setResp { r.2.resp with inFlight := none }
  t.answer node .pass 16#8 .ok
    (beN 2 (r.1.freed + (r.2.sweepFreed r.1).length) ++ beN 2 t.inUseCount ++ beN 2 r.1.faults)

theorem exec_sweepDone (on : s.power.main = true) (flight : s.resp.inFlight = some (.sweep node w)) :
    exec .sweepDone s = .next (sweepAnswer node (sweepMark (w, s))) := by
  show execSweepDone s = _
  unfold execSweepDone
  rw [on, flight]
  rfl

/-- What is in flight has no part in the answer. -/
theorem sweepAnswer_inFlight (f : Option InFlight) (w : SweepWork) (s : State) :
    sweepAnswer node (w, s.setResp { s.resp with inFlight := f }) = sweepAnswer node (w, s) := rfl

/-- Nor in a cause set, nor in a marking walk. -/
theorem setCause_setResp (c : Cause) (x : Responder) : (s.setResp x).setCause c = (s.setCause c).setResp x := by
  unfold setCause
  rw [setResp_att]
  cases s.att.state <;> rfl

theorem markBucket_setResp (b : Bucket) (x : Responder) :
    markBucket b (w, s.setResp x) = ((markBucket b (w, s)).1, (markBucket b (w, s)).2.setResp x) := by
  rw [markBucket_eq, markBucket_eq, setResp_table]
  cases (s.table.walk b none).1 with
  | fault pred => exact Prod.ext rfl (setCause_setResp (s := s.setTable (s.table.cut b pred)) ..)
  | _ => rfl

theorem sweepMark_setResp (x : Responder) :
    sweepMark (w, s.setResp x) = ((sweepMark (w, s)).1, (sweepMark (w, s)).2.setResp x) := by
  unfold sweepMark
  generalize (ids 64).filter _ = l
  induction l generalizing s w with
  | nil => rfl
  | cons b l ih =>
    rw [List.foldl_cons, List.foldl_cons, markBucket_setResp]
    exact ih

/-! ### A moment before the end -/

/-- An entry kept ahead leaves the rest of the freeing phase as it was. -/
theorem sweepFreed_kept {i : EntryId} (h : w.left = i.val + 1) (c : s.sweepable w i = false) :
    s.sweepFreed w = s.sweepFreed { w with left := i.val } := by
  unfold sweepFreed
  rw [h, filter_below_succ i (s.sweepable w), c]
  exact List.append_nil _

/-- An entry freed ahead is one less for the rest of the freeing phase. -/
theorem sweepFreed_freed {i : EntryId} (h : w.left = i.val + 1) (c : s.sweepable w i = true) :
    s.sweepFreed w = (s.freeEntry i).sweepFreed { w with left := i.val, freed := w.freed + 1 } ++ [i] := by
  unfold sweepFreed
  rw [h, filter_below_succ i (s.sweepable w), c, if_pos rfl]
  congr 1
  refine List.filter_congr fun k _ => ?_
  by_cases lt : k.val < i.val
  · have other : (s.freeEntry i).entry k = s.entry k := vget_vset_ne _ _ (Fin.ne_of_lt lt)
    simp only [sweepable, other]
  · simp [lt]

/-- The rest of the freeing phase leaves the same with an entry kept ahead. -/
theorem sweepFree_kept {i : EntryId} (h : w.left = i.val + 1) (c : s.sweepable w i = false) :
    s.sweepFree { w with left := i.val } = s.sweepFree w := by
  have entries : (s.sweepFree { w with left := i.val }).table.entries = (s.sweepFree w).table.entries := by
    refine vext fun k => ?_
    refine (s.sweepFree_entry { w with left := i.val } k).trans ?_
    rw [← sweepFreed_kept h c]
    exact (s.sweepFree_entry w k).symm
  show s.setTable { s.table with entries := (s.sweepFree { w with left := i.val }).table.entries,
                                 free := s.sweepFreed { w with left := i.val } ++ s.table.free } = _
  rw [entries, ← sweepFreed_kept h c]
  rfl

/-- And with an entry freed ahead. -/
theorem sweepFree_freed {i : EntryId} (h : w.left = i.val + 1) (c : s.sweepable w i = true) :
    (s.freeEntry i).sweepFree { w with left := i.val, freed := w.freed + 1 } = s.sweepFree w := by
  have entries : ((s.freeEntry i).sweepFree { w with left := i.val, freed := w.freed + 1 }).table.entries
      = (s.sweepFree w).table.entries := by
    refine vext fun k => ?_
    refine ((s.freeEntry i).sweepFree_entry { w with left := i.val, freed := w.freed + 1 } k).trans ?_
    refine Eq.trans ?_ (s.sweepFree_entry w k).symm
    rw [sweepFreed_freed h c]
    by_cases e : k = i
    · subst e
      simp [mem_sweepFreed, freeEntry, entry]
    · have other : (s.freeEntry i).entry k = s.entry k := vget_vset_ne _ _ e
      simp [other, e]
  show s.setTable { s.table with
      entries := ((s.freeEntry i).sweepFree { w with left := i.val, freed := w.freed + 1 }).table.entries,
      free := (s.freeEntry i).sweepFreed { w with left := i.val, freed := w.freed + 1 } ++ (i :: s.table.free) } = _
  rw [entries, ← List.singleton_append, ← List.append_assoc, ← sweepFreed_freed h c]
  rfl

/-- SWEEP_DONE leaves the same with an entry examined ahead. -/
theorem sweepAnswer_entry {i : EntryId} (h : w.left = i.val + 1) :
    sweepAnswer node (examineEntry i (w, s)) = sweepAnswer node (w, s) := by
  cases c : s.sweepable w i with
  | false =>
    rw [examineEntry_kept c]
    simp only [sweepAnswer, sweepFree_kept h c, ← sweepFreed_kept h c]
  | true =>
    have count : w.freed + 1 + ((s.freeEntry i).sweepFreed { w with left := i.val, freed := w.freed + 1 }).length
        = w.freed + (s.sweepFreed w).length := by
      rw [sweepFreed_freed h c, List.length_append, List.length_singleton]
      omega
    rw [examineEntry_freed c]
    simp only [sweepAnswer, sweepFree_freed h c, count]
    rfl

/-- The end of a SWEEP is the same with a moment taken ahead. -/
theorem sweepAnswer_moment : sweepAnswer node (sweepMark (sweepMoment (w, s))) = sweepAnswer node (sweepMark (w, s)) := by
  by_cases walked : 64 ≤ w.walked
  · have same : sweepMoment (w, s) = (w, s) → sweepAnswer node (sweepMark (sweepMoment (w, s)))
        = sweepAnswer node (sweepMark (w, s)) := fun e => by rw [e]
    cases left : w.left with
    | zero => exact same (sweepMoment_over walked left)
    | succ n =>
      by_cases inRange : n < 512
      · have still : 64 ≤ (examineEntry ⟨n, inRange⟩ (w, s)).1.walked := by
          unfold examineEntry
          split <;> exact walked
        rw [sweepMoment_entry (i := ⟨n, inRange⟩) walked left, sweepMark_walked _ _ walked, ← Prod.mk.eta (p := examineEntry _ _),
          sweepMark_walked _ _ still]
        exact sweepAnswer_entry left
      · exact same (by simp only [sweepMoment, finOf_eq_none.mpr walked, left, finOf_eq_none.mpr (Nat.not_lt.mp inRange)])
  · obtain ⟨b, e⟩ : ∃ b : Bucket, w.walked = b.val := ⟨⟨w.walked, Nat.not_le.mp walked⟩, rfl⟩
    rw [sweepMoment_bucket e, sweepMark_next s w b e]

/-- SWEEP_DONE leaves the same whether a moment before it passed at an idle step or not. -/
theorem exec_sweepDone_sweepTick (on : s.power.main = true) (flight : s.resp.inFlight = some (.sweep node w)) :
    exec .sweepDone s.sweepTick = exec .sweepDone s := by
  have resp : (sweepMark (sweepMoment (w, s))).2.resp = s.resp := by
    rw [← Prod.mk.eta (p := sweepMoment (w, s)), sweepMark_snd_only, sweepMoment_snd_only]
  have power : (sweepMoment (w, s)).2.power = s.power := by rw [sweepMoment_snd_only]
  rw [sweepTick_moment on flight, exec_sweepDone (w := (sweepMoment (w, s)).1) (node := node) (by rw [setResp_power, power, on]) rfl,
    exec_sweepDone on flight, sweepMark_setResp, ← sweepAnswer_moment (w := w), ← resp]
  rfl

end State

open State

/-- Settles O18: the moments one by one, SWEEP_DONE after the marking phase, and a moment taken ahead. -/
theorem sweepFreesWhatNoChainReaches : Obligations.SweepFreesWhatNoChainReaches := by
  refine ⟨fun a s ready => congrArg Host.Outcome.next (takeCommand_ready (act := State.cmdSweep a.src) ready), ?_⟩
  intro s node w on flight goesOn
  refine ⟨fun idle => ⟨?_, ?_, fun walked none => ?_⟩, ?_, fun t idle e => ?_⟩
  · intro b next walk v
    rw [step_idle idle, sweepTick_moment on flight, sweepMoment_bucket next, markBucket_eq]
    refine ⟨fun missing => ?_, fun pred fault => ?_⟩
    · rw [missing, next]
      rfl
    · rw [fault, next]
  · intro i walked next stray
    rw [step_idle idle, sweepTick_moment on flight, sweepMoment_entry walked next]
    refine ⟨fun freed => ?_, fun kept => ?_⟩
    · rw [examineEntry_freed (by simpa [sweepable, stray] using freed)]
      rfl
    · rw [examineEntry_kept (by simpa [sweepable, stray] using kept)]
  · rw [step_idle idle, sweepTick_moment on flight, sweepMoment_over walked none, setResp_inFlight flight]
  · intro walked freed
    have same : freed = s.sweepFreed w := List.filter_congr fun k _ => Bool.and_assoc ..
    rw [exec_sweepDone on flight, sweepMark_walked _ _ walked, same]
    exact ⟨_, rfl, rfl, rfl, s.sweepFree_entry w⟩
  · rw [step_idle idle] at e
    obtain rfl := Host.Outcome.next.inj e
    exact exec_sweepDone_sweepTick on flight

end Sys2Proof.Machine
end

section
/-! PROOF. The machine right after reset, and a cold start (R137, R179, R180). -/

namespace Sys2Proof.Machine

namespace State

/-! ### The reset state item by item -/

theorem reset_hose (h : HoseId) : reset.hose h = Hose.cold := vget_replicate ..

theorem reset_comp (c : CompId) : reset.comp c = Compartment.cold := vget_replicate ..

theorem reset_holders : reset.holders = 0 := by
  simp [holders, reset_hose, Hose.cold]

theorem reset_committed (k : TxKind) (c : CompId) : reset.committed k c = 0 := by
  have zero : reset.hoseTerm k c = fun _ => 0 := funext fun h => by simp [hoseTerm, reset_hose, Hose.cold]
  simp [committed, zero]

theorem reset_hosesOk : reset.HosesOk := fun h => by
  rw [reset_hose]
  decide

end State

open State

/-- Settles O53: nothing is held, committed or queued but the one ATTENTION frame being sent. -/
theorem resetMeetsEveryInvariant : Obligations.ResetMeetsEveryInvariant := by
  have valve : ∀ h, (State.reset.hose h).ValveOk := fun h => by rw [reset_hose]; decide
  have residues : State.reset.ResiduesOk := fun h => by rw [reset_hose]; decide
  have free : State.reset.FreeStackOk := freeStackOk_of_cold (period := 0) (by simp only [State.reset, Table.cold])
  have reservations : State.reset.ReservationsOk := ⟨reset_hosesOk, reset_holders.symm, by decide, by decide⟩
  have log : State.reset.LogOk := ⟨by decide, by decide, rfl⟩
  have commitments : State.reset.CommitmentsOk := by
    refine ⟨reset_hosesOk, fun c => ?_, fun h x held => ?_⟩
    · rw [reset_comp, reset_committed, reset_committed]
      exact ⟨rfl, rfl⟩
    · rw [reset_hose] at held
      cases held
  have accounts : State.reset.AccountsOk := fun c => by
    rw [reset_comp]
    exact ⟨by decide, by decide, by decide, fun r read => by cases read⟩
  have queues : State.reset.QueuesOk := by
    refine ⟨⟨by decide, by decide, .nil, fun _ => rfl⟩, ⟨by decide, by decide, .nil, fun free => ?_⟩, by decide, by decide⟩
    cases free
  exact ⟨(fun armed => by cases armed), reset_hosesOk, ⟨reset_hosesOk, valve⟩, residues, free, reservations, log, commitments,
    accounts, queues, ⟨by decide, by decide⟩, ⟨2, by decide⟩⟩

namespace State

variable {s : State} {straps : Node}

/-! ### A cold start (R137, R162, R180) -/

/-- An invalid store: its marker lost or its CRC parted from the control items. -/
theorem storeValid_false (h : s.power.marker = false ∨ s.power.crcDiff ≠ 0#16) : s.storeValid = false := by
  rcases h with h | h <;> simp [storeValid, h]

/-- The unit fires over the free cab transmitter. -/
theorem coldStart_eq : s.coldStart straps = { s.coldItems straps with
    att := ⟨0x0200#16, .fired⟩
    cab := { PortState.cold with sending := some ⟨.attention, ownFrame 0 9 [0x02#8, 0x00#8]⟩ } } := by
  have causes : (0#16 ||| Cause.retentionLost.mask) = 0x0200#16 := by decide
  have frame : attentionFrame 0x0200#16 = ownFrame 0 9 [0x02#8, 0x00#8] := by decide
  unfold coldStart
  rw [setCause_armed _ rfl]
  show ((s.coldItems straps).setAtt ⟨0#16 ||| Cause.retentionLost.mask, .fired⟩).setCabPort
    (PortState.cold.offerControl ⟨.attention, attentionFrame (0#16 ||| Cause.retentionLost.mask)⟩) = _
  rw [causes, frame, PortState.offerControl_free rfl rfl rfl]
  rfl

theorem vget_coldLevels (n : Node) :
    vget (coldLevels straps) n = if n = straps ∧ 2 ≤ n.val then .site else .none := by
  unfold coldLevels
  split
  · next low =>
    rw [vget_replicate, if_neg]
    rintro ⟨rfl, high⟩
    omega
  · next high =>
    rw [vget_vset, vget_replicate]
    by_cases e : n = straps
    · subst e
      rw [if_pos rfl, if_pos ⟨rfl, by omega⟩]
    · rw [if_neg e, if_neg fun both => e both.1]

end State

/-- Settles O51: an invalid store is a cold start, which writes every item and fires the unit. -/
theorem coldStartTakesEveryColdValue : Obligations.ColdStartTakesEveryColdValue := by
  intro straps s invalid
  refine ⟨coldLevels straps, ?_, vget_coldLevels⟩
  have cold : s.startUp straps = s.coldStart straps := by simp [startUp, storeValid_false invalid]
  show Host.Outcome.next (s.startUp straps) = _
  rw [cold, coldStart_eq]
  rfl

end Sys2Proof.Machine
end

section
/-! PROOF. The end of a transaction (R53, R58 to R60, R65): IDLE without a record, or RESULT. -/

namespace Sys2Proof.Machine

namespace State

variable {s t : State} {h : HoseId} {p : Profile} {c : Context}

/-! ### The cab port's frames have no part in what is released or settled -/

theorem Released.setCabPort (r : Released s t h c) (q : PortState) : Released s (t.setCabPort q) h c := by
  obtain ⟨hoses, billing, comps, table, rest⟩ := r
  refine ⟨hoses, billing, comps, table, ?_⟩
  rw [rest]
  rfl

theorem ResultEntered.setCabPort (r : ResultEntered s t h p c) (q : PortState) :
    ResultEntered s (t.setCabPort q) h p c := by
  obtain ⟨hoses, comps, table, rest⟩ := r
  refine ⟨hoses, comps, table, ?_⟩
  rw [rest]
  rfl

/-- A released hose stands in IDLE without a context. -/
theorem Released.hose (r : Released s t h c) :
    t.hose h = { s.hose h with phase := .idle, ctx := none, mark := none, timers := .stopped } := by
  obtain ⟨hoses, -⟩ := r
  rw [State.hose, hoses, vget_vset_self]

/-! ### IDLE without a record (R53, R59, R60) -/

/-- The PROGRESS of a hose just released. -/
theorem entryProgress_released (r : Released s t h c) :
    t.entryProgress h = t.setCabPort (t.cab.offerOrdinary (progressFrame h .idle 0 none)) := by
  unfold entryProgress cabOrdinary Hose.progress
  rw [r.hose]

/-- A hose returned to IDLE by expiry or cancel: the transaction released, the refusal and the PROGRESS queued. -/
theorem cancel_released (hc : (s.hose h).ctx = some c) (why : Reason) (kind : Option RequestKind) :
    Released s (s.cancel h why kind) h c
      ∧ (s.cancel h why kind).cab = (s.cab.offerOrdinary (requestRefusedFrame (some (BitVec.ofNat 8 h.val)) why kind)).offerOrdinary
          (progressFrame h .idle 0 none) := by
  have dropped := dropTransaction_released (s := s) hc
  have told : Released s ((s.dropTransaction h).requestRefused (some (BitVec.ofNat 8 h.val)) why kind) h c :=
    dropped.setCabPort _
  unfold cancel
  rw [entryProgress_released told]
  refine ⟨told.setCabPort _, ?_⟩
  rw [requestRefused, cabOrdinary, dropTransaction_cab]
  rfl

/-! ### RESULT (R65) -/

/-- RESULT entry with its PROGRESS is the entry without it, then the PROGRESS. -/
theorem resultEntry_progress (hc : (s.hose h).ctx = some c) :
    s.resultEntry h true = (s.resultEntry h false).entryProgress h := by
  unfold resultEntry
  rw [hc]
  rfl

theorem resultEntry_cab : (s.resultEntry h false).cab = s.cab := by
  unfold resultEntry
  split
  · rfl
  · simp

/-- The PROGRESS of a hose just entered into RESULT. -/
theorem progress_entered (r : ResultEntered s t h p c) :
    (t.hose h).progress h = progressFrame h .result c.net c.amountSoFar := by
  obtain ⟨hoses, -⟩ := r
  rw [State.hose, hoses, vget_vset_self]
  rfl

/-- The end of CLOSING with something metered (R58, R65). -/
theorem resultEntry_metered (hp : (s.hose h).profile = some p) (hc : (s.hose h).ctx = some c) :
    ResultEntered s (s.resultEntry h true) h p c
      ∧ (s.resultEntry h true).cab = s.cab.offerOrdinary (progressFrame h .result c.net c.amountSoFar) := by
  have entered := resultEntry_entered (s := s) false hp hc
  rw [resultEntry_progress hc, entryProgress, cabOrdinary, progress_entered entered, resultEntry_cab]
  exact ⟨entered.setCabPort _, rfl⟩

/-- The end of CLOSING with nothing metered (R59). -/
theorem dropTransaction_unmetered (hc : (s.hose h).ctx = some c) :
    Released s ((s.dropTransaction h).entryProgress h) h c
      ∧ ((s.dropTransaction h).entryProgress h).cab = s.cab.offerOrdinary (progressFrame h .idle 0 none) := by
  have dropped := dropTransaction_released (s := s) hc
  rw [entryProgress_released dropped, dropTransaction_cab]
  exact ⟨dropped.setCabPort _, rfl⟩

/-- The end of CLOSING, by what was metered. -/
theorem endClosing_ended (hp : (s.hose h).profile = some p) (hc : (s.hose h).ctx = some c) :
    (c.gross = 0 ∧ c.net = 0 → Released s (s.endClosing h) h c
        ∧ (s.endClosing h).cab = s.cab.offerOrdinary (progressFrame h .idle 0 none))
      ∧ (¬ (c.gross = 0 ∧ c.net = 0) → ResultEntered s (s.endClosing h) h p c
        ∧ (s.endClosing h).cab = s.cab.offerOrdinary (progressFrame h .result c.net c.amountSoFar)) := by
  have ends : s.endClosing h = if c.gross = 0 ∧ c.net = 0 then (s.dropTransaction h).entryProgress h
      else s.resultEntry h true := by
    unfold endClosing
    rw [hc]
  rw [ends]
  refine ⟨fun nothing => ?_, fun metered => ?_⟩
  · rw [if_pos nothing]
    exact dropTransaction_unmetered hc
  · rw [if_neg metered]
    exact resultEntry_metered hp hc

/-- An expiry that is due. -/
theorem expiry_due {timer : Timers → Option Nat} {inPhase : Phase → Bool} {act : State → State}
    (on : s.power.main = true) (running : (timer (s.hose h).timers).isSome = true)
    (listed : inPhase (s.hose h).phase = true) : s.expiry h timer inPhase act = act s := by
  simp [expiry, on, running, listed]

/-- A nozzle code that the form check takes, read back. -/
theorem nozzleOf_code {b : Byte} {v : Nozzle} (e : b.toNat = v.code) : nozzleOf b = some v := by
  obtain rfl : b = BitVec.ofNat 8 v.code := by rw [← e, BitVec.ofNat_toNat, BitVec.setWidth_eq]
  cases v <;> rfl

/-- A hang or disconnection at a hose in CLOSING ends it (R59). -/
theorem nozzleEvent_closing {v : Nozzle} (phase : (s.hose h).phase = .closing) (down : v.isLifted = false) :
    s.nozzleEvent h v = (s.setHose h { s.hose h with nozzle := v }).endClosing h := by
  unfold nozzleEvent
  rw [phase]
  dsimp only
  rw [down]
  rfl

end State

open State

/-- Settles O33: AUTHORIZED ends by cancel, CLOSING by its end, each from its two triggers. -/
theorem transactionsEndInResultOrIdle : Obligations.TransactionsEndInResultOrIdle := by
  intro s h p c on hp hc refused ended
  refine ⟨fun phase => ⟨fun running => ?_, fun a ready => ?_⟩, fun phase => ⟨fun running => ?_, ?_⟩⟩
  · refine ⟨s.cancel h .authExpired none, ?_, cancel_released hc ..⟩
    exact congrArg Host.Outcome.next (expiry_due on running (by rw [phase]; rfl))
  · have hose : (BitVec.ofNat 8 h.val).toNat = h.val := by
      rw [BitVec.toNat_ofNat]
      exact Nat.mod_eq_of_lt (h.isLt.trans (by decide))
    have stop : (s.countGood .cab).stopRequest h = (s.countGood .cab).cancel h .operatorCancel (some .stop) := by
      unfold stopRequest
      rw [countGood_hose, phase]
    refine ⟨(s.countGood .cab).cancel h .operatorCancel (some .stop), ?_,
      cancel_released (s := s.countGood .cab) (by simpa using hc) ..⟩
    show Host.Outcome.next (s.takeHoseRequest a .stop (BitVec.ofNat 8 h.val) State.stopRequest) = _
    rw [takeHoseRequest_ready ready hose, stop]
  · refine ⟨s.endClosing h, ?_, endClosing_ended hp hc⟩
    exact congrArg Host.Outcome.next (expiry_due on running (by rw [phase]; rfl))
  · intro a value v ready code down
    have notLifted : v.isLifted = false := by rcases down with rfl | rfl <;> rfl
    have event : exec (.nozzle a value) s = .next ((s.countGood .field).nozzleEvent h v) := by
      show execNozzle a value s = _
      unfold execNozzle
      rw [nozzleOf_code code]
      exact congrArg Host.Outcome.next (takeField_head ready)
    rw [nozzleEvent_closing (s := s.countGood .field) (by simpa using phase) notLifted, countGood_hose] at event
    exact ⟨_, event, endClosing_ended (by simpa using hp) (by simpa using hc)⟩

end Sys2Proof.Machine
end

section
/-! PROOF. A warm start (R69, R136, R157, R179, R180): what it leaves of one hose, of the units a hose draws on, and of all six
hoses in turn. -/

namespace Sys2Proof.Machine

/-- An execution phase is an active one (R44). -/
theorem Phase.active_of_executing {p : Phase} (e : p.executing = true) : p.active = true := by
  cases p <;> revert e <;> decide

/-- An active phase holds a context (R44). -/
theorem Phase.holdsContext_of_active {p : Phase} (e : p.active = true) : p.holdsContext = true := by
  cases p <;> revert e <;> decide

namespace State

/-! ### What a warm start makes of a hose (the table of R69) -/

/-- A context cut short by the power loss, settled at RESULT entry (R65, R69). -/
def cutShort (s : State) (c : Context) : Context :=
  { c with
    endCause := some .powerLost, amount := c.amountSoFar, endTime := some s.resp.clock, calCounter := some s.calCounter
    flags := c.flags ||| flagIf (decide (c.kind = .delivery) && c.entry.any fun r => !s.holdsTag r) .entryGone
      ||| flagIf (!s.resp.clockSet) .clockUnset }

/-- Hose h as step 2 of a warm start leaves it, by its phase. -/
def warmed (s : State) (h : HoseId) : Hose :=
  let x := warmItems (s.hose h)
  let delayed := { Timers.stopped with postDelay := postDelayOf (s.hose h) }
  if (s.hose h).phase = .authorized then { x with phase := .idle, ctx := none }
  else if (s.hose h).phase.executing then { x with phase := .result, timers := delayed, ctx := (s.hose h).ctx.map s.cutShort }
  else if (s.hose h).phase = .result then { x with timers := delayed }
  else x

/-- Whether an active hose's context names an entry (R10). -/
def names (s : State) (h : HoseId) (i : EntryId) : Bool :=
  (s.hose h).phase.active && (s.hose h).ctx.any fun c => c.entry.any fun r => decide (r.index = i)

/-- The table with an entry written where it still holds the tag it is known by (R10). -/
def writeHeld (s : State) (ref : Option EntryRef) (f : Entry → Entry) : Table :=
  match ref with
  | some r => if s.holdsTag r then { s.table with entries := vset s.table.entries r.index (f (s.entry r.index)) } else s.table
  | none => s.table

/-- A write of an entry's remaining allowance, its period or its busy hose (R7, R10). -/
def KeptBy (f : Entry → Entry) : Prop :=
  ∀ e, f e = { e with remaining := (f e).remaining, period := (f e).period, busy := (f e).busy }

theorem keptBy_clearBusy (h : HoseId) : KeptBy (clearBusy h) := fun e => by
  unfold clearBusy
  split <;> rfl

theorem keptBy_settledEntry (s : State) (net : Nat) (h : HoseId) : KeptBy fun e => s.settledEntry e net h := fun e => by
  unfold settledEntry
  dsimp only
  split <;> rfl

/-! ### One hose's part in the units (R10, R90, R115) -/

/-- What step 2 of a warm start leaves at one hose: the hose by its phase, its slot and its commitment released, and of the
Machine Table only what release and settlement write, only at the entry the hose names. -/
structure WarmPart (s t : State) (h : HoseId) : Prop where
  hoses : t.hoses = vset s.hoses h (s.warmed h)
  billing : t.billing = { s.billing with
    reserved := s.billing.reserved - if (s.hose h).phase = .authorized then 1 else 0 }
  comp : ∀ c, t.comp c = { s.comp c with
    committedIssue := (s.comp c).committedIssue - s.hoseTerm .delivery c h
    committedReceive := (s.comp c).committedReceive - s.hoseTerm .receipt c h }
  table : t.table = { s.table with entries := t.table.entries }
  kept : ∀ i, t.entry i = { s.entry i with
    remaining := (t.entry i).remaining, period := (t.entry i).period, busy := (t.entry i).busy }
  unnamed : ∀ i, s.names h i = false → t.entry i = s.entry i
  own : ∀ c r, (s.hose h).phase.active = true → (s.hose h).ctx = some c → c.kind = .delivery → c.entry = some r →
    t.entry r.index = (if s.holdsTag r then
        if (s.hose h).phase = .authorized then clearBusy h (s.entry r.index)
          else s.settledEntry (s.entry r.index) c.net h
      else s.entry r.index)
  rest : t = { s with hoses := t.hoses, billing := t.billing, comps := t.comps, table := t.table }

variable {s t : State} {h : HoseId} {c : Context} {p : Profile}

theorem WarmPart.resp (part : WarmPart s t h) : t.resp = s.resp := by
  have same := congrArg State.resp part.rest
  exact same

theorem WarmPart.calCounter (part : WarmPart s t h) : t.calCounter = s.calCounter := by
  have same := congrArg State.calCounter part.rest
  exact same

/-- The entries of a table written by writeHeld. -/
theorem writeHeld_entries {ref : Option EntryRef} {f : Entry → Entry} (e : t.table = s.writeHeld ref f) :
    t.table = { s.table with entries := t.table.entries }
      ∧ ∀ i, t.entry i = if ref.any fun r => s.holdsTag r && decide (r.index = i) then f (s.entry i) else s.entry i := by
  unfold State.entry
  rw [e]
  cases ref with
  | none => exact ⟨rfl, fun _ => rfl⟩
  | some r =>
    cases held : s.holdsTag r with
    | false =>
      have same : s.writeHeld (some r) f = s.table := if_neg (by simp [held])
      simp [same, held]
    | true =>
      have wrote : s.writeHeld (some r) f = { s.table with
          entries := vset s.table.entries r.index (f (s.entry r.index)) } := if_pos held
      rw [wrote]
      refine ⟨rfl, fun i => ?_⟩
      rw [vget_vset]
      by_cases same : i = r.index
      · subst same
        simp [held, State.entry]
      · simp [same, Ne.symm same]

/-- A removed commitment, read compartment by compartment (R90). -/
theorem comp_uncommitted (active : (s.hose h).phase.active = true) (hc : (s.hose h).ctx = some c)
    (e : t.comps = vset s.comps c.comp ((s.comp c.comp).withCommit c.kind fun v => v - c.term)) (k : CompId) :
    t.comp k = { s.comp k with
      committedIssue := (s.comp k).committedIssue - s.hoseTerm .delivery k h
      committedReceive := (s.comp k).committedReceive - s.hoseTerm .receipt k h } := by
  have term : ∀ kind, s.hoseTerm kind k h = if c.comp = k ∧ c.kind = kind then c.term else 0 := fun kind => by
    simp [hoseTerm, hc, active]
  rw [term, term, State.comp, e, vget_vset]
  by_cases same : k = c.comp
  · subst same
    cases hk : c.kind <;> simp [Compartment.withCommit, State.comp]
  · simp [same, Ne.symm same, State.comp]

/-- Without an active transaction nothing is committed. -/
theorem comp_inactive (inactive : (s.hose h).phase.active = false) (e : t.comps = s.comps) (k : CompId) :
    t.comp k = { s.comp k with
      committedIssue := (s.comp k).committedIssue - s.hoseTerm .delivery k h
      committedReceive := (s.comp k).committedReceive - s.hoseTerm .receipt k h } := by
  have term : ∀ kind, s.hoseTerm kind k h = 0 := fun kind => by
    unfold hoseTerm
    split <;> simp [inactive]
  rw [term, term, State.comp, e]
  rfl

/-- An active hose's part, from the entry its end writes: all but the hose, the slot and the frame. -/
theorem WarmPart.of_active {ref : Option EntryRef} {f : Entry → Entry} (active : (s.hose h).phase.active = true)
    (hc : (s.hose h).ctx = some c) (kept : KeptBy f) (named : ref = none ∨ ref = c.entry)
    (own : c.kind = .delivery → ref = c.entry ∧ f = fun e =>
      if (s.hose h).phase = .authorized then clearBusy h e else s.settledEntry e c.net h)
    (hoses : t.hoses = vset s.hoses h (s.warmed h))
    (billing : t.billing = { s.billing with
      reserved := s.billing.reserved - if (s.hose h).phase = .authorized then 1 else 0 })
    (comps : t.comps = vset s.comps c.comp ((s.comp c.comp).withCommit c.kind fun v => v - c.term))
    (table : t.table = s.writeHeld ref f)
    (rest : t = { s with hoses := t.hoses, billing := t.billing, comps := t.comps, table := t.table }) :
    WarmPart s t h := by
  obtain ⟨frame, entries⟩ := writeHeld_entries table
  refine ⟨hoses, billing, comp_uncommitted active hc comps, frame, fun i => ?_, fun i unnamed => ?_, ?_, rest⟩
  · rw [entries]
    split
    · exact kept _
    · rfl
  · have other : ref.any (fun r => s.holdsTag r && decide (r.index = i)) = false := by
      rcases named with rfl | rfl
      · rfl
      · rw [names, active, hc, Bool.true_and, Option.any_some, Option.any_eq_false] at unnamed
        simpa [Option.any_eq_false] using fun r hr _ => of_decide_eq_false (unnamed r hr)
    rw [entries, other]
    rfl
  · intro c' r _ hc' delivery hr
    obtain rfl := Option.some.inj (hc.symm.trans hc')
    obtain ⟨rfl, rfl⟩ := own delivery
    rw [entries, hr]
    by_cases held : s.holdsTag r = true
    · simp [held]
    · simp [held]

/-- An inactive hose's part: the hose alone. -/
theorem WarmPart.of_inactive {x : Hose} (inactive : (s.hose h).phase.active = false) (e : s.warmed h = x) :
    WarmPart s (s.setHose h x) h where
  hoses := by rw [e]; rfl
  billing := by
    rw [if_neg fun authorized => by rw [authorized] at inactive; cases inactive]
    rfl
  comp := comp_inactive inactive rfl
  table := rfl
  kept _ := rfl
  unnamed _ _ := rfl
  own _ _ active := by rw [inactive] at active; cases active
  rest := rfl

/-! ### Step 2 at one hose -/

/-- A hose in a phase that holds a context holds one (R44, R47). -/
theorem ctx_of_holds (ok : (s.hose h).PhaseOk) (holds : (s.hose h).phase.holdsContext = true) :
    ∃ c, (s.hose h).ctx = some c := by
  obtain ⟨-, ctx, -⟩ := ok
  exact Option.isSome_iff_exists.mp (ctx.trans holds)

/-- A hose that is not OFF has a profile (R47). -/
theorem profile_of_on (ok : (s.hose h).PhaseOk) (on : (s.hose h).phase ≠ .off) : ∃ p, (s.hose h).profile = some p := by
  obtain ⟨profile, -⟩ := ok
  cases hp : (s.hose h).profile with
  | some p => exact ⟨p, rfl⟩
  | none => simp [hp, on] at profile

theorem warmHose_cab : (s.warmHose h).cab = s.cab := by
  unfold warmHose
  dsimp only
  repeat' split
  · exact dropTransaction_cab ..
  · exact resultEntry_cab
  · rfl
  · rfl

/-- AUTHORIZED: the transaction is dropped. -/
theorem warmHose_authorized (ok : (s.hose h).PhaseOk) (phase : (s.hose h).phase = .authorized) :
    WarmPart s (s.warmHose h) h := by
  obtain ⟨c, hc⟩ := ctx_of_holds ok (by rw [phase]; rfl)
  have drops : s.warmHose h = (s.modHose h warmItems).dropTransaction h := by
    unfold warmHose
    exact if_pos phase
  have ctx : ((s.modHose h warmItems).hose h).ctx = some c := by
    rw [modHose, setHose_hose_self]
    exact hc
  obtain ⟨hoses, billing, comps, table, rest⟩ := dropTransaction_released ctx
  rw [← drops] at hoses billing comps table rest
  rw [warmHose_cab] at rest
  refine .of_active (ref := c.entry) (f := clearBusy h) (by rw [phase]; rfl) hc (keptBy_clearBusy h) (.inr rfl)
    (fun _ => ⟨rfl, funext fun e => (if_pos phase).symm⟩) ?_ ?_ comps table rest
  · rw [hoses, modHose, setHose_hose_self, setHose_hoses, vset_vset, warmed, if_pos phase]
    rfl
  · rw [billing, if_pos phase]
    rfl

/-- An execution phase: RESULT with POWER_LOST. -/
theorem warmHose_executing (ok : (s.hose h).PhaseOk) (phase : (s.hose h).phase.executing = true) :
    WarmPart s (s.warmHose h) h := by
  have notAuthorized : (s.hose h).phase ≠ .authorized := fun e => by rw [e] at phase; cases phase
  have active := Phase.active_of_executing phase
  obtain ⟨c, hc⟩ := ctx_of_holds ok (Phase.holdsContext_of_active active)
  obtain ⟨p, hp⟩ := profile_of_on ok fun e => by rw [e] at phase; cases phase
  have enters : s.warmHose h = ((s.modHose h warmItems).modHose h powerLost).resultEntry h false := by
    unfold warmHose
    rw [if_neg notAuthorized, if_pos phase]
  have cut : ((s.modHose h warmItems).modHose h powerLost).hose h = powerLost (warmItems (s.hose h)) := by
    simp only [modHose, setHose_hose_self]
  obtain ⟨hoses, comps, table, rest⟩ := resultEntry_entered (p := p) (c := { c with endCause := some .powerLost }) false
    (by rw [cut]; exact hp) (by rw [cut]; simp [powerLost, warmItems, hc])
  rw [← enters] at hoses comps table rest
  rw [warmHose_cab] at rest
  have billing : (s.warmHose h).billing = s.billing := by
    have same := congrArg State.billing rest
    exact same
  refine .of_active (ref := match c.kind with | .delivery => c.entry | .receipt => none)
    (f := fun e => s.settledEntry e c.net h) active hc (keptBy_settledEntry s c.net h) ?_ ?_ ?_ ?_ comps table
    (rest.trans (by rw [billing]; rfl))
  · cases c.kind
    · exact .inr rfl
    · exact .inl rfl
  · intro delivery
    rw [delivery]
    exact ⟨rfl, funext fun e => (if_neg notAuthorized).symm⟩
  · rw [hoses, cut]
    cases hk : c.kind <;>
    · simp only [modHose, setHose_hoses, vset_vset, warmed, if_neg notAuthorized, if_pos phase, hc, Option.map_some,
        cutShort, amountSoFar_eq, postDelayOf, hp, hk]
      rfl
  · rw [billing, if_neg notAuthorized]
    rfl

/-- Every other phase: the hose alone. -/
theorem warmHose_inactive (inactive : (s.hose h).phase.active = false) : WarmPart s (s.warmHose h) h := by
  have notAuthorized : (s.hose h).phase ≠ .authorized := fun e => by rw [e] at inactive; cases inactive
  have notExecuting : ¬ (s.hose h).phase.executing = true := fun e => by
    rw [Phase.active_of_executing e] at inactive
    cases inactive
  have same : s.warmHose h = s.setHose h (s.warmed h) := by
    unfold warmHose warmed
    simp only [if_neg notAuthorized, if_neg notExecuting]
    split
    · simp only [modHose, setHose_hose_self, setHose_setHose]
      rfl
    · rfl
  rw [same]
  exact .of_inactive inactive rfl

/-- Step 2 of a warm start at a hose whose phase agrees with what it holds. -/
theorem warmHose_part (ok : (s.hose h).PhaseOk) : WarmPart s (s.warmHose h) h := by
  cases phase : (s.hose h).phase with
  | authorized => exact warmHose_authorized ok phase
  | slowStart | fullFlow | slowStop | held | closing => exact warmHose_executing ok (by rw [phase]; rfl)
  | off | idle | result => exact warmHose_inactive (by rw [phase]; rfl)

end State
end Sys2Proof.Machine
end

section
/-! PROOF. A warm start, whole (R69, R90, R105, R115, R136, R157, R180, R187): the hoses one after another, then their frames, then
the ATTENTION frame of RESTARTED. -/

namespace Sys2Proof.Machine

namespace State

variable {s t u : State} {h : HoseId} {done : List HoseId} {straps : Node}

/-- A fold over hoses that are each met once, from what one more hose adds. -/
theorem foldl_of_snoc {P : State → List HoseId → Prop} {f : State → HoseId → State}
    (snoc : ∀ u done h, h ∉ done → P u done → P (f u h) (done ++ [h])) (todo : List HoseId) :
    ∀ (done : List HoseId) (u : State), P u done → (done ++ todo).Nodup → P (todo.foldl f u) (done ++ todo) := by
  induction todo with
  | nil =>
    intro done u start _
    rw [List.append_nil]
    exact start
  | cons h todo ih =>
    intro done u start distinct
    have ahead : h ∉ done := fun before => (List.nodup_append.mp distinct).2.2 h before h List.mem_cons_self rfl
    rw [List.append_cons] at distinct
    rw [List.foldl_cons, List.append_cons]
    exact ih (done ++ [h]) _ (snoc u done h ahead start) distinct

/-! ### Step 2 over the hoses, in ascending number -/

/-- What step 2 of a warm start has left after the hoses in done. -/
structure WarmSoFar (s u : State) (done : List HoseId) : Prop where
  hose : ∀ k, u.hose k = if k ∈ done then s.warmed k else s.hose k
  billing : u.billing = { s.billing with
    reserved := s.billing.reserved - (done.filter fun k => decide ((s.hose k).phase = .authorized)).length }
  comp : ∀ c, u.comp c = { s.comp c with
    committedIssue := (s.comp c).committedIssue - (done.map (s.hoseTerm .delivery c)).sum
    committedReceive := (s.comp c).committedReceive - (done.map (s.hoseTerm .receipt c)).sum }
  table : u.table = { s.table with entries := u.table.entries }
  kept : ∀ i, u.entry i = { s.entry i with
    remaining := (u.entry i).remaining, period := (u.entry i).period, busy := (u.entry i).busy }
  unnamed : ∀ i, (∀ k ∈ done, s.names k i = false) → u.entry i = s.entry i
  own : ∀ h ∈ done, ∀ c r, (s.hose h).phase.active = true → (s.hose h).ctx = some c → c.kind = .delivery →
    c.entry = some r → (∀ k, k ≠ h → s.names k r.index = false) →
    u.entry r.index = (if s.holdsTag r then
        if (s.hose h).phase = .authorized then clearBusy h (s.entry r.index)
          else s.settledEntry (s.entry r.index) c.net h
      else s.entry r.index)
  clock : u.resp.clock = s.resp.clock
  clockSet : u.resp.clockSet = s.resp.clockSet
  calCounter : u.calCounter = s.calCounter

/-- Step 1 changes nothing that step 2 reads. -/
theorem WarmSoFar.start : WarmSoFar s (s.warmResp straps).warmLink [] where
  hose k := by simp
  billing := by simp
  comp c := by simp
  table := by simp
  kept i := by simp
  unnamed i _ := by simp
  own _ absent := by cases absent
  clock := by rw [warmLink_resp]; rfl
  clockSet := by rw [warmLink_resp]; rfl
  calCounter := by simp

section Ahead
variable (soFar : WarmSoFar s u done) (ahead : h ∉ done)
include soFar

/-- No entry changes its tag or its in-use mark on the way (R10). -/
theorem WarmSoFar.holdsTag : u.holdsTag = s.holdsTag := by
  funext r
  unfold State.holdsTag
  rw [soFar.kept]

/-- The settlement of an entry depends on the current period alone. -/
theorem WarmSoFar.settledEntry : u.settledEntry = s.settledEntry := by
  unfold State.settledEntry
  rw [soFar.table]

theorem WarmSoFar.cutShort : u.cutShort = s.cutShort := by
  funext c
  unfold State.cutShort
  rw [soFar.holdsTag, soFar.clock, soFar.clockSet, soFar.calCounter]

include ahead

/-- A hose ahead stands as it stood. -/
theorem WarmSoFar.hose_ahead : u.hose h = s.hose h := by rw [soFar.hose, if_neg ahead]

theorem WarmSoFar.warmed_ahead : u.warmed h = s.warmed h := by
  unfold State.warmed
  rw [soFar.hose_ahead ahead, soFar.cutShort]

theorem WarmSoFar.names_ahead : u.names h = s.names h := by
  unfold State.names
  rw [soFar.hose_ahead ahead]

theorem WarmSoFar.hoseTerm_ahead (k : TxKind) (c : CompId) : u.hoseTerm k c h = s.hoseTerm k c h := by
  unfold State.hoseTerm
  rw [soFar.hose_ahead ahead]

/-- One more hose. -/
theorem WarmSoFar.snoc (part : WarmPart u t h) : WarmSoFar s t (done ++ [h]) where
  hose k := by
    rw [State.hose, part.hoses, vget_vset, soFar.warmed_ahead ahead]
    by_cases same : k = h
    · simp [same]
    · have back : vget u.hoses k = u.hose k := rfl
      simp [same, back, soFar.hose]
  billing := by
    rw [part.billing, soFar.billing, soFar.hose_ahead ahead, List.filter_append, List.length_append]
    by_cases authorized : (s.hose h).phase = .authorized <;> simp [authorized, Nat.sub_sub]
  comp c := by
    rw [part.comp, soFar.comp, soFar.hoseTerm_ahead ahead, soFar.hoseTerm_ahead ahead]
    simp [Nat.sub_sub]
  table := by
    rw [part.table, soFar.table]
  kept i := by
    rw [part.kept, soFar.kept]
  unnamed i none := by
    rw [part.unnamed i, soFar.unnamed i fun k hk => none k (List.mem_append_left _ hk)]
    rw [soFar.names_ahead ahead]
    exact none h (by simp)
  own k hk c r active hc delivery hr only := by
    rcases List.mem_append.mp hk with before | last
    · have other : h ≠ k := fun e => ahead (e ▸ before)
      rw [part.unnamed _ (by rw [soFar.names_ahead ahead]; exact only h other)]
      exact soFar.own k before c r active hc delivery hr only
    · obtain rfl := List.mem_singleton.mp last
      have hose := soFar.hose_ahead ahead
      rw [part.own c r (by rw [hose]; exact active) (by rw [hose]; exact hc) delivery hr, hose, soFar.holdsTag,
        soFar.settledEntry, soFar.unnamed _ fun j hj => only j fun e => ahead (e ▸ hj)]
  clock := part.resp ▸ soFar.clock
  clockSet := part.resp ▸ soFar.clockSet
  calCounter := part.calCounter.trans soFar.calCounter

end Ahead

/-! ### Step 3 over the hoses: CLOSE and PROGRESS (R69, R187) -/

/-- The field port after a hose's CLOSE. -/
def offerClose (b : State) (q : PortState) (h : HoseId) : PortState :=
  match (b.hose h).profile with
  | some p => if (b.hose h).phase = .off then q else q.offerControl ⟨.valve h, valveFrame p.head .close⟩
  | none => q

/-- The cab port after a hose's PROGRESS. -/
def offerProgress (b : State) (q : PortState) (h : HoseId) : PortState :=
  if (b.hose h).phase = .off then q else q.offerOrdinary ((b.hose h).progress h)

/-- A hose after its CLOSE (R55). -/
def closed (b : State) (h : HoseId) : Hose :=
  if (b.hose h).phase = .off then b.hose h else { b.hose h with lastValve := some .close }

/-- What step 3 of a warm start has left after the hoses in done. -/
structure FramesSoFar (b u : State) (done : List HoseId) : Prop where
  hose : ∀ k, u.hose k = if k ∈ done then b.closed k else b.hose k
  field : u.field = done.foldl b.offerClose b.field
  cab : u.cab = done.foldl b.offerProgress b.cab

variable {b : State}

theorem FramesSoFar.nil : FramesSoFar b b [] where
  hose _ := rfl
  field := rfl
  cab := rfl

/-- One more hose's frames. -/
theorem FramesSoFar.snoc (soFar : FramesSoFar b u done) (ahead : h ∉ done) (ok : (b.hose h).phase ≠ .off →
    ∃ p, (b.hose h).profile = some p) : FramesSoFar b (u.warmFrames h) (done ++ [h]) := by
  have same : u.hose h = b.hose h := by rw [soFar.hose, if_neg ahead]
  by_cases off : (b.hose h).phase = .off
  · have nothing : u.warmFrames h = u := by
      unfold warmFrames
      rw [same, if_pos off]
    rw [nothing]
    refine ⟨fun k => ?_, ?_, ?_⟩
    · by_cases e : k = h
      · subst e
        simp [same, closed, off]
      · simp [soFar.hose, e]
    · rw [List.foldl_append, soFar.field, List.foldl_cons, List.foldl_nil, offerClose]
      cases (b.hose h).profile <;> simp [off]
    · simp [List.foldl_append, soFar.cab, offerProgress, off]
  · obtain ⟨p, hp⟩ := ok off
    have frames : u.warmFrames h = ((u.setHose h { b.hose h with lastValve := some .close }).setFieldPort
        (u.field.offerControl ⟨.valve h, valveFrame p.head .close⟩)).setCabPort
          (u.cab.offerOrdinary ((b.hose h).progress h)) := by
      unfold warmFrames entryProgress cabOrdinary
      rw [same, if_neg off, queueValve_profile .close (same ▸ hp), same, setFieldPort_hose, setHose_hose_self]
      rfl
    rw [frames]
    refine ⟨fun k => ?_, ?_, ?_⟩
    · show (u.setHose h { b.hose h with lastValve := some .close }).hose k = _
      rw [setHose_hose]
      by_cases e : k = h
      · subst e
        simp [closed, off]
      · simp [e, soFar.hose]
    · show u.field.offerControl _ = _
      rw [List.foldl_append, ← soFar.field, List.foldl_cons, List.foldl_nil, offerClose, hp]
      exact (if_neg off).symm
    · show u.cab.offerOrdinary _ = _
      rw [List.foldl_append, ← soFar.cab, List.foldl_cons, List.foldl_nil, offerProgress]
      exact (if_neg off).symm

/-- Step 3 over all six hoses. -/
theorem warmFrames_soFar (ok : ∀ h, (b.hose h).phase ≠ .off → ∃ p, (b.hose h).profile = some p) :
    FramesSoFar b ((ids 6).foldl (fun u h => u.warmFrames h) b) (ids 6) :=
  foldl_of_snoc (P := FramesSoFar b) (fun _ _ h ahead soFar => soFar.snoc ahead (ok h)) (ids 6) [] b .nil nodup_ids

/-! ### The whole of it -/

/-- Steps 1 and 2 of a warm start. -/
@[irreducible] def warmedUp (straps : Node) (s : State) : State :=
  (ids 6).foldl (fun u h => u.warmHose h) (s.warmResp straps).warmLink

/-- Steps 1 to 3 of a warm start. -/
@[irreducible] def warmTold (straps : Node) (s : State) : State := (ids 6).foldl (fun u h => u.warmFrames h) (s.warmedUp straps)

/-- The last step: RESTARTED fires a unit just reset. -/
theorem setCause_restarted (u : State) : (u.setAtt ⟨0#16, .armed⟩).setCause .restarted = { u with
    att := ⟨0x0100#16, .fired⟩, cab := u.cab.offerControl ⟨.attention, ownFrame 0 9 [0x01#8, 0x00#8]⟩ } := by
  have causes : (0#16 ||| Cause.restarted.mask) = 0x0100#16 := by decide
  have frame : attentionFrame 0x0100#16 = ownFrame 0 9 [0x01#8, 0x00#8] := by decide
  rw [setCause_armed _ rfl]
  show ((u.setAtt ⟨0#16, .armed⟩).setAtt ⟨0#16 ||| Cause.restarted.mask, .fired⟩).cabControl .attention
    (attentionFrame (0#16 ||| Cause.restarted.mask)) = _
  rw [causes, frame]
  rfl

theorem warmStart_eq : s.warmStart straps = { s.warmTold straps with
    att := ⟨0x0100#16, .fired⟩
    cab := (s.warmTold straps).cab.offerControl ⟨.attention, ownFrame 0 9 [0x01#8, 0x00#8]⟩ } := by
  have told : s.warmStart straps = ((s.warmTold straps).setAtt ⟨0#16, .armed⟩).setCause .restarted := by
    simp only [warmStart, warmTold, warmedUp]
  exact told.trans (setCause_restarted _)

/-- Steps 1 and 2 over hoses whose phases agree with what they hold. -/
theorem warmedUp_soFar (ok : s.HosesOk) : WarmSoFar s (s.warmedUp straps) (ids 6) := by
  rw [warmedUp]
  exact foldl_of_snoc (P := WarmSoFar s) (fun _ _ h ahead soFar =>
      soFar.snoc ahead (warmHose_part (by rw [soFar.hose_ahead ahead]; exact ok h)))
    (ids 6) [] _ .start nodup_ids

theorem warmedUp_hose (ok : s.HosesOk) (k : HoseId) : (s.warmedUp straps).hose k = s.warmed k := by
  rw [(warmedUp_soFar ok).hose, if_pos (mem_ids k)]

/-- A warm start keeps every profile (R69). -/
theorem warmed_profile (k : HoseId) : (s.warmed k).profile = (s.hose k).profile := by
  unfold warmed
  dsimp only
  repeat' split
  all_goals rfl

/-- A hose is OFF after a warm start exactly when it was before (R69). -/
theorem warmed_off (k : HoseId) : (s.warmed k).phase = .off ↔ (s.hose k).phase = .off := by
  unfold warmed
  dsimp only
  by_cases authorized : (s.hose k).phase = .authorized
  · simp [authorized]
  by_cases executing : (s.hose k).phase.executing = true
  · have on : (s.hose k).phase ≠ .off := fun off => by
      rw [off] at executing
      cases executing
    simp [authorized, executing, on]
  · rw [if_neg authorized, if_neg executing]
    split <;> exact Iff.rfl

/-- Steps 1 to 3 over hoses whose phases agree with what they hold. -/
theorem warmTold_soFar (ok : s.HosesOk) : FramesSoFar (s.warmedUp straps) (s.warmTold straps) (ids 6) := by
  rw [warmTold]
  refine warmFrames_soFar fun h on => ?_
  rw [warmedUp_hose ok] at on ⊢
  rw [warmed_profile]
  exact profile_of_on (ok h) fun off => on ((warmed_off h).mpr off)

/-- A hose after a warm start: by its phase, its valve closed (R55, R69). -/
theorem warmStart_hose (ok : s.HosesOk) (k : HoseId) : (s.warmStart straps).hose k =
    if (s.hose k).phase = .off then s.warmed k else { s.warmed k with lastValve := some .close } := by
  rw [warmStart_eq]
  show (s.warmTold straps).hose k = _
  rw [(warmTold_soFar ok).hose, if_pos (mem_ids k), closed, warmedUp_hose ok]
  simp only [warmed_off]

/-- The field port after a warm start: the CLOSE commands (R69, R157). -/
theorem warmStart_field (ok : s.HosesOk) : (s.warmStart straps).field =
    (ids 6).foldl (fun (q : PortState) h => match (s.hose h).profile with
      | some p => if decide ((s.hose h).phase = .off) then q else q.offerControl ⟨.valve h, valveFrame p.head .close⟩
      | none => q) PortState.cold := by
  have start : (s.warmedUp straps).field = PortState.cold := by
    rw [warmedUp, warmHoses_field]
    rfl
  have each : (s.warmedUp straps).offerClose = fun (q : PortState) h => match (s.hose h).profile with
      | some p => if decide ((s.hose h).phase = .off) then q else q.offerControl ⟨.valve h, valveFrame p.head .close⟩
      | none => q := by
    funext q h
    rw [offerClose, warmedUp_hose ok, warmed_profile]
    simp only [warmed_off, decide_eq_true_eq]
  rw [warmStart_eq]
  show (s.warmTold straps).field = _
  rw [(warmTold_soFar ok).field, start, each]

/-- The cab port after a warm start: the PROGRESS frames, then the ATTENTION frame (R69, R136). -/
theorem warmStart_cab (ok : s.HosesOk) : (s.warmStart straps).cab =
    ((ids 6).foldl (fun (q : PortState) h => if decide ((s.hose h).phase = .off) then q else
      q.offerOrdinary (match ((s.warmStart straps).hose h).ctx with
        | some c => progressFrame h ((s.warmStart straps).hose h).phase c.net c.amountSoFar
        | none => progressFrame h ((s.warmStart straps).hose h).phase 0 none)) PortState.cold).offerControl
      ⟨.attention, ownFrame 0 9 [0x01#8, 0x00#8]⟩ := by
  have start : (s.warmedUp straps).cab = PortState.cold := by
    rw [warmedUp, foldl_frame (fun u : State => u.cab) (fun u h => u.warmHose h) fun _ _ => warmHose_cab]
    rfl
  have each : (s.warmedUp straps).offerProgress = fun (q : PortState) h => if decide ((s.hose h).phase = .off) then q else
      q.offerOrdinary (match ((s.warmStart straps).hose h).ctx with
        | some c => progressFrame h ((s.warmStart straps).hose h).phase c.net c.amountSoFar
        | none => progressFrame h ((s.warmStart straps).hose h).phase 0 none) := by
    funext q h
    rw [offerProgress, warmedUp_hose ok, warmStart_hose ok]
    simp only [warmed_off, decide_eq_true_eq]
    split
    · rfl
    · unfold Hose.progress
      cases (s.warmed h).ctx <;> rfl
  rw [← each]
  conv => lhs; rw [warmStart_eq]
  show (s.warmTold straps).cab.offerControl _ = _
  rw [(warmTold_soFar ok).cab, start]

/-- Step 3 writes hoses and frames alone. -/
theorem warmTold_units : (s.warmTold straps).table = (s.warmedUp straps).table
    ∧ (s.warmTold straps).comps = (s.warmedUp straps).comps
    ∧ (s.warmTold straps).billing = (s.warmedUp straps).billing
    ∧ (s.warmTold straps).screen = (s.warmedUp straps).screen
    ∧ (s.warmTold straps).resp = (s.warmedUp straps).resp
    ∧ (s.warmTold straps).power = (s.warmedUp straps).power := by
  rw [warmTold, warmAllFrames_table, warmAllFrames_comps, warmAllFrames_billing, warmAllFrames_screen, warmAllFrames_resp,
    warmAllFrames_power]
  exact ⟨rfl, rfl, rfl, rfl, rfl, rfl⟩

/-- Steps 1 and 2 leave of screen, responder and supplies what step 1 makes of them. -/
theorem warmedUp_units : (s.warmedUp straps).screen = { s.screen with misdirected := 0, stray := 0 }
    ∧ (s.warmedUp straps).resp = { s.resp with inFlight := none, straps := straps }
    ∧ (s.warmedUp straps).power = { s.power with main := true, pins := straps } := by
  rw [warmedUp, warmHoses_screen, warmHoses_resp, warmHoses_power]
  exact ⟨rfl, rfl, rfl⟩

theorem warmStart_units : (s.warmStart straps).table = (s.warmedUp straps).table
    ∧ (s.warmStart straps).comps = (s.warmedUp straps).comps
    ∧ (s.warmStart straps).billing = (s.warmedUp straps).billing
    ∧ (s.warmStart straps).att = ⟨0x0100#16, .fired⟩
    ∧ (s.warmStart straps).screen = { s.screen with misdirected := 0, stray := 0 }
    ∧ (s.warmStart straps).resp = { s.resp with inFlight := none, straps := straps }
    ∧ (s.warmStart straps).power = { s.power with main := true, pins := straps } := by
  obtain ⟨table, comps, billing, screen, resp, power⟩ := warmTold_units (s := s) (straps := straps)
  obtain ⟨screen', resp', power'⟩ := warmedUp_units (s := s) (straps := straps)
  rw [warmStart_eq]
  exact ⟨table, comps, billing, rfl, screen.trans screen', resp.trans resp', power.trans power'⟩

/-- Every hose after a warm start, by its phase (R69). -/
theorem warmStart_phases (ok : s.HosesOk) (h : HoseId) :
    let x := { s.hose h with
      nozzle := .hung, pulse := none, mark := none, timers := .stopped, resG := 0, resN := 0
      lastValve := if decide ((s.hose h).phase = .off) then none else some .close }
    let delayed := { Timers.stopped with
      postDelay := (s.hose h).profile.bind fun p => if p.postDelay = 0 then none else some p.postDelay }
    ((s.hose h).phase = .off ∨ (s.hose h).phase = .idle → (s.warmStart straps).hose h = x)
      ∧ ((s.hose h).phase = .authorized → (s.warmStart straps).hose h = { x with phase := .idle, ctx := none })
      ∧ ((s.hose h).phase = .result → (s.warmStart straps).hose h = { x with timers := delayed })
      ∧ ((s.hose h).phase.executing = true → ∃ c, (s.hose h).ctx = some c
          ∧ (s.warmStart straps).hose h = { x with phase := .result, timers := delayed, ctx := some (s.cutShort c) }) := by
  intro x delayed
  have delay : postDelayOf (s.hose h) = delayed.postDelay := by
    show postDelayOf (s.hose h) = (s.hose h).profile.bind _
    unfold postDelayOf
    cases (s.hose h).profile <;> rfl
  rw [warmStart_hose ok]
  refine ⟨?_, fun authorized => ?_, fun result => ?_, fun executing => ?_⟩
  · rintro (off | idle)
    · simp [warmed, off, x, warmItems, Phase.executing, Phase.flowing]
    · simp [warmed, idle, x, warmItems, Phase.executing, Phase.flowing]
  · simp [warmed, authorized, x, warmItems]
  · simp [warmed, result, x, warmItems, delay, delayed, Phase.executing, Phase.flowing]
  · obtain ⟨c, hc⟩ := ctx_of_holds (ok h) (Phase.holdsContext_of_active (Phase.active_of_executing executing))
    have notAuthorized : (s.hose h).phase ≠ .authorized := fun e => by rw [e] at executing; cases executing
    have on : (s.hose h).phase ≠ .off := fun e => by rw [e] at executing; cases executing
    refine ⟨c, hc, ?_⟩
    simp [warmed, executing, notAuthorized, on, hc, x, warmItems, delay, delayed]

/-- What no step of a warm start touches. -/
theorem warmStart_frame : s.warmStart straps = { s with
    table := (s.warmStart straps).table, hoses := (s.warmStart straps).hoses, comps := (s.warmStart straps).comps
    billing := (s.warmStart straps).billing, att := (s.warmStart straps).att, field := (s.warmStart straps).field
    cab := (s.warmStart straps).cab, screen := (s.warmStart straps).screen, resp := (s.warmStart straps).resp
    power := (s.warmStart straps).power } := by
  have siteStop := warmStart_siteStop (s := s) straps
  have betas := warmStart_betas (s := s) straps
  have calCounter := warmStart_calCounter (s := s) straps
  have pending := warmStart_pending (s := s) straps
  have draws := warmStart_draws (s := s) straps
  rw [← siteStop, ← betas, ← calCounter, ← pending, ← draws]

end State

/-- Settles O52: hose by hose a warm start leaves what the phase says, and writes of the units only that hose's part. -/
theorem warmStartActsByPhase : Obligations.WarmStartActsByPhase := by
  intro straps s marker crc ok names off
  have valid : s.storeValid = true := by simp [State.storeValid, marker, crc]
  have warm : s.startUp straps = s.warmStart straps := if_pos valid
  have soFar := State.warmedUp_soFar (straps := straps) ok
  obtain ⟨table, comps, billing, att, screen, resp, power⟩ := State.warmStart_units (s := s) (straps := straps)
  have entry : ∀ i, (s.warmStart straps).entry i = (s.warmedUp straps).entry i := fun i => by rw [State.entry, table]; rfl
  have comp : ∀ c, (s.warmStart straps).comp c = (s.warmedUp straps).comp c := fun c => by rw [State.comp, comps]; rfl
  have frame := State.warmStart_frame (s := s) (straps := straps)
  have phases := State.warmStart_phases (straps := straps) ok
  have field := State.warmStart_field (straps := straps) ok
  have cab := State.warmStart_cab (straps := straps) ok
  refine ⟨s.warmStart straps, congrArg Host.Outcome.next warm, ?_⟩
  generalize s.warmStart straps = t at *
  generalize s.warmedUp straps = u at *
  refine ⟨frame, resp, power, screen, att, billing.trans soFar.billing, fun c => (comp c).trans (soFar.comp c), ?_,
    fun i => ?_, fun i unnamed => ?_, fun h c r active hc delivery hr only => ?_, phases, field, cab⟩
  · rw [table]
    exact soFar.table
  · rw [entry]
    exact soFar.kept i
  · rw [entry]
    exact soFar.unnamed i fun k _ => unnamed k
  · rw [entry]
    exact soFar.own h (mem_ids h) c r active hc delivery hr only

end Sys2Proof.Machine
end

section
/-! PROOF. Tag reads (chapter 2): the tests, the notices, and a read's steps 1 to 7 (R23 to R26), with the reads they refuse. -/

namespace Sys2Proof.Machine

/-! ### Readings and tests (R21, R27 to R30, R34) -/

/-- A read's hour reading: one above 999,999 is no reading (R21). -/
def hourReading (hours : Word) : Option Nat := if hours.toNat ≤ 999999 then some hours.toNat else none

theorem testA_wrongGrade {l : Loaded} {grade : Grade} {mask : Half} (h : l.grades.getLsbD grade.val = false) :
    testA l grade mask = .wrongGrade := by simp only [testA, h, Bool.not_false, if_true]

theorem testA_wrongClass {l : Loaded} {grade : Grade} {mask : Half} (h : l.grades.getLsbD grade.val = true)
    (k : mask.getLsbD l.cls.val = false) : testA l grade mask = .wrongClass := by
  simp only [testA, h, k, Bool.not_true, Bool.not_false, Bool.false_eq_true, if_true, if_false]

theorem testA_pass {l : Loaded} {grade : Grade} {mask : Half} (h : l.grades.getLsbD grade.val = true)
    (k : mask.getLsbD l.cls.val = true) : testA l grade mask = .pass := by
  simp only [testA, h, k, Bool.not_true, Bool.false_eq_true, if_false]

/-- Test B passes exactly where no checked reading lies outside its window. -/
theorem testB_iff {e : Entry} {jump : Nat} {r : Option Nat} :
    testB e jump r = true ↔ ∀ x last, e.loaded.hourCheck = true → r = some x → e.lastHours = some last →
      last ≤ x ∧ x ≤ last + jump := by
  unfold testB
  cases e.loaded.hourCheck <;> cases r <;> cases e.lastHours <;> simp

/-- An operation at an ACTIVE entry bars it exactly where the count meets a threshold that is not 0. -/
theorem Entry.strike_active {e : Entry} (op : StrikeOp) (threshold : Nat) (active : e.barred = false) :
    e.strike op threshold = { e with
      strikes := op.apply e.strikes, barred := decide (threshold ≠ 0 ∧ threshold ≤ op.apply e.strikes) } := by
  cases threshold <;> simp [Entry.strike, active]

/-- The effective preset as one minimum: an absent allowance sets no limit. -/
theorem effectivePreset_eq (most : Nat) (allowance : Option Nat) (stock : Nat) :
    effectivePreset most allowance stock = min most (min stock (allowance.getD stock)) := by
  cases allowance <;> simp [effectivePreset, Nat.min_assoc, Nat.min_comm stock]

namespace State

variable {s : State} {a : Addr} {h : HoseId} {p : Profile} {st : Settings} {tag : TagId} {i : EntryId}
  {pred : Option EntryId} {r : Option Nat} {why : Reason} {hours : Word} {quality : Byte}

/-! ### The notices (R37) -/

/-- AUTH_REFUSED byte by byte. -/
theorem authRefused_eq (tag : Option TagId) (machine strikes : Option Nat) :
    s.authRefused h why tag machine strikes = s.noticeRefused h why (tag.getD 0) machine strikes := rfl

/-- AUTH_REFUSED for a found entry carries its number and its count. -/
theorem refuseFound_eq : s.refuseFound h why tag i
    = s.noticeRefused h why tag (some (s.entry i).loaded.number) (some (s.entry i).strikes) := rfl

/-! ### Steps 1 to 4 (R23 to R25) -/

/-- A TAG_READ that passes its form check at its hose's head. -/
theorem exec_tagRead (ready : s.HeadReady a h) (q : quality.toNat ≤ 3) :
    exec (.tagRead a tag hours quality) s = .next ((s.countGood .field).tagReadEvent h tag hours quality) := by
  rw [← takeField_head (act := fun h t => t.tagReadEvent h tag hours quality) ready, ← decide_eq_true q]
  rfl

theorem tagReadEvent_evaluated (q : quality ≠ 0#8) :
    s.tagReadEvent h tag hours quality = s.evaluateRead h tag (hourReading hours) := if_neg q

/-- A hose that is not IDLE, or not ISSUE, ignores the read. -/
theorem evaluateRead_ignored (hp : (s.hose h).profile = some p) (not : (s.hose h).phase ≠ .idle ∨ p.mode ≠ .issue) :
    s.evaluateRead h tag r = s := by
  simp only [evaluateRead, hp]
  exact if_pos not

/-- Step 3 fails for a hose without a calibration or with an unconfigured compartment. -/
theorem calibrated_none (not : (s.hose h).cal = none ∨ (s.comp p.comp).settings = none) : s.calibrated h p = none := by
  rcases not with e | e <;> simp [calibrated, e]

theorem calibrated_some (cal : (s.hose h).cal.isSome = true) (settings : (s.comp p.comp).settings = some st) :
    s.calibrated h p = some st := by rw [calibrated, if_pos cal, settings]

/-- What a read finds that passes step 2: an IDLE hose in ISSUE mode on profile p. -/
structure IdleIssue (s : State) (h : HoseId) (p : Profile) : Prop where
  profile : (s.hose h).profile = some p
  idle : (s.hose h).phase = .idle
  issue : p.mode = .issue

namespace IdleIssue

theorem passes (k : IdleIssue s h p) : ¬ ((s.hose h).phase ≠ .idle ∨ p.mode ≠ .issue) := by simp [k.idle, k.issue]

theorem uncalibrated (k : IdleIssue s h p) (not : (s.hose h).cal = none ∨ (s.comp p.comp).settings = none) :
    s.evaluateRead h tag r = s.noticeRefused h .uncalibrated tag none none := by
  simp only [evaluateRead, k.profile, if_neg k.passes, calibrated_none not, authRefused_eq, Option.getD_some]

theorem stopped (k : IdleIssue s h p) (cal : s.calibrated h p = some st) (stop : s.siteStop = true) :
    s.evaluateRead h tag r = s.noticeRefused h .siteStopped tag none none := by
  simp only [evaluateRead, k.profile, if_neg k.passes, cal, stop, if_true, authRefused_eq, Option.getD_some]

theorem lookedUp (k : IdleIssue s h p) (cal : s.calibrated h p = some st) (stop : s.siteStop = false) :
    s.evaluateRead h tag r = s.lookupTag h p st tag r := by
  simp only [evaluateRead, k.profile, if_neg k.passes, cal, stop, Bool.false_eq_true, if_false]

end IdleIssue

/-! ### Steps 5 to 7 (R21, R26) -/

theorem lookupTag_missing (w : (s.table.walk (bucketOf tag) (some tag)).1 = .missing) :
    s.lookupTag h p st tag r = s.noticeRefused h .unknownTag tag none none := by
  simp only [lookupTag, walkTag_missing w, authRefused_eq, Option.getD_some]

theorem lookupTag_fault (w : (s.table.walk (bucketOf tag) (some tag)).1 = .fault pred) :
    s.lookupTag h p st tag r = (s.afterCut tag pred).noticeRefused h .tableFault tag none none := by
  simp only [lookupTag, walkTag_fault w, authRefused_eq, Option.getD_some]

/-- A walk for the zero tag that meets no fault ends in UNKNOWN_TAG wherever it ends. -/
theorem lookupTag_zero (zero : tag = 0#48) (w : ∀ pred, (s.table.walk (bucketOf tag) (some tag)).1 ≠ .fault pred) :
    s.lookupTag h p st tag r = s.noticeRefused h .unknownTag tag none none := by
  cases e : (s.table.walk (bucketOf tag) (some tag)).1 with
  | fault pred => exact absurd e (w pred)
  | missing => exact lookupTag_missing e
  | found i pred => simp only [lookupTag, walkTag_found e, if_pos zero, authRefused_eq, Option.getD_some]

/-- A read whose tag, not zero, is found. -/
structure Finds (s : State) (tag : TagId) (i : EntryId) : Prop where
  nonzero : tag ≠ 0#48
  walk : ∃ pred, (s.table.walk (bucketOf tag) (some tag)).1 = .found i pred

namespace Finds

theorem lookupTag (f : Finds s tag i) : s.lookupTag h p st tag r =
    if (s.entry i).barred then s.refuseFound h .barred tag i
    else if (s.entry i).busy.isSome then s.refuseFound h .busyElsewhere tag i
    else s.testsAndStrikes h p st i tag r := by
  obtain ⟨pred, w⟩ := f.walk
  simp only [State.lookupTag, walkTag_found w, if_neg f.nonzero]

theorem barred (f : Finds s tag i) (b : (s.entry i).barred = true) :
    s.lookupTag h p st tag r = s.refuseFound h .barred tag i := by rw [f.lookupTag, if_pos b]

theorem busy (f : Finds s tag i) (b : (s.entry i).barred = false) (k : (s.entry i).busy ≠ none) :
    s.lookupTag h p st tag r = s.refuseFound h .busyElsewhere tag i := by
  simp only [f.lookupTag, b, Option.isSome_iff_ne_none.mpr k, Bool.false_eq_true, if_false, if_true]

theorem tested (f : Finds s tag i) (b : (s.entry i).barred = false) (k : (s.entry i).busy = none) :
    s.lookupTag h p st tag r = s.testsAndStrikes h p st i tag r := by
  simp only [f.lookupTag, b, k, Option.isSome_none, Bool.false_eq_true, if_false]

end Finds

end State

open State

/-- Settles O20: step by step, each refusal by the lemma of its step. -/
theorem tagReadIsRefusedBeforeItsTests : Obligations.TagReadIsRefusedBeforeItsTests := by
  intro a tag hours quality s h p ready form hp g read
  have taken : read = .next (g.tagReadEvent h tag hours quality) := exec_tagRead ready form
  have evaluated (q : quality ≠ 0#8) : read = .next (g.evaluateRead h tag (hourReading hours)) := by
    rw [taken, tagReadEvent_evaluated q]
  constructor
  · intro ignored
    by_cases q : quality = 0#8
    · rw [taken, q]
      rfl
    · rw [evaluated q, evaluateRead_ignored (s := g) hp (ignored.resolve_left q)]
  · intro q idle issue
    have k : IdleIssue g h p := ⟨hp, idle, issue⟩
    rw [evaluated q]
    refine ⟨fun not => congrArg _ (k.uncalibrated not), fun cal settings => ?_⟩
    obtain ⟨st, settings⟩ := Option.ne_none_iff_exists'.mp settings
    have cal : g.calibrated h p = some st := calibrated_some (s := g) (Option.isSome_iff_ne_none.mpr cal) settings
    refine ⟨fun stop => congrArg _ (k.stopped cal stop), fun stop => ?_⟩
    rw [k.lookedUp cal stop]
    refine ⟨fun w => congrArg _ (lookupTag_missing w), fun zero w => congrArg _ (lookupTag_zero zero w),
      fun pred w => congrArg _ (lookupTag_fault w), fun i pred nonzero w => ?_⟩
    have f : Finds g tag i := ⟨nonzero, pred, w⟩
    exact ⟨fun b => congrArg _ (f.barred b), fun b holder => congrArg _ (f.busy b holder)⟩

end Sys2Proof.Machine
end

section
/-! PROOF. The tests and the strike operations of a read (R27 to R30). -/

namespace Sys2Proof.Machine

namespace State

variable {s : State} {a : Addr} {h : HoseId} {p : Profile} {st : Settings} {tag : TagId} {i : EntryId}
  {r : Option Nat} {why : Reason} {hours : Word} {quality : Byte}

/-! ### A read that reaches its tests (R23 to R26) -/

/-- A read that passes steps 1 to 7: a calibrated ISSUE hose of a configured compartment, IDLE under no site stop, and the entry
of its tag found ACTIVE and not busy. -/
structure ReachesTests (s : State) (a : Addr) (tag : TagId) (quality : Byte) (h : HoseId) (p : Profile) (st : Settings)
    (i : EntryId) : Prop where
  ready : s.HeadReady a h
  read : 1 ≤ quality.toNat
  form : quality.toNat ≤ 3
  hose : IdleIssue s h p
  cal : (s.hose h).cal.isSome = true
  settings : (s.comp p.comp).settings = some st
  running : s.siteStop = false
  found : Finds s tag i
  active : (s.entry i).barred = false
  free : (s.entry i).busy = none

/-- Such a read goes to the tests, over the state with its frame counted. -/
theorem ReachesTests.exec (k : ReachesTests s a tag quality h p st i) : exec (.tagRead a tag hours quality) s =
    .next ((s.countGood .field).testsAndStrikes h p st i tag (hourReading hours)) := by
  have good : quality ≠ 0#8 := by
    rintro rfl
    exact absurd k.read (by decide)
  have hose : IdleIssue (s.countGood .field) h p := ⟨k.hose.profile, k.hose.idle, k.hose.issue⟩
  have found : Finds (s.countGood .field) tag i := ⟨k.found.nonzero, k.found.walk⟩
  rw [exec_tagRead k.ready k.form, tagReadEvent_evaluated good, hose.lookedUp (calibrated_some k.cal k.settings) k.running,
    found.tested k.active k.free]

/-! ### Strike operations (R29) -/

theorem applyStrike_entry (op : StrikeOp) :
    (s.applyStrike op i).entry i = (s.entry i).strike op s.table.policy.threshold := by
  unfold applyStrike
  dsimp only
  split <;> simp

/-- An operation at an ACTIVE entry: the count written, and with the bar its cause. -/
theorem applyStrike_active (op : StrikeOp) (active : (s.entry i).barred = false) :
    s.applyStrike op i =
      (let n := op.apply (s.entry i).strikes
       let bars := decide (s.table.policy.threshold ≠ 0 ∧ s.table.policy.threshold ≤ n)
       let u := s.setEntry i { s.entry i with strikes := n, barred := bars }
       if bars then u.setCause .machineBarred else u) := by
  simp only [applyStrike, Entry.strike_active op _ active, active, Bool.not_false, Bool.and_true]

theorem applyStrike_bars {op : StrikeOp} (active : (s.entry i).barred = false)
    (bars : s.table.policy.threshold ≠ 0 ∧ s.table.policy.threshold ≤ op.apply (s.entry i).strikes) :
    s.applyStrike op i =
      (s.setEntry i { s.entry i with strikes := op.apply (s.entry i).strikes, barred := true }).setCause .machineBarred := by
  simp only [applyStrike_active op active, decide_eq_true bars, if_true]

theorem applyStrike_spares {op : StrikeOp} (active : (s.entry i).barred = false)
    (spares : ¬ (s.table.policy.threshold ≠ 0 ∧ s.table.policy.threshold ≤ op.apply (s.entry i).strikes)) :
    s.applyStrike op i = s.setEntry i { s.entry i with strikes := op.apply (s.entry i).strikes } := by
  simp only [applyStrike_active op active, decide_eq_false spares, Bool.false_eq_true, if_false]
  rw [← active]

/-- A refusal after an operation carries the count as the operation left it. -/
theorem refuseFound_applyStrike (op : StrikeOp) : (s.applyStrike op i).refuseFound h why tag i =
    (s.applyStrike op i).noticeRefused h why tag (some (s.entry i).loaded.number) (some (op.apply (s.entry i).strikes)) := by
  rw [refuseFound_eq, applyStrike_entry]
  rfl

/-! ### Steps 8 to 10 (R27 to R30) -/

/-- Test A fails on the grade, whatever the class. -/
theorem testsAndStrikes_wrongGrade (grade : (s.entry i).loaded.grades.getLsbD st.grade.val = false) :
    s.testsAndStrikes h p st i tag r = (s.applyStrike s.table.policy.aFail i).refuseFound h .wrongGrade tag i := by
  simp only [testsAndStrikes, testA_wrongGrade grade]

theorem testsAndStrikes_wrongClass (grade : (s.entry i).loaded.grades.getLsbD st.grade.val = true)
    (cls : p.classMask.getLsbD (s.entry i).loaded.cls.val = false) :
    s.testsAndStrikes h p st i tag r = (s.applyStrike s.table.policy.aFail i).refuseFound h .wrongClass tag i := by
  simp only [testsAndStrikes, testA_wrongClass grade cls]

theorem testsAndStrikes_hoursCheck (grade : (s.entry i).loaded.grades.getLsbD st.grade.val = true)
    (cls : p.classMask.getLsbD (s.entry i).loaded.cls.val = true)
    (outside : testB (s.entry i) s.table.policy.maxJump r = false) :
    s.testsAndStrikes h p st i tag r = (s.applyStrike s.table.policy.bFail i).refuseFound h .hoursCheck tag i := by
  simp only [testsAndStrikes, testA_pass grade cls, outside, Bool.not_false, if_true]

/-- A read that passes both tests of entry i, with hour reading r. -/
structure PassesTests (s : State) (p : Profile) (st : Settings) (i : EntryId) (r : Option Nat) : Prop where
  grade : (s.entry i).loaded.grades.getLsbD st.grade.val = true
  cls : p.classMask.getLsbD (s.entry i).loaded.cls.val = true
  window : ∀ x last, (s.entry i).loaded.hourCheck = true → r = some x → (s.entry i).lastHours = some last →
    last ≤ x ∧ x ≤ last + s.table.policy.maxJump

namespace PassesTests

/-- From step 10 on: the pass operation first. -/
theorem testsAndStrikes (k : PassesTests s p st i r) : s.testsAndStrikes h p st i tag r =
    (let t := s.applyStrike s.table.policy.pass i
     if (t.entry i).barred then t.refuseFound h .barred tag i
     else (t.setEntry i ((t.entry i).passed t.table.rollCall r)).spaceAndPreset h p st i tag r) := by
  simp only [State.testsAndStrikes, testA_pass k.grade k.cls, testB_iff.mpr k.window, Bool.not_true, Bool.false_eq_true,
    if_false]

end PassesTests

end State

open State

/-- Settles O21: the test that fails, then its operation at the ACTIVE entry. -/
theorem failedTestStrikesTheMachine : Obligations.FailedTestStrikesTheMachine := by
  intro a tag hours quality s h p st i pred ready least most hp idle issue cal settings running nonzero walk active free
    e threshold gradeOk classOk after
  have k : ReachesTests s a tag quality h p st i :=
    ⟨ready, least, most, ⟨hp, idle, issue⟩, cal, settings, running, ⟨nonzero, pred, walk⟩, active, free⟩
  have refused (op : StrikeOp) (why : Reason) :
      ((s.countGood .field).applyStrike op i).refuseFound h why tag i = after op why := by
    rw [refuseFound_applyStrike, applyStrike_active (s := s.countGood .field) op active]
    rfl
  refine ⟨fun grade => ?_, fun grade cls => ?_, fun grade cls check inRange last known outside => ?_⟩
  · rw [k.exec, testsAndStrikes_wrongGrade (s := s.countGood .field) grade]
    exact congrArg _ (refused ..)
  · rw [k.exec, testsAndStrikes_wrongClass (s := s.countGood .field) grade cls]
    exact congrArg _ (refused ..)
  · have fails : testB e s.table.policy.maxJump (hourReading hours) = false := by
      rw [Bool.eq_false_iff, ne_eq, testB_iff]
      intro window
      have := window hours.toNat last check (if_pos inRange) known
      omega
    rw [k.exec, testsAndStrikes_hoursCheck (s := s.countGood .field) grade cls fails]
    exact congrArg _ (refused ..)

end Sys2Proof.Machine
end

section
/-! PROOF. Reads that pass both tests: the pass operation, the log's space, the effective preset and the acceptance (R30 to
R36). -/

namespace Sys2Proof.Machine

/-! ### Refills, the log's space and limiting flags (R7, R34, R114) -/

/-- A refilled entry field by field (R7). -/
theorem Entry.refilled_eq (e : Entry) (period : Word) : e.refilled period =
    { e with remaining := if e.period = period then e.remaining else e.loaded.allowance, period := period } := by
  unfold Entry.refilled
  split
  · next same => rw [← same]
  · rfl

/-- The log is full on either ground of R114. -/
theorem Billing.full_iff (b : Billing) : b.full = true ↔ 1024 ≤ b.level ∨ 4294967295 ≤ b.nextSeq + b.reserved := by
  simp [Billing.full]

theorem Billing.full_eq_false_iff (b : Billing) :
    b.full = false ↔ ¬ (1024 ≤ b.level ∨ 4294967295 ≤ b.nextSeq + b.reserved) := by
  rw [← b.full_iff, Bool.not_eq_true]

theorem Billing.full_eq_false {b : Billing} (slots : b.level < 1024) (seqs : b.nextSeq + b.reserved < 4294967295) :
    b.full = false := b.full_eq_false_iff.mpr (by omega)

/-- The limiting flags: each of a term below the hose maximum that is E. -/
theorem limitFlags_eq (most : Nat) (allowance : Option Nat) (stock : Nat) :
    limitFlags most allowance stock =
      flagIf (allowance.any fun v => decide (v < most ∧ v = effectivePreset most allowance stock)) .allowanceLimited
        ||| flagIf (decide (stock < most ∧ stock = effectivePreset most allowance stock)) .stockLimited := by
  have beq_decide (x y : Nat) : (x == y) = decide (x = y) := rfl
  cases allowance <;> simp [limitFlags, Bool.decide_and, beq_decide]

/-! ### Flag words (10.6) -/

@[simp] theorem hasFlag_or (v w : Half) (f : Flag) : hasFlag (v ||| w) f = (hasFlag v f || hasFlag w f) :=
  BitVec.getLsbD_or

/-- A word of one flag holds that flag and no other. -/
@[simp] theorem hasFlag_mask (f g : Flag) : hasFlag f.mask g = decide (f = g) := by
  cases f <;> cases g <;> rfl

@[simp] theorem hasFlag_flagIf (c : Bool) (f g : Flag) : hasFlag (flagIf c f) g = (c && decide (f = g)) := by
  cases c
  · simp [flagIf, hasFlag]
  · simp [flagIf]

namespace State

variable {s : State} {a : Addr} {h : HoseId} {p : Profile} {st : Settings} {tag : TagId} {i : EntryId}
  {r : Option Nat} {why : Reason} {hours : Word} {quality : Byte}

/-! ### What a read that passes both tests writes and forms (R7, R30, R34) -/

/-- The count the pass operation leaves. -/
def passStrikes (s : State) (i : EntryId) : Nat := s.table.policy.pass.apply (s.entry i).strikes

/-- Whether the pass operation bars an ACTIVE entry. -/
abbrev PassBars (s : State) (i : EntryId) : Prop :=
  s.table.policy.threshold ≠ 0 ∧ s.table.policy.threshold ≤ s.passStrikes i

/-- An entry after a pass that leaves it ACTIVE: its count, its sighted mark and its hours. -/
def passedEntry (s : State) (i : EntryId) (r : Option Nat) : Entry :=
  { (s.entry i).passed s.table.rollCall r with strikes := s.passStrikes i }

/-- The remaining allowance of an entry once refilled. -/
def refilledRemaining (s : State) (i : EntryId) : Option Nat :=
  if (s.entry i).period = s.table.period then (s.entry i).remaining else (s.entry i).loaded.allowance

/-- That entry once its allowance is refilled as well. -/
def readEntry (s : State) (i : EntryId) (r : Option Nat) : Entry :=
  { s.passedEntry i r with remaining := s.refilledRemaining i, period := s.table.period }

/-- The allowance term: none without an allowance, and none where a present one has no remaining (log entry 27). -/
def allowanceTerm (s : State) (i : EntryId) : Option Nat :=
  if (s.entry i).loaded.allowance.isSome then s.refilledRemaining i else none

/-- The stock term of an ISSUE hose on profile p (R91). -/
def stockTerm (s : State) (p : Profile) (st : Settings) : Nat := (s.comp p.comp).issueAvail st

/-- The effective preset of a read. -/
def readPreset (s : State) (p : Profile) (st : Settings) (i : EntryId) : Nat :=
  min p.maxPreset (min (s.stockTerm p st) ((s.allowanceTerm i).getD (s.stockTerm p st)))

/-- The flags of a read's acceptance (R34, R36). -/
def readFlags (s : State) (p : Profile) (st : Settings) (i : EntryId) (r : Option Nat) : Half :=
  flagIf ((s.allowanceTerm i).any fun v => decide (v < p.maxPreset ∧ v = s.readPreset p st i)) .allowanceLimited
    ||| flagIf (decide (s.stockTerm p st < p.maxPreset ∧ s.stockTerm p st = s.readPreset p st i)) .stockLimited
    ||| flagIf r.isNone .noHours

theorem hasFlag_readFlags_allowance : hasFlag (s.readFlags p st i r) .allowanceLimited = true ↔
    ∃ v, s.allowanceTerm i = some v ∧ v < p.maxPreset ∧ v = s.readPreset p st i := by
  simp only [readFlags, hasFlag_or, hasFlag_flagIf, reduceCtorEq, decide_true, decide_false, Bool.and_true, Bool.and_false,
    Bool.or_false, Option.any_eq_true, decide_eq_true_eq]

theorem hasFlag_readFlags_stock : hasFlag (s.readFlags p st i r) .stockLimited = true ↔
    s.stockTerm p st < p.maxPreset ∧ s.stockTerm p st = s.readPreset p st i := by simp [readFlags]

theorem hasFlag_readFlags_noHours : hasFlag (s.readFlags p st i r) .noHours = true ↔ r = none := by simp [readFlags]

theorem hasFlag_readFlags_other {f : Flag} (allowance : .allowanceLimited ≠ f) (stock : .stockLimited ≠ f)
    (hours : .noHours ≠ f) : hasFlag (s.readFlags p st i r) f = false := by simp [readFlags, allowance, stock, hours]

/-! ### Steps 11 and 12 (R33 to R36) -/

theorem spaceAndPreset_full (full : s.billing.full = true) :
    s.spaceAndPreset h p st i tag r = s.refuseFound h .logFull tag i := if_pos full

/-- With log space: E from the refilled entry, against the minimum delivery. -/
theorem spaceAndPreset_room (room : s.billing.full = false) : s.spaceAndPreset h p st i tag r =
    (let u := s.refill i
     let term := if (u.entry i).loaded.allowance.isSome then (u.entry i).remaining else none
     let e := effectivePreset p.maxPreset term (u.stockTerm p st)
     if e < p.minDelivery then u.refuseFound h (lowReason term (u.stockTerm p st)) tag i
     else u.accept h (u.tagContext i p st e
       (limitFlags p.maxPreset term (u.stockTerm p st) ||| flagIf r.isNone .noHours) r)) := by
  have term : (match ((s.refill i).entry i).loaded.allowance with
        | some _ => ((s.refill i).entry i).remaining
        | none => none)
      = if ((s.refill i).entry i).loaded.allowance.isSome then ((s.refill i).entry i).remaining else none := by
    cases ((s.refill i).entry i).loaded.allowance <;> rfl
  simp only [spaceAndPreset, room, Bool.false_eq_true, if_false, ← term]
  rfl

/-- The context of an acceptance takes the entry's loaded fields, which a read does not write. -/
theorem tagContext_setEntry {e : Entry} {n : Nat} {flags : Half} (same : e.loaded = (s.entry i).loaded) :
    (s.setEntry i e).tagContext i p st n flags r = s.tagContext i p st n flags r := by
  unfold tagContext
  rw [setEntry_entry_self, same]
  rfl

/-! ### Step 10 and what follows (R30) -/

namespace PassesTests

/-- The pass operation bars the entry. -/
theorem barred (k : PassesTests s p st i r) (active : (s.entry i).barred = false) (bars : s.PassBars i) :
    s.testsAndStrikes h p st i tag r =
      ((s.setEntry i { s.entry i with strikes := s.passStrikes i, barred := true }).setCause .machineBarred).noticeRefused
        h .barred tag (some (s.entry i).loaded.number) (some (s.passStrikes i)) := by
  have struck : ((s.applyStrike s.table.policy.pass i).entry i).barred = true := by
    rw [applyStrike_bars active bars, setCause_entry, setEntry_entry_self]
  simp only [k.testsAndStrikes, struck, if_true]
  rw [refuseFound_applyStrike, applyStrike_bars active bars]
  rfl

/-- It leaves the entry ACTIVE: mark and hours are written before steps 11 and 12. -/
theorem spared (k : PassesTests s p st i r) (active : (s.entry i).barred = false) (spares : ¬ s.PassBars i) :
    s.testsAndStrikes h p st i tag r = (s.setEntry i (s.passedEntry i r)).spaceAndPreset h p st i tag r := by
  have struck : s.applyStrike s.table.policy.pass i = s.setEntry i { s.entry i with strikes := s.passStrikes i } :=
    applyStrike_spares active spares
  have free : ((s.applyStrike s.table.policy.pass i).entry i).barred = false := by
    rw [struck, setEntry_entry_self]
    exact active
  simp only [k.testsAndStrikes, free, Bool.false_eq_true, if_false]
  rw [struck, setEntry_setEntry, setEntry_entry_self]
  rfl

theorem full (k : PassesTests s p st i r) (active : (s.entry i).barred = false) (spares : ¬ s.PassBars i)
    (full : s.billing.full = true) : s.testsAndStrikes h p st i tag r =
      (s.setEntry i (s.passedEntry i r)).noticeRefused h .logFull tag (some (s.entry i).loaded.number)
        (some (s.passStrikes i)) := by
  rw [k.spared active spares, spaceAndPreset_full (s := s.setEntry i _) full, refuseFound_eq, setEntry_entry_self]
  rfl

/-- With log space the entry is refilled, and E decides. -/
theorem room (k : PassesTests s p st i r) (active : (s.entry i).barred = false) (spares : ¬ s.PassBars i)
    (room : s.billing.full = false) : s.testsAndStrikes h p st i tag r =
      (let u := s.setEntry i (s.readEntry i r)
       if s.readPreset p st i < p.minDelivery then
         u.noticeRefused h (lowReason (s.allowanceTerm i) (s.stockTerm p st)) tag (some (s.entry i).loaded.number)
           (some (s.passStrikes i))
       else u.accept h (s.tagContext i p st (s.readPreset p st i) (s.readFlags p st i r) r)) := by
  have filled : (s.setEntry i (s.passedEntry i r)).refill i = s.setEntry i (s.readEntry i r) := by
    rw [refill, setEntry_entry_self, setEntry_setEntry, Entry.refilled_eq]
    rfl
  rw [k.spared active spares, spaceAndPreset_room (s := s.setEntry i _) room, filled]
  dsimp only
  rw [tagContext_setEntry (by rfl)]
  simp only [setEntry_entry_self, limitFlags_eq, effectivePreset_eq, refuseFound_eq]
  rfl

end PassesTests

end State

open State

/-- Settles O22: the pass operation's bar, the full log, then an E below the minimum delivery. -/
theorem tagReadIsRefusedAfterItsTests : Obligations.TagReadIsRefusedAfterItsTests := by
  intro a tag hours quality s h p st i pred ready least most hp idle issue cal settings running nonzero walk active free
    e r strikes bars full left allowance stock written g refused grade cls window
  have k : ReachesTests s a tag quality h p st i :=
    ⟨ready, least, most, ⟨hp, idle, issue⟩, cal, settings, running, ⟨nonzero, pred, walk⟩, active, free⟩
  have passes : PassesTests g p st i r := ⟨grade, cls, window⟩
  rw [k.exec]
  refine ⟨fun b => congrArg _ (passes.barred active b), fun b f => ?_, fun b f low => ?_⟩
  · exact congrArg _ (passes.full active b ((Billing.full_iff _).mpr f))
  · have room : g.billing.full = false := (Billing.full_eq_false_iff _).mpr f
    exact congrArg _ ((passes.room active b room).trans (if_pos low))

/-- Settles O23: E is at least the minimum delivery, and the acceptance leaves what Accepted says. -/
theorem tagReadIsAccepted : Obligations.TagReadIsAccepted := by
  intro a tag hours quality s h p st i pred ready least most hp idle issue cal settings running nonzero walk
    e r strikes threshold left allowance stock preset active free grade cls window spares slots seqs enough
  have k : ReachesTests s a tag quality h p st i :=
    ⟨ready, least, most, ⟨hp, idle, issue⟩, cal, settings, running, ⟨nonzero, pred, walk⟩, active, free⟩
  have passes : PassesTests (s.countGood .field) p st i r := ⟨grade, cls, window⟩
  have b : ¬ (s.countGood .field).PassBars i := fun ⟨set, met⟩ => spares.elim set fun low => Nat.not_le.mpr low met
  have room : (s.countGood .field).billing.full = false := Billing.full_eq_false slots seqs
  have taken := (passes.room (h := h) (tag := tag) active b room).trans (if_neg (Nat.not_lt.mpr enough))
  exact ⟨_, _, k.exec.trans (congrArg _ taken), accept_accepted hp, rfl, rfl, rfl, rfl, rfl, rfl, rfl, rfl, rfl, rfl,
    rfl, rfl, hasFlag_readFlags_allowance, hasFlag_readFlags_stock, hasFlag_readFlags_noHours,
    hasFlag_readFlags_other (by decide) (by decide) (by decide), rfl, rfl, rfl, rfl, rfl, rfl, rfl, rfl, rfl, rfl⟩

end Sys2Proof.Machine
end

section
/-! PROOF. MANUAL_AUTH and RECEIVE_START (R38 to R41), refused and accepted. -/

namespace Sys2Proof.Machine

/-- A term that alone meets the hose maximum limits E exactly where it is the lesser. -/
theorem limitFlags_none (most stock : Nat) : limitFlags most none stock = flagIf (decide (stock < most)) .stockLimited := by
  have limits : (stock < most ∧ stock = min most stock) ↔ stock < most := by omega
  rw [limitFlags_eq, effectivePreset_eq]
  simp only [Option.any_none, Option.getD_none, Nat.min_self, limits]
  exact BitVec.zero_or

namespace State

variable {s : State} {a : Addr} {h : HoseId} {p : Profile} {st : Settings} {hose centre cls presence : Byte}
  {machine : Half} {reference volume : Word} {m ref : Option Nat} {z : CentreId} {k : ClassId}
  {act : Settings → State}

/-! ### Steps 3 to 5 of both requests (R38, R40) -/

/-- The steps both requests take before E: calibrated, no site stop, log space. -/
def startChecks (s : State) (h : HoseId) (p : Profile) (act : Settings → State) : State :=
  match s.calibrated h p with
  | none => s.noticeRefused h .uncalibrated 0 none none
  | some st =>
    if s.siteStop then s.noticeRefused h .siteStopped 0 none none
    else if s.billing.full then s.noticeRefused h .logFull 0 none none
    else act st

theorem startChecks_uncalibrated (not : (s.hose h).cal = none ∨ (s.comp p.comp).settings = none) :
    s.startChecks h p act = s.noticeRefused h .uncalibrated 0 none none := by
  simp only [startChecks, calibrated_none not]

theorem startChecks_stopped (cal : s.calibrated h p = some st) (stop : s.siteStop = true) :
    s.startChecks h p act = s.noticeRefused h .siteStopped 0 none none := by
  simp only [startChecks, cal, stop, if_true]

theorem startChecks_full (cal : s.calibrated h p = some st) (stop : s.siteStop = false) (full : s.billing.full = true) :
    s.startChecks h p act = s.noticeRefused h .logFull 0 none none := by
  simp only [startChecks, cal, stop, full, Bool.false_eq_true, if_false, if_true]

theorem startChecks_passed (cal : s.calibrated h p = some st) (stop : s.siteStop = false) (room : s.billing.full = false) :
    s.startChecks h p act = act st := by
  simp only [startChecks, cal, stop, room, Bool.false_eq_true, if_false]

/-! ### E and the acceptance (R38 to R41) -/

/-- The context of an accepted MANUAL_AUTH (R39). -/
def manualContext (s : State) (p : Profile) (st : Settings) (centre : CentreId) (cls : ClassId) (machine ref : Option Nat) :
    Context :=
  { freshContext .delivery st.grade p.comp s.table.period (min p.maxPreset (s.stockTerm p st))
      (flagIf (decide (s.stockTerm p st < p.maxPreset)) .stockLimited ||| Flag.manual.mask) ref with
    machine := machine, cls := some cls, centre := some centre
    price := some (vget s.billing.prices st.grade), fraction := some (vget s.billing.fractions cls) }

theorem hasFlag_manualContext : hasFlag (s.manualContext p st z k m ref).flags .manual = true := by
  simp [manualContext, freshContext]

theorem hasFlag_manualContext_stock :
    hasFlag (s.manualContext p st z k m ref).flags .stockLimited = true ↔ s.stockTerm p st < p.maxPreset := by
  simp [manualContext, freshContext]

/-- MANUAL_AUTH once its steps 3 to 5 are passed. -/
def manualStart (s : State) (h : HoseId) (p : Profile) (centre : CentreId) (cls : ClassId) (machine ref : Option Nat)
    (st : Settings) : State :=
  if min p.maxPreset (s.stockTerm p st) < p.minDelivery then s.noticeRefused h .lowStock 0 none none
  else s.accept h (s.manualContext p st centre cls machine ref)

theorem manualEvaluate_eq (centre : CentreId) (cls : ClassId) (machine ref : Option Nat) :
    s.manualEvaluate h p centre cls machine ref = s.startChecks h p (s.manualStart h p centre cls machine ref) := by
  unfold manualEvaluate
  simp only [limitFlags_none]
  rfl

/-- The receive availability of a RECEIVE hose on profile p (R91). -/
def receiveTerm (s : State) (p : Profile) (st : Settings) : Nat := (s.comp p.comp).receiveAvail st

/-- The context of an accepted RECEIVE_START (R41). -/
def receiveContext (s : State) (p : Profile) (st : Settings) (volume : Nat) (ref : Option Nat) : Context :=
  freshContext .receipt st.grade p.comp s.table.period (min volume (s.receiveTerm p st))
    (flagIf (decide (s.receiveTerm p st < volume)) .ullageLimited) ref

theorem hasFlag_receiveContext_ullage {volume : Nat} :
    hasFlag (s.receiveContext p st volume ref).flags .ullageLimited = true ↔ s.receiveTerm p st < volume := by
  simp [receiveContext, freshContext]

/-- RECEIVE_START once its steps 3 to 5 are passed. -/
def receiveStart (s : State) (h : HoseId) (p : Profile) (volume : Nat) (ref : Option Nat) (st : Settings) : State :=
  if min volume (s.receiveTerm p st) < p.minDelivery then
    s.noticeRefused h (if s.receiveTerm p st ≤ volume then .lowUllage else .shortRequest) 0 none none
  else s.accept h (s.receiveContext p st volume ref)

theorem receiveEvaluate_eq (volume : Nat) (ref : Option Nat) :
    s.receiveEvaluate h p volume ref = s.startChecks h p (s.receiveStart h p volume ref) := rfl

/-! ### Steps 1 and 2 (R38, R40, R164) -/

/-- The hose's part in either request, of kind code, that asks for a mode: refused unless IDLE in that mode. -/
def startAtHose (s : State) (h : HoseId) (mode : Mode) (hose code : Byte) (evaluate : Profile → State) : State :=
  match (s.hose h).phase, (s.hose h).profile with
  | .idle, some p => if p.mode ≠ mode then s.noticeRequest hose .wrongMode code else evaluate p
  | _, _ => s.noticeRequest hose .hoseBusy code

section
variable {mode : Mode} {code : Byte} {evaluate : Profile → State}

theorem startAtHose_busy (busy : (s.hose h).phase ≠ .idle) :
    s.startAtHose h mode hose code evaluate = s.noticeRequest hose .hoseBusy code := by
  unfold startAtHose
  split
  · next idle _ => exact absurd idle busy
  · rfl

theorem startAtHose_wrongMode (hp : (s.hose h).profile = some p) (idle : (s.hose h).phase = .idle) (not : p.mode ≠ mode) :
    s.startAtHose h mode hose code evaluate = s.noticeRequest hose .wrongMode code := by
  simp only [startAtHose, hp, idle, if_pos not]

theorem startAtHose_evaluated (hp : (s.hose h).profile = some p) (idle : (s.hose h).phase = .idle) (same : p.mode = mode) :
    s.startAtHose h mode hose code evaluate = evaluate p := by
  simp only [startAtHose, hp, idle, same, ne_eq, not_true_eq_false, if_false]

end

/-- The frame counted, its sender still has its level. -/
theorem RequestReady.level {least : Level} (ready : s.RequestReady a least) :
    least.code ≤ ((s.countGood .cab).levelOfNode a.src).code := by
  obtain ⟨-, -, -, level⟩ := ready
  exact level

/-- An operator frame of a sender that passes the screen. -/
theorem exec_manualAuth (ready : s.RequestReady a .supervisor) :
    exec (.manualAuth a hose centre cls presence machine reference) s =
      .next ((s.countGood .cab).manualRequest a.src hose centre cls presence machine reference) := by
  obtain ⟨on, src, dest, -⟩ := ready
  exact congrArg Host.Outcome.next (takeOperator_reached on src dest)

theorem exec_receiveStart (ready : s.RequestReady a .supervisor) :
    exec (.receiveStart a hose volume presence reference) s =
      .next ((s.countGood .cab).receiveRequest a.src hose volume presence reference) := by
  obtain ⟨on, src, dest, -⟩ := ready
  exact congrArg Host.Outcome.next (takeOperator_reached on src dest)

/-- A machine number operand in range: any but 0, FFFF hex for absent. -/
theorem machineOf_eq {m : Half} (h : m ≠ 0) : machineOf m = some (if m = 0xFFFF#16 then none else some m.toNat) := by
  unfold machineOf
  split
  · rfl
  · exact if_neg h

/-- MANUAL_AUTH's operands in range (R38). -/
structure ManualOk (hose centre cls : Byte) (machine : Half) (h : HoseId) (z : CentreId) (k : ClassId) : Prop where
  hose : hose.toNat = h.val
  centre : centre.toNat = z.val
  cls : cls.toNat = k.val
  machine : machine ≠ 0

theorem manualRequest_range (level : Level.supervisor.code ≤ (s.levelOfNode a.src).code)
    (not : ¬ (hose.toNat < 6 ∧ centre.toNat < 64 ∧ cls.toNat < 16 ∧ machine ≠ 0)) :
    s.manualRequest a.src hose centre cls presence machine reference = s.noticeRequest hose .range 6#8 := by
  unfold manualRequest
  simp only [if_neg (Nat.not_lt.mpr level)]
  split
  · next h z c m hh hz hc hm =>
    refine absurd ⟨?_, ?_, ?_, ?_⟩ not
    · exact finOf_eq_some.mp hh ▸ h.isLt
    · exact finOf_eq_some.mp hz ▸ z.isLt
    · exact finOf_eq_some.mp hc ▸ c.isLt
    · rintro rfl
      cases hm
  · rfl

theorem manualRequest_inRange (level : Level.supervisor.code ≤ (s.levelOfNode a.src).code)
    (ok : ManualOk hose centre cls machine h z k) :
    s.manualRequest a.src hose centre cls presence machine reference =
      s.startAtHose h .issue hose 6#8 fun p => s.manualEvaluate h p z k
        (if machine = 0xFFFF#16 then none else some machine.toNat) (presentRef presence reference) := by
  simp only [manualRequest, if_neg (Nat.not_lt.mpr level), finOf_eq_some.mpr ok.hose, finOf_eq_some.mpr ok.centre,
    finOf_eq_some.mpr ok.cls, machineOf_eq ok.machine]
  rfl

theorem receiveRequest_range (level : Level.supervisor.code ≤ (s.levelOfNode a.src).code)
    (not : ¬ (hose.toNat < 6 ∧ 1 ≤ volume.toNat ∧ volume.toNat ≤ 99999999)) :
    s.receiveRequest a.src hose volume presence reference = s.noticeRequest hose .range 7#8 := by
  unfold receiveRequest
  simp only [if_neg (Nat.not_lt.mpr level)]
  split
  · next h hh =>
    have inHose : hose.toNat < 6 := finOf_eq_some.mp hh ▸ h.isLt
    have outside : volume.toNat = 0 ∨ Config.maxVolume < volume.toNat := by simp only [Config.maxVolume]; omega
    rw [if_pos outside]
    rfl
  · rfl

/-- RECEIVE_START's operands in range (R40). -/
structure ReceiveOk (hose : Byte) (volume : Word) (h : HoseId) : Prop where
  hose : hose.toNat = h.val
  least : 1 ≤ volume.toNat
  most : volume.toNat ≤ 99999999

theorem receiveRequest_inRange (level : Level.supervisor.code ≤ (s.levelOfNode a.src).code)
    (ok : ReceiveOk hose volume h) :
    s.receiveRequest a.src hose volume presence reference =
      s.startAtHose h .receive hose 7#8 fun p => s.receiveEvaluate h p volume.toNat (presentRef presence reference) := by
  have inside : ¬ (volume.toNat = 0 ∨ Config.maxVolume < volume.toNat) := by
    have := ok.least
    have := ok.most
    simp only [Config.maxVolume]
    omega
  simp only [receiveRequest, if_neg (Nat.not_lt.mpr level), finOf_eq_some.mpr ok.hose, if_neg inside]
  rfl

end State

open State

/-- Settles O24: the operands, then the hose, then the checks both requests share, then E. -/
theorem operatorStartIsRefused : Obligations.OperatorStartIsRefused := by
  intro a hose centre cls presence machine reference volume s ready g manual receive manualOk receiveOk
  have level : Level.supervisor.code ≤ (g.levelOfNode a.src).code := RequestReady.level ready
  have manual_eq : manual = .next (g.manualRequest a.src hose centre cls presence machine reference) := exec_manualAuth ready
  have receive_eq : receive = .next (g.receiveRequest a.src hose volume presence reference) := exec_receiveStart ready
  refine ⟨fun not => manual_eq.trans (congrArg _ (manualRequest_range level not)),
    fun not => receive_eq.trans (congrArg _ (receiveRequest_range level not)), fun h hh => ?_⟩
  have manual_hose (ok : manualOk) : ∃ z k m ref, manual = .next (g.startAtHose h .issue hose 6#8 fun p =>
      g.manualEvaluate h p z k m ref) := by
    obtain ⟨-, hz, hk, hm⟩ := ok
    exact ⟨⟨_, hz⟩, ⟨_, hk⟩, _, _,
      manual_eq.trans (congrArg _ (manualRequest_inRange level ⟨hh, rfl, rfl, hm⟩))⟩
  have receive_hose (ok : receiveOk) : ∃ ref, receive = .next (g.startAtHose h .receive hose 7#8 fun p =>
      g.receiveEvaluate h p volume.toNat ref) := by
    obtain ⟨-, least, most⟩ := ok
    exact ⟨_, receive_eq.trans (congrArg _ (receiveRequest_inRange level ⟨hh, least, most⟩))⟩
  refine ⟨fun busy => ⟨fun ok => ?_, fun ok => ?_⟩,
    fun idle p hp => ⟨fun ok not => ?_, fun ok not => ?_, fun start which => ?_⟩⟩
  · obtain ⟨_, _, _, _, e⟩ := manual_hose ok
    exact e.trans (congrArg _ (startAtHose_busy busy))
  · obtain ⟨_, e⟩ := receive_hose ok
    exact e.trans (congrArg _ (startAtHose_busy busy))
  · obtain ⟨_, _, _, _, e⟩ := manual_hose ok
    exact e.trans (congrArg _ (startAtHose_wrongMode hp idle not))
  · obtain ⟨_, e⟩ := receive_hose ok
    exact e.trans (congrArg _ (startAtHose_wrongMode hp idle not))
  · obtain ⟨act, rfl, issue, receipt⟩ : ∃ act, start = .next (g.startChecks h p act)
        ∧ (p.mode = .issue → ∃ z k m ref, act = g.manualStart h p z k m ref)
        ∧ (p.mode = .receive → ∃ ref, act = g.receiveStart h p volume.toNat ref) := by
      rcases which with ⟨ok, mode, rfl⟩ | ⟨ok, mode, rfl⟩
      · obtain ⟨z, k, m, ref, e⟩ := manual_hose ok
        refine ⟨g.manualStart h p z k m ref, e.trans (congrArg _ ?_), fun _ => ⟨z, k, m, ref, rfl⟩, by simp [mode]⟩
        rw [startAtHose_evaluated (s := g) hp idle mode, manualEvaluate_eq]
      · obtain ⟨ref, e⟩ := receive_hose ok
        refine ⟨g.receiveStart h p volume.toNat ref, e.trans (congrArg _ ?_), by simp [mode], fun _ => ⟨ref, rfl⟩⟩
        rw [startAtHose_evaluated (s := g) hp idle mode, receiveEvaluate_eq]
    refine ⟨fun not => congrArg _ (startChecks_uncalibrated not), fun st cal settings => ?_⟩
    intro full stock avail
    have cal : g.calibrated h p = some st := calibrated_some (Option.isSome_iff_ne_none.mpr cal) settings
    refine ⟨fun stop => congrArg _ (startChecks_stopped cal stop),
      fun stop f => congrArg _ (startChecks_full cal stop ((Billing.full_iff _).mpr f)), fun stop f => ?_⟩
    rw [startChecks_passed cal stop ((Billing.full_eq_false_iff _).mpr f)]
    refine ⟨fun mode low => ?_, fun mode low => ?_⟩
    · obtain ⟨_, _, _, _, rfl⟩ := issue mode
      exact congrArg _ (if_pos low)
    · obtain ⟨_, rfl⟩ := receipt mode
      exact congrArg _ (if_pos low)

/-- Settles O25: every step passed, and the acceptance leaves what Accepted says. -/
theorem operatorStartIsAccepted : Obligations.OperatorStartIsAccepted := by
  intro a s h p st ready hp idle cal settings running slots seqs
  have level := RequestReady.level ready
  have hose : (BitVec.ofNat 8 h.val).toNat = h.val := by rw [BitVec.toNat_ofNat]; omega
  have room : (s.countGood .cab).billing.full = false := Billing.full_eq_false slots seqs
  have passed (act : Settings → State) : (s.countGood .cab).startChecks h p act = act st :=
    startChecks_passed (calibrated_some cal settings) running room
  constructor
  · intro centre cls presence machine reference z k mode hz hk hm stock preset enough
    have taken : exec (.manualAuth a (BitVec.ofNat 8 h.val) centre cls presence machine reference) s =
        .next ((s.countGood .cab).accept h ((s.countGood .cab).manualContext p st z k
          (if machine = 0xFFFF#16 then none else some machine.toNat) (presentRef presence reference))) := by
      rw [exec_manualAuth ready, manualRequest_inRange level ⟨hose, hz, hk, hm⟩,
        startAtHose_evaluated (s := s.countGood .cab) hp idle mode, manualEvaluate_eq, passed]
      exact congrArg _ (if_neg (Nat.not_lt.mpr enough))
    exact ⟨_, _, taken, accept_accepted hp, rfl, rfl, rfl, rfl, rfl, rfl, rfl, rfl, rfl, rfl, rfl, rfl, hasFlag_manualContext,
      hasFlag_manualContext_stock, rfl, rfl, rfl, rfl, rfl, rfl, rfl, rfl, rfl, rfl⟩
  · intro volume presence reference mode least most avail enough
    have taken : exec (.receiveStart a (BitVec.ofNat 8 h.val) volume presence reference) s =
        .next ((s.countGood .cab).accept h
          ((s.countGood .cab).receiveContext p st volume.toNat (presentRef presence reference))) := by
      rw [exec_receiveStart ready, receiveRequest_inRange level ⟨hose, least, most⟩,
        startAtHose_evaluated (s := s.countGood .cab) hp idle mode, receiveEvaluate_eq, passed]
      exact congrArg _ (if_neg (Nat.not_lt.mpr enough))
    exact ⟨_, _, taken, accept_accepted hp, rfl, rfl, rfl, rfl, rfl, rfl, rfl, rfl, rfl, rfl, rfl, rfl,
      hasFlag_receiveContext_ullage, rfl, rfl, rfl, rfl, rfl, rfl, rfl, rfl, rfl, rfl⟩

end Sys2Proof.Machine
end

section
/-! PROOF. What a read or a start request can lead to, and the frames of an acceptance in their order (R186). -/

namespace Sys2Proof.Machine

namespace PortState

/-- Behind a busy transmitter frames for which slots and share have room take the newest positions in their order. -/
theorem offerOrdinary_foldl (fs : List Frame) {q : PortState} (busy : q.sending.isSome = true)
    (slots : q.queue.length + fs.length ≤ 32) (share : q.ordinaryWaiting + fs.length ≤ 20) :
    fs.foldl (fun q f => q.offerOrdinary f) q = { q with queue := q.queue ++ fs.map fun f => ⟨.ordinary, f⟩ } := by
  induction fs generalizing q with
  | nil => simp
  | cons f fs ih =>
    rw [List.length_cons] at slots share
    have room : q.room = true := by
      simp only [PortState.room, Config.txSlots, Config.txOrdinary, Bool.and_eq_true, decide_eq_true_eq]
      omega
    rw [List.foldl_cons, offerOrdinary_append busy room, ih (by exact busy)]
    · simp
    · simp
      omega
    · have one : ordinaryWaiting { q with queue := q.queue ++ [⟨.ordinary, f⟩] } = q.ordinaryWaiting + 1 := by
        simp [ordinaryWaiting, QKind.control]
      omega

end PortState

/-- The amount so far of a transaction whose net total is 0 (R68). -/
theorem Context.amountSoFar_zero {c : Context} (net : c.net = 0) :
    c.amountSoFar = match c.kind with | .delivery => some 0 | .receipt => none := by
  rw [State.amountSoFar_eq, net]
  cases c.kind <;> simp

/-- CLOCK_UNSET joined to a flag word without it and masked away again leaves the word as sent. -/
theorem flags_sent {w : Half} (b : Bool) (h : hasFlag w .clockUnset = false) :
    (w ||| flagIf b .clockUnset) &&& 0x1FFF#16 &&& ~~~Flag.clockUnset.mask = w &&& 0x1FFF#16 := by
  have mask : Flag.clockUnset.mask = BitVec.twoPow 16 11 := rfl
  have clear : w.getLsbD 11 = false := h
  apply BitVec.eq_of_getLsbD_eq
  intro i hi
  by_cases at11 : i = 11
  · subst at11
    simp only [BitVec.getLsbD_and, BitVec.getLsbD_or, clear]
    cases b <;> rfl
  · cases b <;> simp [-BitVec.getLsbD_eq_getElem, flagIf, mask, BitVec.getLsbD_twoPow, Ne.symm at11, hi]

namespace State

variable {s t u : State} {a : Addr} {h : HoseId} {p : Profile} {st : Settings} {tag : TagId} {i : EntryId}
  {r ref : Option Nat} {hours volume reference : Word} {quality hose centre cls presence : Byte} {machine : Half}
  {c : Context}

/-- Step 3 passes with both items present. -/
theorem calibrated_exists (present : ¬ ((s.hose h).cal = none ∨ (s.comp p.comp).settings = none)) :
    ∃ st, s.calibrated h p = some st := by
  obtain ⟨cal, settings⟩ := not_or.mp present
  obtain ⟨st, settings⟩ := Option.ne_none_iff_exists'.mp settings
  exact ⟨st, calibrated_some (Option.isSome_iff_ne_none.mpr cal) settings⟩

/-! ### What a read or a start request leads to (R23, R38, R40) -/

/-- What a read or a request at hose h leads to: refused or ignored, the hose's phase as it was; or the acceptance of a context
no flow has touched, under no site stop and with nothing but the Machine Table written before it. -/
inductive StartOutcome (h : HoseId) (s : State) : State → Prop
  | refused {t : State} (phase : (t.hose h).phase = (s.hose h).phase) : StartOutcome h s t
  | accepted {u : State} {c : Context} (table : u = s.setTable u.table) (running : s.siteStop = false) (net : c.net = 0)
      (clock : hasFlag c.flags .clockUnset = false) : StartOutcome h s (u.accept h c)

namespace StartOutcome

/-- A notice leaves the hose as it was. -/
theorem notice {why : Reason} {tag : TagId} {m k : Option Nat} : StartOutcome h s (s.noticeRefused h why tag m k) :=
  .refused rfl

theorem request {why : Reason} {code : Byte} : StartOutcome h s (s.noticeRequest hose why code) := .refused rfl

theorem testsAndStrikes (running : s.siteStop = false) (active : (s.entry i).barred = false) :
    StartOutcome h s (s.testsAndStrikes h p st i tag r) := by
  have struck (op : StrikeOp) (why : Reason) : StartOutcome h s ((s.applyStrike op i).refuseFound h why tag i) :=
    .refused (by simp)
  by_cases grade : (s.entry i).loaded.grades.getLsbD st.grade.val = true
  case neg =>
    rw [testsAndStrikes_wrongGrade (Bool.eq_false_iff.mpr grade)]
    exact struck ..
  by_cases cls : p.classMask.getLsbD (s.entry i).loaded.cls.val = true
  case neg =>
    rw [testsAndStrikes_wrongClass grade (Bool.eq_false_iff.mpr cls)]
    exact struck ..
  by_cases window : testB (s.entry i) s.table.policy.maxJump r = true
  case neg =>
    rw [testsAndStrikes_hoursCheck grade cls (Bool.eq_false_iff.mpr window)]
    exact struck ..
  have k : PassesTests s p st i r := ⟨grade, cls, testB_iff.mp window⟩
  by_cases bars : s.PassBars i
  · rw [k.barred active bars]
    exact .refused (congrArg Hose.phase (setCause_hose ..))
  · cases room : s.billing.full
    · rw [k.room active bars room]
      dsimp only
      split
      · exact .refused rfl
      · exact .accepted rfl running rfl (hasFlag_readFlags_other (by decide) (by decide) (by decide))
    · rw [k.full active bars room]
      exact .refused rfl

theorem lookupTag (running : s.siteStop = false) : StartOutcome h s (s.lookupTag h p st tag r) := by
  cases w : (s.table.walk (bucketOf tag) (some tag)).1 with
  | missing =>
    rw [lookupTag_missing w]
    exact notice
  | fault pred =>
    rw [lookupTag_fault w]
    exact .refused (congrArg Hose.phase (setCause_hose ..))
  | found i pred =>
    by_cases zero : tag = 0#48
    · rw [lookupTag_zero zero (by simp [w])]
      exact notice
    have f : Finds s tag i := ⟨zero, pred, w⟩
    rw [f.lookupTag]
    split
    · exact .refused (by simp)
    · next active =>
      split
      · exact .refused (by simp)
      · exact testsAndStrikes running (Bool.eq_false_iff.mpr active)

/-- A read at a hose with a profile. -/
theorem tagReadEvent (hp : (s.hose h).profile = some p) : StartOutcome h s (s.tagReadEvent h tag hours quality) := by
  by_cases blank : quality = 0#8
  · rw [blank]
    exact .refused rfl
  rw [tagReadEvent_evaluated blank]
  by_cases ignored : (s.hose h).phase ≠ .idle ∨ p.mode ≠ .issue
  · rw [evaluateRead_ignored hp ignored]
    exact .refused rfl
  simp only [not_or, not_not] at ignored
  have k : IdleIssue s h p := ⟨hp, ignored.1, ignored.2⟩
  by_cases cal : (s.hose h).cal = none ∨ (s.comp p.comp).settings = none
  · rw [k.uncalibrated cal]
    exact notice
  obtain ⟨st, cal⟩ := calibrated_exists cal
  cases stop : s.siteStop
  · rw [k.lookedUp cal stop]
    exact lookupTag stop
  · rw [k.stopped cal stop]
    exact notice

/-- The checks of a start request before what follows them. -/
theorem startChecks {act : Settings → State} (follows : ∀ st, s.siteStop = false → StartOutcome h s (act st)) :
    StartOutcome h s (s.startChecks h p act) := by
  unfold State.startChecks
  split
  · exact notice
  · split
    · exact notice
    · next running =>
      split
      · exact notice
      · exact follows _ (Bool.eq_false_iff.mpr running)

/-- A start request at its hose before its evaluation. -/
theorem startAtHose {mode : Mode} {code : Byte} {evaluate : Profile → State}
    (follows : ∀ p, StartOutcome h s (evaluate p)) :
    StartOutcome h s (s.startAtHose h mode hose code evaluate) := by
  unfold State.startAtHose
  split
  · split
    · exact .refused rfl
    · exact follows _
  · exact .refused rfl

theorem manualRequest (level : Level.supervisor.code ≤ (s.levelOfNode a.src).code) (hh : hose.toNat = h.val) :
    StartOutcome h s (s.manualRequest a.src hose centre cls presence machine reference) := by
  by_cases ok : hose.toNat < 6 ∧ centre.toNat < 64 ∧ cls.toNat < 16 ∧ machine ≠ 0
  · obtain ⟨-, hz, hk, hm⟩ := ok
    rw [manualRequest_inRange (z := ⟨_, hz⟩) (k := ⟨_, hk⟩) level ⟨hh, rfl, rfl, hm⟩]
    refine startAtHose fun p => ?_
    rw [manualEvaluate_eq]
    refine startChecks fun st running => ?_
    unfold manualStart
    split
    · exact notice
    · exact .accepted rfl running rfl (by simp [manualContext, freshContext])
  · rw [manualRequest_range level ok]
    exact request

theorem receiveRequest (level : Level.supervisor.code ≤ (s.levelOfNode a.src).code) (hh : hose.toNat = h.val) :
    StartOutcome h s (s.receiveRequest a.src hose volume presence reference) := by
  by_cases ok : hose.toNat < 6 ∧ 1 ≤ volume.toNat ∧ volume.toNat ≤ 99999999
  · obtain ⟨-, least, most⟩ := ok
    rw [receiveRequest_inRange level ⟨hh, least, most⟩]
    refine startAtHose fun p => ?_
    rw [receiveEvaluate_eq]
    refine startChecks fun st running => ?_
    unfold receiveStart
    split
    · exact notice
    · exact .accepted rfl running rfl (by simp [receiveContext, freshContext])
  · rw [receiveRequest_range level ok]
    exact request

end StartOutcome

/-! ### The frames of an acceptance (R186) -/

/-- The amount that the frames of an acceptance carry (R68). -/
def startAmount (k : TxKind) : Option Nat := match k with | .delivery => some 0 | .receipt => none

/-- The two frames every acceptance queues, by the context it leaves. -/
def acceptFrames (h : HoseId) (c : Context) : List Frame :=
  [progressFrame h .authorized 0 (startAmount c.kind),
    ownFrame 0 8 ([1#8] ++ beN 1 h.val ++ optN 2 c.machine ++ beN 4 c.preset
      ++ be2 (c.flags &&& 0x1FFF#16 &&& ~~~Flag.clockUnset.mask))]

/-- What an acceptance queues, below level 960 and under no site stop: its two frames, and where the nozzle is lifted the frames
of the flow start behind them. -/
theorem Accepted.frames (acc : Accepted s t h p c) (net : c.net = 0) (clock : hasFlag c.flags .clockUnset = false)
    (running : s.siteStop = false) (level : s.billing.level + 1 ≠ 960) :
    ∃ c', (t.hose h).ctx = some c' ∧
      (if (s.hose h).nozzle.isLifted then
        t.cab = (acceptFrames h c' ++ [progressFrame h .slowStart 0 (startAmount c'.kind)]).foldl
            (fun q f => q.offerOrdinary f) s.cab
          ∧ t.field = s.field.offerControl ⟨.valve h, valveFrame p.head .openSlow⟩
      else t.cab = (acceptFrames h c').foldl (fun q f => q.offerOrdinary f) s.cab ∧ t.field = s.field) := by
  obtain ⟨-, -, -, hoses, -, field, cab, -⟩ := acc
  have ctx := congrArg (fun v => (vget v h).ctx) hoses
  simp only [running, level, Context.amountSoFar_zero net, net, decide_false, Bool.false_and, Bool.false_eq_true, if_false,
    Bool.not_false, Bool.and_true, vget_vset_self] at ctx field cab
  cases lifted : (s.hose h).nozzle.isLifted
  · rw [lifted] at ctx field cab
    have sent : c.flags &&& 0x1FFF#16 &&& ~~~Flag.clockUnset.mask = c.flags &&& 0x1FFF#16 := by
      simpa [flagIf] using flags_sent false clock
    refine ⟨c, ctx, cab.trans ?_, field⟩
    rw [acceptFrames, sent]
    rfl
  · rw [lifted] at ctx field cab
    refine ⟨_, ctx, cab.trans ?_, field⟩
    rw [acceptFrames, flags_sent _ clock]
    rfl

/-- A TAG_READ whose form check fails is screened out (R182). -/
theorem exec_tagRead_malformed (ready : s.HeadReady a h) (q : ¬ quality.toNat ≤ 3) :
    exec (.tagRead a tag hours quality) s = .next ((s.countGood .field).countScreened .field) := by
  obtain ⟨on, src, dest, owner⟩ := ready
  have taken : exec (.tagRead a tag hours quality) s = .next (s.takeField a headOwner (decide (quality.toNat ≤ 3))
      fun h t => t.tagReadEvent h tag hours quality) := rfl
  rw [taken, decide_eq_false q]
  simp [takeField, on, Nat.not_lt.mpr src, Nat.not_le.mpr dest, owner]

end State

open State

/-- Settles O26: whichever of the three rows it was, it ended in an acceptance, whose frames a busy transmitter with room keeps
in the order they were offered in. -/
theorem acceptanceQueuesItsFramesInOrder : Obligations.AcceptanceQueuesItsFramesInOrder := by
  intro i s t h p hp idle which ran started level busy slots share
  obtain ⟨port, outcome⟩ : ∃ port, StartOutcome h (s.countGood port) t := by
    rcases which with ⟨a, tag, hours, quality, rfl, ready⟩
      | ⟨a, hose, centre, cls, presence, machine, reference, rfl, ready, hh⟩
      | ⟨a, hose, volume, presence, reference, rfl, ready, hh⟩
    · refine ⟨.field, ?_⟩
      by_cases q : quality.toNat ≤ 3
      · obtain rfl := Host.Outcome.next.inj ((exec_tagRead ready q).symm.trans ran)
        exact .tagReadEvent hp
      · obtain rfl := Host.Outcome.next.inj ((exec_tagRead_malformed ready q).symm.trans ran)
        exact .refused rfl
    · obtain rfl := Host.Outcome.next.inj ((exec_manualAuth ready).symm.trans ran)
      exact ⟨.cab, .manualRequest (RequestReady.level ready) hh⟩
    · obtain rfl := Host.Outcome.next.inj ((exec_receiveStart ready).symm.trans ran)
      exact ⟨.cab, .receiveRequest (RequestReady.level ready) hh⟩
  cases outcome with
  | refused phase =>
    rw [countGood_hose] at phase
    exact absurd (phase.trans idle) started
  | @accepted u c table running net clock =>
    obtain ⟨hose, stop, billing, queue, sending, good⟩ : u.hose h = s.hose h ∧ u.siteStop = (s.countGood port).siteStop
        ∧ u.billing = s.billing ∧ u.cab.queue = s.cab.queue ∧ u.cab.sending = s.cab.sending
        ∧ u.field = { s.field with good := u.field.good } := by
      rw [table]
      cases port <;> exact ⟨rfl, rfl, rfl, rfl, rfl, rfl⟩
    have acc : Accepted u (u.accept h c) h p c := accept_accepted (hose ▸ hp)
    obtain ⟨c', ctx, frames⟩ := acc.frames net clock (stop.trans running) (billing ▸ level)
    have queued (fs : List Frame) (three : fs.length ≤ 3) : (fs.foldl (fun q f => q.offerOrdinary f) u.cab).queue =
        s.cab.queue ++ fs.map fun f => ⟨.ordinary, f⟩ := by
      have waiting : u.cab.ordinaryWaiting = s.cab.ordinaryWaiting := by simp only [PortState.ordinaryWaiting, queue]
      rw [PortState.offerOrdinary_foldl fs (sending ▸ busy) (by rw [queue]; omega) (by omega), ← queue]
    refine ⟨c', ctx, fun lifted => ?_, fun hung => ?_⟩
    · rw [hose, if_pos lifted] at frames
      obtain ⟨cab, field⟩ := frames
      have kept : (u.accept h c).field.good = u.field.good := by
        rw [field]
        exact (PortState.offerControl_counters ..).1
      have joined := (congrArg PortState.queue cab).trans (queued _ (Nat.le_refl 3))
      rw [List.map_append, ← List.append_assoc] at joined
      rw [kept, ← good]
      exact ⟨joined, field⟩
    · rw [hose, hung, if_neg Bool.false_ne_true] at frames
      obtain ⟨cab, field⟩ := frames
      rw [field, ← good]
      exact ⟨(congrArg PortState.queue cab).trans (queued _ (Nat.le_succ 2)), rfl⟩

end Sys2Proof.Machine
end

section
/-! PROOF. Roll call (R42, R43). -/

namespace Sys2Proof.Machine

open State

/-- READ answers the first 60 sighted entries from its start on, and the index after the last of them. -/
theorem State.cmdRollCallRead_reads {s : State} {start : Half} (v : start.toNat ≤ 511) :
    let got := ((ids 512).filter fun i => decide (start.toNat ≤ i.val) && (s.entry i).inUse && (s.entry i).sighted).take 60
    s.cmdRollCallRead start = (s, passOk (beN 1 got.length ++ optN 2 (nextIndex got.getLast? (decide (got.length < 60)))
      ++ (got.map fun i => beN 2 (s.entry i).loaded.number).flatten)) := if_pos v

/-- Settles O27: START and STOP write the table, READ collects the sighted entries from its start on. -/
theorem rollCallMarksAndReads : Obligations.RollCallMarksAndReads := by
  intro a s g
  refine ⟨fun ready => ⟨⟨vmap (fun e => { e with sighted := false }) s.table.entries, vget_vmap _ _, ?_⟩, ?_⟩,
    fun ready start => ⟨fun v => ?_, fun v => ?_⟩⟩
  · exact takeCommand_answered (act := cmdRollCallStart) ready rfl
  · exact takeCommand_answered (act := cmdRollCallStop) ready rfl
  · exact takeCommand_answered ready (if_neg (by omega))
  · intro marked got
    refine ⟨nextIndex got.getLast? (decide (got.length < 60)), takeCommand_answered ready (cmdRollCallRead_reads v),
      fun few => ?_, fun i full last => ?_⟩
    · have : got.length < 60 := (List.length_take_le' ..).trans_lt few
      rw [decide_eq_true this, nextIndex_end]
    · rw [last, decide_eq_false (by omega), nextIndex_some]

end Sys2Proof.Machine
end
section
/-! PROOF. What one step can do to one hose (chapter 3), and that each of it keeps the hose in order (R44, R47, R55, R61, R74,
R77). -/

namespace Sys2Proof.Machine

/-- A hose after a valve command, which a hose without a profile is not sent (R55). -/
def Hose.commanded (x : Hose) (v : ValveCmd) : Hose := if x.profile.isSome then { x with lastValve := some v } else x

/-- What the shared events of chapter 3 make of a hose, each with the phases it acts in; the values that decide nothing (a
context's items, a period) are free. -/
inductive Hose.Move : Hose → Hose → Prop
  /-- The head's reports, the unbilled counter and the calibration have no part in a phase. -/
  | told (x : Hose) (nozzle : Nozzle) (pulse : Option PulseRef) (unbilled : Nat) (cal : Option Calibration) :
      Move x { x with nozzle := nozzle, pulse := pulse, unbilled := unbilled, cal := cal }
  /-- Timers restarted within those the phase lists. -/
  | timed (x : Hose) (t : Timers) (listed : x.timers = x.timers.listed x.phase → t = t.listed x.phase) :
      Move x { x with timers := t }
  /-- An applied sample's totals and residues. -/
  | metered (x : Hose) (c : Context) (resG resN : Nat) (held : x.ctx.isSome = true)
      (residues : resG < 100000000 ∧ resN < 1000000) : Move x { x with ctx := some c, resG := resG, resN := resN }
  | profiled (x : Hose) (p : Profile) (rest : x.phase.atRest = true) : Move x (State.profiledHose x p)
  | authorized (x : Hose) (c : Context) (window : Option Nat) (idle : x.phase = .idle) :
      Move x { x.enter .authorized with ctx := some c, timers := { Timers.stopped with window := window } }
  /-- Flow start at an AUTHORIZED hose. -/
  | starts (x : Hose) (f : Context → Context) (noFlow silence : Option Nat) (phase : x.phase = .authorized) :
      Move x (Hose.commanded { x.enter .slowStart with
        ctx := x.ctx.map f, resG := 0, resN := 0
        timers := { Timers.stopped with noFlow := noFlow, silence := silence } } .openSlow)
  /-- A RESUME. -/
  | resumes (x : Hose) (ph : Phase) (noFlow silence : Option Nat) (held : x.phase = .held) (flows : ph.flowing = true) :
      Move x (Hose.commanded { x.enter ph with
        timers := { (x.enter ph).timers with noFlow := noFlow, silence := silence } } .openSlow)
  /-- A phase check that keeps the flow, and the command it may give. -/
  | slows (x : Hose) (ph : Phase) (flowing : x.phase.flowing = true) (flows : ph.flowing = true) : Move x (x.enter ph)
  | opens (x : Hose) (v : ValveCmd) (flowing : x.phase.flowing = true) (opening : v ≠ .close) : Move x (x.commanded v)
  | closes (x : Hose) (f : Context → Context) (settle : Option Nat)
      (flowing : x.phase.flowing = true ∨ x.phase = .held) :
      Move x (Hose.commanded { x.enter .closing with
        ctx := x.ctx.map f, timers := { Timers.stopped with settle := settle } } .close)
  | holds (x : Hose) (mark : HoldMark) (holdLimit : Option Nat) (flowing : x.phase.flowing = true) :
      Move x (Hose.commanded { x.enter .held with
        mark := some mark, timers := { (x.enter .held).timers with holdLimit := holdLimit } } .close)
  | marked (x : Hose) (mark : HoldMark) (held : x.phase = .held) : Move x { x with mark := some mark }
  /-- RESULT, entered with the valve shut. -/
  | results (x : Hose) (c : Context) (postDelay : Option Nat) (phase : x.phase.executing = true)
      (shut : x.phase.flowing = true → valveOpens x.lastValve = false) :
      Move x { x.enter .result with
        ctx := some c, resG := 0, resN := 0, timers := { Timers.stopped with postDelay := postDelay } }
  /-- The end of a transaction, dropped or posted. -/
  | ends (x : Hose) (phase : x.phase = .authorized ∨ x.phase = .closing ∨ x.phase = .result) :
      Move x { x.enter .idle with ctx := none }
  /-- A cold start or a WIPE. -/
  | cold (x : Hose) : Move x Hose.cold

namespace Hose

variable {x y : Hose}

@[simp] theorem enter_phase (x : Hose) (ph : Phase) : (x.enter ph).phase = ph := rfl
@[simp] theorem enter_ctx (x : Hose) (ph : Phase) : (x.enter ph).ctx = x.ctx := rfl

theorem commanded_of_profile {v : ValveCmd} {p : Profile} (hp : x.profile = some p) :
    x.commanded v = { x with lastValve := some v } := by simp [commanded, hp]

theorem commanded_phaseOk (v : ValveCmd) (ok : x.PhaseOk) : (x.commanded v).PhaseOk := by
  unfold commanded
  split <;> exact ok

theorem profile_isSome (ok : x.PhaseOk) (on : x.phase ≠ .off) : x.profile.isSome = true := by
  obtain ⟨profile, -⟩ := ok
  cases hp : x.profile with
  | some p => rfl
  | none => simp [hp, on] at profile

theorem commanded_valveOk (v : ValveCmd) (present : x.profile.isSome = true) (agrees : valveOpens (some v) = x.phase.flowing) :
    (x.commanded v).ValveOk := by
  unfold commanded
  rw [if_pos present]
  exact agrees

/-- A move between phases that are not OFF keeps what R44, R47 and R61 say, if context, mark and timers suit the phase entered. -/
theorem phaseOk_of_on (ok : x.PhaseOk) (on : x.phase ≠ .off) (on' : y.phase ≠ .off) (profile : y.profile = x.profile)
    (ctx : y.ctx.isSome = y.phase.holdsContext) (mark : y.mark.isSome = (y.phase == .held))
    (timers : y.timers = y.timers.listed y.phase) : y.PhaseOk := by
  obtain ⟨agrees, -⟩ := ok
  refine ⟨?_, ctx, mark, timers⟩
  rw [profile, agrees, bne_iff_ne.mpr on, bne_iff_ne.mpr on']

/-- A flowing phase is not OFF or HELD, holds a context and lists the no-flow and silence timers (R47). -/
theorem flowing_facts {ph : Phase} (flows : ph.flowing = true) : ph ≠ .off ∧ ph ≠ .held ∧ ph.holdsContext = true
    ∧ ∀ t : Timers, t.listed ph = { Timers.stopped with noFlow := t.noFlow, silence := t.silence } := by
  cases ph with
  | slowStart | fullFlow | slowStop => exact ⟨by decide, by decide, rfl, fun _ => rfl⟩
  | _ => cases flows

/-- A hose at rest holds no context. -/
theorem ctx_of_rest (ok : x.PhaseOk) (rest : x.phase.atRest = true) : x.ctx = none := by
  obtain ⟨-, ctx, -⟩ := ok
  rw [← Option.isSome_eq_false_iff.trans Option.isNone_iff_eq_none, ctx]
  cases ph : x.phase with
  | off | idle => rfl
  | _ => rw [ph] at rest; cases rest

theorem profiledHose_phaseOk (p : Profile) (ok : x.PhaseOk) (rest : x.phase.atRest = true) :
    (State.profiledHose x p).PhaseOk := by
  have empty := ctx_of_rest ok rest
  unfold State.profiledHose enter
  cases mode : p.mode <;> rw [empty] <;> exact ⟨by rw [Option.any_some, mode]; rfl, rfl, rfl, rfl⟩

/-- Each move keeps the phase in agreement with what the hose holds. -/
theorem Move.phaseOk (m : Move x y) (ok : x.PhaseOk) : y.PhaseOk := by
  obtain ⟨profile, ctx, mark, timers⟩ := id ok
  cases m with
  | told => exact ⟨profile, ctx, mark, timers⟩
  | timed t listed => exact ⟨profile, ctx, mark, listed timers⟩
  | metered c resG resN held => exact ⟨profile, held.symm.trans ctx, mark, timers⟩
  | profiled p rest => exact profiledHose_phaseOk p ok rest
  | authorized c window idle => exact phaseOk_of_on ok (by simp [idle]) nofun rfl rfl rfl rfl
  | starts f noFlow silence phase =>
    refine commanded_phaseOk _ (phaseOk_of_on ok (by simp [phase]) nofun rfl ?_ rfl rfl)
    exact (Option.isSome_map ..).trans (ctx.trans (by rw [phase]; rfl))
  | resumes ph noFlow silence held flows =>
    obtain ⟨on, notHeld, holds, listed⟩ := flowing_facts flows
    refine commanded_phaseOk _ (phaseOk_of_on ok (by simp [held]) on rfl ?_ ?_ ?_)
    · exact ctx.trans (by rw [held]; exact holds.symm)
    · simp [enter, notHeld]
    · simp [enter, listed]
  | slows ph flowing flows =>
    obtain ⟨on, -, holds, -⟩ := flowing_facts flowing
    obtain ⟨on', notHeld, holds', listed⟩ := flowing_facts flows
    refine phaseOk_of_on ok on on' rfl ?_ ?_ ?_
    · simpa [enter, holds, holds'] using ctx
    · simp [enter, notHeld]
    · simp [enter, listed]
  | opens v => exact commanded_phaseOk v ok
  | closes f settle flowing =>
    have leaves : x.phase ≠ .off ∧ x.phase.holdsContext = true := by
      rcases flowing with flowing | held
      · exact ⟨(flowing_facts flowing).1, (flowing_facts flowing).2.2.1⟩
      · rw [held]
        exact ⟨nofun, rfl⟩
    obtain ⟨on, holds⟩ := leaves
    refine commanded_phaseOk _ (phaseOk_of_on ok on nofun rfl ?_ rfl rfl)
    exact (Option.isSome_map ..).trans (ctx.trans holds)
  | holds hold holdLimit flowing =>
    obtain ⟨on, -, holds, -⟩ := flowing_facts flowing
    exact commanded_phaseOk _ (phaseOk_of_on ok on nofun rfl (ctx.trans holds) rfl rfl)
  | marked hold held => exact ⟨profile, ctx, by simp [held], timers⟩
  | results c postDelay executing =>
    refine phaseOk_of_on ok (fun off => ?_) nofun rfl rfl rfl rfl
    rw [off] at executing
    cases executing
  | ends phase =>
    refine phaseOk_of_on ok ?_ nofun rfl rfl rfl rfl
    rcases phase with phase | phase | phase <;> simp [phase]
  | cold => decide

/-- Each move of a hose in order leaves the last valve command open exactly in the flowing phases (R55). -/
theorem Move.valveOk (m : Move x y) (ok : x.PhaseOk) (valve : x.ValveOk) : y.ValveOk := by
  have present (on : x.phase ≠ .off) : x.profile.isSome = true := profile_isSome ok on
  cases m with
  | told | timed | metered | marked => exact valve
  | profiled p => unfold State.profiledHose; split <;> rfl
  | authorized c window idle => exact valve.trans (by rw [idle]; rfl)
  | starts f noFlow silence phase => exact commanded_valveOk _ (present (by simp [phase])) rfl
  | resumes ph noFlow silence held flows => exact commanded_valveOk _ (present (by simp [held])) flows.symm
  | slows ph flowing flows => exact valve.trans (flowing.trans flows.symm)
  | opens v flowing opening =>
    refine commanded_valveOk v (present (flowing_facts flowing).1) ?_
    rw [flowing]
    cases v with
    | close => exact absurd rfl opening
    | openSlow | openFull => rfl
  | closes f settle flowing =>
    refine commanded_valveOk _ (present ?_) rfl
    rcases flowing with flowing | held
    · exact (flowing_facts flowing).1
    · simp [held]
  | holds hold holdLimit flowing => exact commanded_valveOk _ (present (flowing_facts flowing).1) rfl
  | results c postDelay executing shut =>
    show valveOpens x.lastValve = false
    cases flowing : x.phase.flowing with
    | true => exact shut flowing
    | false => exact valve.trans flowing
  | ends phase => exact valve.trans (by rcases phase with phase | phase | phase <;> rw [phase] <;> rfl)
  | cold => rfl

theorem commanded_residuesOk (v : ValveCmd) (ok : x.ResiduesOk) : (x.commanded v).ResiduesOk := by
  unfold commanded
  split <;> exact ok

theorem zero_residuesOk : (0 : Nat) < 100000000 ∧ (0 : Nat) < 1000000 := by decide

/-- Each move leaves the residues remainders of their divisions (R74, R77). -/
theorem Move.residuesOk (m : Move x y) (ok : x.ResiduesOk) : y.ResiduesOk := by
  cases m with
  | metered c resG resN held residues => exact residues
  | results | cold => exact zero_residuesOk
  | starts => exact commanded_residuesOk _ zero_residuesOk
  | resumes | opens | closes | holds => exact commanded_residuesOk _ ok
  | _ => exact ok

end Hose
end Sys2Proof.Machine
end

section
/-! PROOF. What the operations of chapter 3, an acceptance and an overfill stop do to the hoses: each moves them. -/

namespace Sys2Proof.Machine

namespace State

/-- Every hose of the second state comes of the first's by moves. -/
structure Moves (s t : State) : Prop where
  hose : ∀ k, Relation.ReflTransGen Hose.Move (s.hose k) (t.hose k)

/-- What every move keeps, of any hose, moves keep of all six. -/
theorem Moves.keeps {s t : State} (m : Moves s t) {I : Hose → Prop} (move : ∀ {x y}, Hose.Move x y → I x → I y)
    (h : ∀ k, I (s.hose k)) (k : HoseId) : I (t.hose k) := by
  have chain : ∀ x y, Relation.ReflTransGen Hose.Move x y → I x → I y := fun x y m hx => by
    induction m with
    | refl => exact hx
    | tail _ last ih => exact move last ih
  exact chain _ _ (m.hose k) (h k)

theorem Moves.hosesOk {s t : State} (m : Moves s t) (h : s.HosesOk) : t.HosesOk := m.keeps Hose.Move.phaseOk h

theorem Moves.valvesOk {s t : State} (m : Moves s t) (h : s.ValvesOk) : t.ValvesOk := by
  obtain ⟨phases, valves⟩ := h
  have both := m.keeps (I := fun x => x.PhaseOk ∧ x.ValveOk)
    (fun move ok => ⟨move.phaseOk ok.1, move.valveOk ok.1 ok.2⟩) fun k => ⟨phases k, valves k⟩
  exact ⟨fun k => (both k).1, fun k => (both k).2⟩

theorem Moves.residuesOk {s t : State} (m : Moves s t) (h : s.ResiduesOk) : t.ResiduesOk := m.keeps Hose.Move.residuesOk h

/-! ### One hose written -/

theorem modHose_hose (s : State) (h k : HoseId) (f : Hose → Hose) :
    (s.modHose h f).hose k = if k = h then f (s.hose h) else s.hose k := setHose_hose ..

theorem queueValve_hose (s : State) (h k : HoseId) (v : ValveCmd) :
    (s.queueValve h v).hose k = if k = h then (s.hose h).commanded v else s.hose k := by
  cases hp : (s.hose h).profile with
  | none =>
    have unsent : s.queueValve h v = s := by simp [queueValve, hp]
    have same : (s.hose h).commanded v = s.hose h := by simp [Hose.commanded, hp]
    rw [unsent, same]
    split
    · next e => rw [e]
    · rfl
  | some p =>
    rw [queueValve_profile v hp, Hose.commanded_of_profile hp]
    exact setHose_hose ..

namespace Moves

variable {s t u : State} {h : HoseId}

theorem refl (s : State) : Moves s s := ⟨fun _ => .refl⟩

theorem trans (m : Moves s t) (n : Moves t u) : Moves s u := ⟨fun k => (m.hose k).trans (n.hose k)⟩

theorem of_hoses (e : t.hoses = s.hoses) : Moves s t := ⟨fun k => by
  have same : t.hose k = s.hose k := congrArg (vget · k) e
  rw [same]⟩

/-- As of_hoses, where an equation shows the state left. -/
theorem of_eq (e : t = u) (hoses : u.hoses = s.hoses) : Moves s t := e ▸ of_hoses hoses

/-- One hose moved, whatever else is written. -/
theorem single {x : Hose} (m : Hose.Move (s.hose h) x) (e : ∀ k, t.hose k = if k = h then x else s.hose k) : Moves s t := by
  refine ⟨fun k => ?_⟩
  rw [e]
  split
  · next same => rw [same]; exact .single m
  · exact .refl

theorem modHose {f : Hose → Hose} (m : Hose.Move (s.hose h) (f (s.hose h))) : Moves s (s.modHose h f) :=
  single m fun _ => modHose_hose ..

/-- One hose moved and sent its valve command. -/
theorem commanded {f : Hose → Hose} {v : ValveCmd} (m : Hose.Move (s.hose h) ((f (s.hose h)).commanded v)) :
    Moves s ((s.modHose h f).queueValve h v) := by
  refine single m fun k => ?_
  rw [queueValve_hose, modHose_hose, modHose_hose, if_pos rfl]
  split <;> rfl

theorem entryProgress (m : Moves s t) : Moves s (t.entryProgress h) := m.trans (of_hoses (by simp))

/-! ### The hoses' operations -/

theorem flowStart (phase : (s.hose h).phase = .authorized) : Moves s (s.flowStart h) :=
  (commanded (.starts _ _ _ _ phase)).entryProgress

theorem enterClosing (why : EndCause) (flowing : (s.hose h).phase.flowing = true ∨ (s.hose h).phase = .held) :
    Moves s (s.enterClosing h why) := (commanded (.closes _ _ _ flowing)).entryProgress

theorem enterHeld (mark : HoldMark) (flowing : (s.hose h).phase.flowing = true) : Moves s (s.enterHeld h mark) :=
  (commanded (.holds _ mark _ flowing)).entryProgress

theorem resumeFlow {ph : Phase} (held : (s.hose h).phase = .held) (flows : ph.flowing = true) :
    Moves s (s.resumeFlow h ph) := (commanded (.resumes _ ph _ _ held flows)).entryProgress

/-- A transaction dropped from AUTHORIZED or CLOSING. -/
theorem dropTransaction (phase : (s.hose h).phase = .authorized ∨ (s.hose h).phase = .closing ∨ (s.hose h).phase = .result) :
    Moves s (s.dropTransaction h) := by
  refine single (.ends _ phase) fun k => ?_
  unfold State.dropTransaction
  split
  · next empty =>
    rw [modHose_hose, Hose.enter, empty]
  · rw [modHose_hose]
    simp

theorem cancel (why : Reason) (kind : Option RequestKind) (phase : (s.hose h).phase = .authorized) :
    Moves s (s.cancel h why kind) :=
  ((dropTransaction (.inl phase)).trans (of_hoses (by simp))).entryProgress

theorem resultEntry (frame : Bool) (phase : (s.hose h).phase.executing = true)
    (shut : (s.hose h).phase.flowing = true → valveOpens (s.hose h).lastValve = false) :
    Moves s (s.resultEntry h frame) := by
  unfold State.resultEntry
  split
  · exact refl s
  · next c _ =>
    have units : Moves s ((s.uncommit c.comp c.kind c.term).settleCtx c h).2 := of_hoses (by simp)
    have same : ((s.uncommit c.comp c.kind c.term).settleCtx c h).2.hose h = s.hose h := by simp
    dsimp only
    generalize (s.uncommit c.comp c.kind c.term).settleCtx c h = r at units same
    have entered : Moves s (r.2.modHose h fun x =>
        { x.enter .result with
          ctx := some (resultCtx r.2 c r.1), resG := 0, resN := 0
          timers := { Timers.stopped with postDelay := postDelayOf x } }) :=
      units.trans (modHose (.results _ _ _ (same ▸ phase) (same ▸ shut)))
    split
    · exact entered.entryProgress
    · exact entered

theorem endClosing (phase : (s.hose h).phase = .closing) : Moves s (s.endClosing h) := by
  unfold State.endClosing
  split
  · exact refl s
  · split
    · exact (dropTransaction (.inr (.inl phase))).entryProgress
    · exact resultEntry true (by rw [phase]; rfl) fun flowing => by rw [phase] at flowing; cases flowing

theorem post (phase : (s.hose h).phase = .result) : Moves s (s.post h) := by
  unfold State.post
  split
  · exact refl s
  · next c _ =>
    have posted : Moves s (s.setBilling (s.billing.post h c)) := of_hoses rfl
    have idle : Moves s ((s.setBilling (s.billing.post h c)).modHose h fun x => { x.enter .idle with ctx := none }) :=
      posted.trans (modHose (.ends _ (.inr (.inr phase))))
    exact (idle.trans (of_hoses (by simp))).entryProgress

/-- A phase check changes flow or ends it (R51, R52). -/
theorem phaseCheck (flowing : (s.hose h).phase.flowing = true) : Moves s (s.phaseCheck h) := by
  have slowed : Moves s (s.modHose h fun x => x.enter .slowStop) := modHose (.slows _ _ flowing rfl)
  have slowedOpen : Moves s ((s.modHose h fun x => x.enter .slowStop).queueValve h .openSlow) :=
    slowed.trans (single (.opens _ .openSlow (by rw [modHose_hose, if_pos rfl]; rfl) nofun) fun _ => queueValve_hose ..)
  have full : Moves s (s.modHose h fun x => x.enter .fullFlow) := modHose (.slows _ _ flowing rfl)
  have opened : Moves s ((s.modHose h fun x => x.enter .fullFlow).queueValve h .openFull) :=
    full.trans (single (.opens _ .openFull (by rw [modHose_hose, if_pos rfl]; rfl) nofun) fun _ => queueValve_hose ..)
  unfold State.phaseCheck
  split
  · dsimp only
    split
    · split
      · exact enterClosing _ (.inl flowing)
      · split
        · exact slowed.entryProgress
        · split
          · exact opened.entryProgress
          · exact refl s
    · split
      · exact enterClosing _ (.inl flowing)
      · split
        · exact slowedOpen.entryProgress
        · exact refl s
    · split
      · exact enterClosing _ (.inl flowing)
      · exact refl s
    · exact refl s
  · exact refl s

/-- A silence timer restarted where it runs is one the phase lists. -/
theorem silence_listed {x : Hose} {period : Option Nat} (e : x.timers = x.timers.listed x.phase) :
    { x.timers with silence := restartIf x.timers.silence period }
      = Timers.listed { x.timers with silence := restartIf x.timers.silence period } x.phase := by
  rw [e]
  cases x.phase <;> simp [Timers.listed, Timers.stopped, restartIf]

/-- An applied sample restarts no timer that the phase does not list (R50). -/
theorem sampleTimers_listed {x : Hose} (p : Nat) (e : x.timers = x.timers.listed x.phase) :
    sampleTimers x p = (sampleTimers x p).listed x.phase := by
  unfold sampleTimers
  rw [e]
  cases x.phase <;> simp [Timers.listed, Timers.stopped, restartIf, Phase.flowing]

theorem appliedSample (c : Context) (m : Measured) (p : Nat) (held : (s.hose h).ctx.isSome = true)
    (residues : m.resG < 100000000 ∧ m.resN < 1000000) : Moves s (s.appliedSample h c m p) := by
  have metered : Moves s (s.modHose h fun x => { x with ctx := some (sampleCtx c m), resG := m.resG, resN := m.resN }) :=
    modHose (.metered _ _ _ _ held residues)
  have booked := metered.trans (of_hoses (t := ((s.modHose h fun x =>
    { x with ctx := some (sampleCtx c m), resG := m.resG, resN := m.resN }).bookMetered c.comp
      (signedBy c.kind m.n)).uncommit c.comp c.kind (c.term - (sampleCtx c m).term)) (by simp))
  have timed := booked.trans (modHose (h := h) (f := fun x => { x with timers := sampleTimers x p })
    (.timed _ _ (sampleTimers_listed p)))
  unfold State.appliedSample
  dsimp only
  split
  · next flowing => exact (timed.trans (phaseCheck flowing)).trans (of_hoses (by simp))
  · exact timed.trans (of_hoses (by simp))

theorem unbilledFlow (pr : Profile) (n : Nat) : Moves s (s.unbilledFlow h pr n) := by
  have counted : Moves s (s.modHose h fun x => { x with unbilled := satAdd Config.max32 x.unbilled n }) :=
    modHose (.told ..)
  unfold State.unbilledFlow
  exact counted.trans (of_hoses (by simp))

theorem sample (seq : Byte) (total temp : Half) : Moves s (s.sample h seq total temp) := by
  have referenced : Moves s (s.modHose h fun x => { x with pulse := refAfter x.pulse seq total }) := modHose (.told ..)
  have kept : ((s.modHose h fun x => { x with pulse := refAfter x.pulse seq total }).hose h).ctx = (s.hose h).ctx := by
    rw [modHose_hose, if_pos rfl]
  unfold State.sample
  dsimp only
  split
  · exact refl s
  · exact refl s
  · split
    · exact refl s
    · exact referenced.trans (modHose (.timed _ _ silence_listed))
    · split
      · split
        · next c _ hc _ => exact referenced.trans (appliedSample _ _ _ (by rw [kept, hc]; rfl) (measure_residues ..))
        · exact referenced
      · split
        · exact referenced
        · split
          · exact referenced.trans (of_hoses (by simp))
          · exact referenced.trans (unbilledFlow ..)

/-! ### What reaches a hose (R48, R57, R60 to R63) -/

theorem nozzleEvent (v : Nozzle) : Moves s (s.nozzleEvent h v) := by
  have told : Moves s (s.modHose h fun x => { x with nozzle := v }) := modHose (.told ..)
  have kept : ((s.modHose h fun x => { x with nozzle := v }).hose h).phase = (s.hose h).phase := by
    rw [modHose_hose, if_pos rfl]
  have closing (flowing : (s.hose h).phase.flowing = true ∨ (s.hose h).phase = .held) :
      Moves s ((s.modHose h fun x => { x with nozzle := v }).enterClosing h .nozzleHung) :=
    told.trans (enterClosing _ (by rwa [kept]))
  unfold State.nozzleEvent
  dsimp only
  cases phase : (s.hose h).phase with
  | authorized =>
    dsimp only
    split
    · exact told.trans (flowStart (kept.trans phase))
    · exact told
  | slowStart | fullFlow | slowStop | held =>
    dsimp only
    split
    · exact told
    · exact closing (by rw [phase]; decide)
  | closing =>
    dsimp only
    split
    · exact told
    · exact told.trans (endClosing (kept.trans phase))
  | off | idle | result => exact told

theorem headStatusEvent (code : Byte) : Moves s (s.headStatusEvent h code) := by
  have caused : Moves s (s.setCause .headFault) := of_hoses (by simp)
  unfold State.headStatusEvent
  dsimp only
  split
  · exact refl s
  · split
    · next flowing =>
      refine caused.trans (enterClosing _ ?_)
      simpa using flowing
    · exact caused

theorem holdRequest : Moves s (s.holdRequest h) := by
  unfold State.holdRequest
  split
  · next flowing => exact enterHeld _ flowing
  · exact of_hoses (by simp)

theorem stopRequest : Moves s (s.stopRequest h) := by
  unfold State.stopRequest
  cases phase : (s.hose h).phase with
  | authorized => exact cancel _ _ phase
  | slowStart | fullFlow | slowStop | held => exact enterClosing _ (by rw [phase]; decide)
  | off | idle | closing | result => exact of_hoses (by simp)

theorem postRequest : Moves s (s.postRequest h) := by
  unfold State.postRequest
  split
  · next phase => exact post phase
  · exact of_hoses (by simp)

theorem resumeRequest (level : Level) : Moves s (s.resumeRequest level h) := by
  unfold State.resumeRequest
  split
  · exact of_hoses (by simp)
  · next held =>
    have held : (s.hose h).phase = .held := by simpa using held
    split
    · exact of_hoses (by simp)
    · split
      · exact of_hoses (by simp)
      · split
        · split
          · exact enterClosing _ (.inr held)
          · split
            · exact resumeFlow held rfl
            · exact resumeFlow held rfl
        · exact refl s

theorem siteStopHose (h : HoseId) : Moves s (s.siteStopHose h) := by
  unfold State.siteStopHose
  split
  · next flowing => exact enterHeld _ flowing
  · split
    · next held => exact modHose (.marked _ _ held)
    · exact refl s

/-- Moves at hose after hose are moves. -/
theorem foldl {β : Type} {f : State → β → State} (each : ∀ u b, Moves u (f u b)) (l : List β) : Moves s (l.foldl f s) :=
  List.foldlRecOn l f (refl s) fun u m b _ => m.trans (each u b)

theorem stopSite : Moves s s.stopSite := by
  unfold State.stopSite
  split
  · exact refl s
  · have set : Moves s (s.setSiteStop true) := of_hoses rfl
    exact set.trans (foldl (fun _ h => siteStopHose h) (ids 6))

/-! ### Acceptance (R36, R39, R41) -/

theorem accept (c : Context) (idle : (s.hose h).phase = .idle) : Moves s (s.accept h c) := by
  have units : Moves s ((s.reserve.takeEntry h c).commit c.comp c.kind c.preset) := of_hoses (by simp)
  have still : (((s.reserve.takeEntry h c).commit c.comp c.kind c.preset).hose h).phase = .idle := by simpa using idle
  unfold State.accept
  dsimp only
  generalize (s.reserve.takeEntry h c).commit c.comp c.kind c.preset = u at units still
  have authorized : Moves s (u.modHose h fun x => { x.enter .authorized with
      ctx := some c, timers := { (x.enter .authorized).timers with window := x.period Profile.window } }) :=
    units.trans (modHose (.authorized _ c _ still))
  have granted := authorized.trans (of_hoses (t := ((u.modHose h fun x => { x.enter .authorized with
      ctx := some c, timers := { (x.enter .authorized).timers with window := x.period Profile.window } }).entryProgress
        h).cabOrdinary (grantedFrame h c.machine c.preset c.flags)) (by simp))
  split
  · refine granted.trans (flowStart ?_)
    rw [cabOrdinary_hose, entryProgress_hose, modHose_hose, if_pos rfl]
    rfl
  · exact granted

theorem spaceAndPreset (p : Profile) (st : Settings) (i : EntryId) (tag : TagId) (r : Option Nat)
    (idle : (s.hose h).phase = .idle) : Moves s (s.spaceAndPreset h p st i tag r) := by
  unfold State.spaceAndPreset
  split
  · exact of_hoses (by simp)
  · refine (of_hoses (t := s.refill i) (by simp)).trans ?_
    dsimp only
    repeat' split
    all_goals first
      | exact accept _ (by simpa using idle)
      | exact of_hoses (by simp)

theorem testsAndStrikes (p : Profile) (st : Settings) (i : EntryId) (tag : TagId) (r : Option Nat)
    (idle : (s.hose h).phase = .idle) : Moves s (s.testsAndStrikes h p st i tag r) := by
  unfold State.testsAndStrikes
  dsimp only
  split
  · exact of_hoses (by simp)
  · exact of_hoses (by simp)
  · split
    · exact of_hoses (by simp)
    · split
      · exact of_hoses (by simp)
      · have passed : Moves s ((s.applyStrike s.table.policy.pass i).setEntry i
            (((s.applyStrike s.table.policy.pass i).entry i).passed (s.applyStrike s.table.policy.pass i).table.rollCall r)) :=
          of_hoses (by simp)
        exact passed.trans (spaceAndPreset _ _ _ _ _ (by simpa using idle))

theorem lookupTag (p : Profile) (st : Settings) (tag : TagId) (r : Option Nat) (idle : (s.hose h).phase = .idle) :
    Moves s (s.lookupTag h p st tag r) := by
  have walked : Moves s (s.walkTag tag).2 := of_hoses (by simp)
  unfold State.lookupTag
  dsimp only
  split
  · exact of_hoses (by simp)
  · exact of_hoses (by simp)
  · split
    · exact of_hoses (by simp)
    · split
      · exact of_hoses (by simp)
      · split
        · exact of_hoses (by simp)
        · exact walked.trans (testsAndStrikes _ _ _ _ _ (by simpa using idle))

theorem tagReadEvent (tag : TagId) (hours : Word) (q : Byte) : Moves s (s.tagReadEvent h tag hours q) := by
  unfold State.tagReadEvent State.evaluateRead
  split
  · exact refl s
  · split
    · exact refl s
    · split
      · exact refl s
      · next idle =>
        split
        · exact of_hoses (by simp)
        · split
          · exact of_hoses (by simp)
          · exact lookupTag _ _ _ _ (by simpa using (not_or.mp idle).1)

theorem manualEvaluate (p : Profile) (z : CentreId) (c : ClassId) (m ref : Option Nat) (idle : (s.hose h).phase = .idle) :
    Moves s (s.manualEvaluate h p z c m ref) := by
  unfold State.manualEvaluate
  dsimp only
  repeat' split
  all_goals first
    | exact accept _ idle
    | exact of_hoses (by simp)

theorem receiveEvaluate (p : Profile) (v : Nat) (ref : Option Nat) (idle : (s.hose h).phase = .idle) :
    Moves s (s.receiveEvaluate h p v ref) := by
  unfold State.receiveEvaluate
  dsimp only
  repeat' split
  all_goals first
    | exact accept _ idle
    | exact of_hoses (by simp)

theorem manualRequest (n : Node) (hose z c p : Byte) (m : Half) (r : Word) :
    Moves s (s.manualRequest n hose z c p m r) := by
  unfold State.manualRequest
  dsimp only
  split
  · exact of_hoses (by simp)
  · split
    · split
      · next idle _ =>
        split
        · exact of_hoses (by simp)
        · exact manualEvaluate _ _ _ _ _ idle
      · exact of_hoses (by simp)
    · exact of_hoses (by simp)

theorem receiveRequest (n : Node) (hose : Byte) (v : Word) (p : Byte) (r : Word) :
    Moves s (s.receiveRequest n hose v p r) := by
  unfold State.receiveRequest
  dsimp only
  split
  · exact of_hoses (by simp)
  · split
    · split
      · exact of_hoses (by simp)
      · split
        · next idle _ =>
          split
          · exact of_hoses (by simp)
          · exact receiveEvaluate _ _ _ idle
        · exact of_hoses (by simp)
    · exact of_hoses (by simp)

/-! ### A probe's overfill stop (R95) -/

theorem overfillHose (c : CompId) (h : HoseId) (acc : Bool × State) : Moves acc.2 (State.overfillHose c h acc).2 := by
  unfold State.overfillHose
  dsimp only
  cases (acc.2.hose h).ctx with
  | none => simpa using refl acc.2
  | some k =>
    dsimp only
    split
    · next stops =>
      simp only [Bool.and_eq_true] at stops
      exact enterClosing _ (.inl stops.2)
    · exact refl _

theorem overfillCheck (c : CompId) (st : Settings) (reading : Nat) : Moves s (s.overfillCheck c st reading) := by
  have stopped (l : List HoseId) : ∀ acc : Bool × State,
      Moves acc.2 (l.foldl (fun acc h => State.overfillHose c h acc) acc).2 := by
    induction l with
    | nil => exact fun acc => refl _
    | cons h l ih => exact fun acc => (overfillHose c h acc).trans (ih _)
  unfold State.overfillCheck
  dsimp only
  split
  · exact refl s
  · split
    · exact (stopped (ids 6) (false, s)).trans (of_hoses (by simp))
    · exact stopped (ids 6) (false, s)

theorem probeEvent (c : CompId) (volume : Word) (status : Byte) : Moves s (s.probeEvent c volume status) := by
  unfold State.probeEvent
  split
  · exact of_hoses rfl
  · split
    · exact refl s
    · next st _ =>
      dsimp only
      have checked : Moves s ((s.setComp c { s.comp c with
          lastReading := some volume.toNat, readingTime := some s.resp.clock }).varianceCheck c st volume.toNat) :=
        of_hoses (by simp)
      exact checked.trans (overfillCheck ..)

/-! ### The commands that load a hose, and WIPE -/

theorem cmdLoadHoseProfile (hose : Byte) (f : ProfileForm) : Moves s (s.cmdLoadHoseProfile hose f).1 := by
  unfold State.cmdLoadHoseProfile
  split
  · exact refl s
  · split
    · exact refl s
    · next h _ rest =>
      split
      · split
        · exact refl s
        · split
          · exact refl s
          · exact (modHose (.profiled _ _ (by simpa using rest))).entryProgress
      · exact refl s

theorem cmdLoadCalibration (hose : Byte) (f : CalForm) : Moves s (s.cmdLoadCalibration hose f).1 := by
  unfold State.cmdLoadCalibration
  split
  · exact refl s
  · split
    · exact refl s
    · next h _ =>
      split
      · exact refl s
      · split
        · exact refl s
        · have loaded : Moves s (s.modHose h fun x => { x with cal := some (calOf f) }) := modHose (.told ..)
          exact loaded.trans (of_hoses rfl)

theorem cold (e : t.hoses = Vector.replicate 6 Hose.cold) : Moves s t := ⟨fun k => by
  rw [State.hose, State.hose, e, vget_replicate]
  exact .single (.cold _)⟩

/-- The counter clear reaches every hose (R172). -/
theorem cmdStatusCounterClear (x n : Byte) : Moves s (s.cmdStatusCounterClear x n).1 := by
  unfold State.cmdStatusCounterClear
  split
  · exact refl s
  · refine ⟨fun k => ?_⟩
    have cleared : s.clearAllCounters.hose k = { s.hose k with unbilled := 0 } := vget_vmap ..
    rw [cleared]
    exact .single (.told ..)

theorem cmdWipe : Moves s s.cmdWipe.1 := by
  unfold State.cmdWipe
  split
  · exact refl s
  · split
    · exact refl s
    · exact cold rfl

end Moves
end State
end Sys2Proof.Machine
end

section
/-! PROOF. Every command but a start-up moves the hoses, a warm start keeps them in order, and so does every step (R44, R47, R55,
R61, R69, R74, R77). -/

namespace Sys2Proof.Machine

namespace State

/-! ### The walk over the commands -/

theorem moves_received (s : State) : Received (Moves s) where
  good _ _ m := m.trans (.of_hoses (by simp))
  bad _ _ m := m.trans (.of_hoses (by simp))
  screened _ _ m := m.trans (.of_hoses (by simp))
  screen _ _ m := m.trans (.of_hoses (by simp))
  forward _ _ _ m := m.trans (.of_hoses (by simp))
  control _ _ _ m := m.trans (.of_hoses (by simp))
  ordinary _ _ m := m.trans (.of_hoses (by simp))

namespace Moves

variable {s : State} {a : Addr}

/-- A command moves the hoses as its owner does. -/
theorem command {code : Byte} {least : Level} {act : State → State × Reply} (owner : ∀ g, Moves g (act g).1) :
    Moves s (s.takeCommand a code least act) := (moves_received s).takeCommand (refl s) fun g m => m.trans (owner g)

theorem operator {act : State → State} (owner : ∀ g, Moves g (act g)) : Moves s (s.takeOperator a act) :=
  (moves_received s).takeOperator (refl s) fun g m => m.trans (owner g)

theorem request {kind : RequestKind} {hose : Byte} {act : HoseId → State → State} (owner : ∀ k g, Moves g (act k g)) :
    Moves s (s.takeHoseRequest a kind hose act) :=
  (moves_received s).takeHoseRequest (refl s) fun k g m => m.trans (owner k g)

theorem device {ι : Type} {owner : State → Node → Option ι} {formOk : Bool} {act : ι → State → State}
    (acts : ∀ i g, Moves g (act i g)) : Moves s (s.takeField a owner formOk act) :=
  (moves_received s).takeField (refl s) fun i g m => m.trans (acts i g)

end Moves
end State

open State

/-- The rows that can start the part up. -/
def Instr.starts : Instr → Bool
  | .frameSent _ | .startUp _ => true
  | _ => false

/-- Every other row moves the hoses. -/
theorem row_moves (j : Instr) (s : State) (raw : Instr.raw j = false) (other : Instr.starts j = false) :
    ∃ t, exec j s = .next t ∧ Moves s t := by
  cases j with
  | badFrame | screenDrop | carriageFrame | malformedRequest | malformedCommand => cases raw
  | frameSent | startUp => cases other
  | tagRead => exact ⟨_, rfl, .device fun _ _ => .tagReadEvent ..⟩
  | nozzle => exact ⟨_, rfl, .device fun _ _ => by split; exacts [.nozzleEvent _, .refl _]⟩
  | meterSample => exact ⟨_, rfl, .device fun _ _ => .sample ..⟩
  | headStatus => exact ⟨_, rfl, .device fun _ _ => .headStatusEvent _⟩
  | probe => exact ⟨_, rfl, .device fun _ _ => .probeEvent ..⟩
  | post => exact ⟨_, rfl, .request fun _ _ => .postRequest⟩
  | hold => exact ⟨_, rfl, .request fun _ _ => .holdRequest⟩
  | resume => exact ⟨_, rfl, .request fun _ _ => .resumeRequest _⟩
  | stop => exact ⟨_, rfl, .request fun _ _ => .stopRequest⟩
  | emergencyStop => exact ⟨_, rfl, .operator fun _ => by split; exacts [.of_hoses (by simp), .stopSite]⟩
  | manualAuth => exact ⟨_, rfl, .operator fun _ => .manualRequest ..⟩
  | receiveStart => exact ⟨_, rfl, .operator fun _ => .receiveRequest ..⟩
  | authWindowExpiry =>
    exact ⟨_, rfl, expiry_elim (.refl s) fun _ phase => .cancel _ _ (by simpa using phase)⟩
  | noFlowExpiry => exact ⟨_, rfl, expiry_elim (.refl s) fun _ flowing => .enterClosing _ (.inl flowing)⟩
  | meterSilenceExpiry =>
    refine ⟨_, rfl, expiry_elim (.refl s) fun _ phase => Moves.trans (.of_hoses (t := s.setCause .meterSilent) (by simp))
      (.enterClosing _ ?_)⟩
    simpa using phase
  | settleExpiry => exact ⟨_, rfl, expiry_elim (.refl s) fun _ phase => .endClosing (by simpa using phase)⟩
  | postDelayExpiry => exact ⟨_, rfl, expiry_elim (.refl s) fun _ phase => .post (by simpa using phase)⟩
  | holdLimitExpiry =>
    exact ⟨_, rfl, expiry_elim (.refl s) fun _ phase => .enterClosing _ (.inr (by simpa using phase))⟩
  | identify => exact ⟨_, rfl, .command fun _ => .refl _⟩
  | status a x n o =>
    refine ⟨_, rfl, ?_⟩
    split
    · exact .command fun _ => .cmdStatusCounterClear ..
    · exact .command fun _ => .of_eq (cmdStatus_fst_only ..) rfl
  | statusCounterClear => exact ⟨_, rfl, .command fun _ => .cmdStatusCounterClear ..⟩
  | setClock => exact ⟨_, rfl, .command fun _ => .of_eq (cmdSetClock_fst_only ..) rfl⟩
  | setPrivilege => exact ⟨_, rfl, .command fun _ => .of_eq (cmdSetPrivilege_fst_only ..) rfl⟩
  | setProtection => exact ⟨_, rfl, .command fun _ => .of_eq (cmdSetProtection_fst_only ..) rfl⟩
  | digest => exact ⟨_, rfl, .command fun _ => .of_eq (cmdDigest_fst_only ..) rfl⟩
  | digestDone => exact ⟨_, rfl, by split; exacts [.of_hoses (by simp), .refl s]⟩
  | queryEmpty => exact ⟨_, rfl, .command fun _ => .of_eq (cmdQueryEmpty_fst_only ..) rfl⟩
  | wipe => exact ⟨_, rfl, .command fun _ => .cmdWipe⟩
  | restart => exact ⟨_, rfl, .command fun _ => .refl _⟩
  | loadMachine => exact ⟨_, rfl, .command fun _ => .of_eq (cmdLoadMachine_fst_only ..) rfl⟩
  | deleteMachine => exact ⟨_, rfl, .command fun _ => .of_eq (cmdDeleteMachine_fst_only ..) rfl⟩
  | readMachineByTag => exact ⟨_, rfl, .command fun _ => .of_eq (cmdReadByTag_fst_only ..) rfl⟩
  | readMachineByIndex => exact ⟨_, rfl, .command fun _ => .of_eq (cmdReadByIndex_fst_only ..) rfl⟩
  | setAllowance => exact ⟨_, rfl, .command fun _ => .of_eq (cmdSetAllowance_fst_only ..) rfl⟩
  | clearStrikes => exact ⟨_, rfl, .command fun _ => .of_eq (cmdClearStrikes_fst_only ..) rfl⟩
  | openPeriod => exact ⟨_, rfl, .command fun _ => .of_eq (cmdOpenPeriod_fst_only _) rfl⟩
  | sweep => exact ⟨_, rfl, .command fun _ => .of_eq (cmdSweep_fst_only ..) rfl⟩
  | sweepDone =>
    refine ⟨_, rfl, ?_⟩
    split
    · next w _ _ =>
      have marked : Moves s (State.sweepMark (w, s)).2 := .of_eq (s.sweepMark_snd_only w) rfl
      exact marked.trans (.of_hoses (by simp))
    · exact .refl s
  | setStrikePolicy => exact ⟨_, rfl, .command fun _ => .of_eq (cmdSetStrikePolicy_fst_only ..) rfl⟩
  | rollCallStart => exact ⟨_, rfl, .command fun _ => .of_eq (cmdRollCallStart_fst_only _) rfl⟩
  | rollCallStop => exact ⟨_, rfl, .command fun _ => .of_eq (cmdRollCallStop_fst_only _) rfl⟩
  | rollCallRead => exact ⟨_, rfl, .command fun _ => .of_eq (cmdRollCallRead_fst_only ..) rfl⟩
  | loadHoseProfile => exact ⟨_, rfl, .command fun _ => .cmdLoadHoseProfile ..⟩
  | siteStop => exact ⟨_, rfl, .command fun _ => .stopSite⟩
  | siteResume => exact ⟨_, rfl, .command fun _ => .of_eq (cmdSiteResume_fst_only _) rfl⟩
  | loadCalibration => exact ⟨_, rfl, .command fun _ => .cmdLoadCalibration ..⟩
  | loadGrade => exact ⟨_, rfl, .command fun _ => .of_eq (cmdLoadGrade_fst_only ..) rfl⟩
  | loadCompartment => exact ⟨_, rfl, .command fun _ => .of_eq (cmdLoadCompartment_fst_only ..) rfl⟩
  | ackRestock => exact ⟨_, rfl, .command fun _ => .of_eq (cmdAckRestock_fst_only ..) rfl⟩
  | setStock => exact ⟨_, rfl, .command fun _ => .of_eq (cmdSetStock_fst_only ..) rfl⟩
  | reconcile => exact ⟨_, rfl, .command fun _ => .of_eq (cmdReconcile_fst_only ..) rfl⟩
  | loadTariff => exact ⟨_, rfl, .command fun _ => .of_eq (cmdLoadTariff_fst_only ..) rfl⟩
  | loadClassRate => exact ⟨_, rfl, .command fun _ => .of_eq (cmdLoadClassRate_fst_only ..) rfl⟩
  | readLog => exact ⟨_, rfl, .command fun _ => .of_eq (cmdReadLog_fst_only ..) rfl⟩
  | releaseLog => exact ⟨_, rfl, .command fun _ => .of_eq (cmdReleaseLog_fst_only ..) rfl⟩
  | readCentres => exact ⟨_, rfl, .command fun _ => .of_eq (cmdReadCentres_fst_only ..) rfl⟩
  | clearCentres => exact ⟨_, rfl, .command fun _ => .of_eq (cmdClearCentres_fst_only ..) rfl⟩
  | rearm => exact ⟨_, rfl, .command fun _ => .of_eq (cmdRearm_fst_only ..) rfl⟩
  | loadFrameClass => exact ⟨_, rfl, .command fun _ => .of_eq (cmdLoadFrameClass_fst_only ..) rfl⟩
  | siteClockSecond => exact ⟨_, rfl, by split; exacts [.of_hoses rfl, .refl s]⟩
  | mainSupplyLoss => exact ⟨_, rfl, by split; exacts [.of_hoses rfl, .refl s]⟩
  | retentionSupplyFailure => exact ⟨_, rfl, by split; exacts [.refl s, .of_hoses rfl]⟩
  | storeValueLost entry change => exact ⟨_, rfl, by cases entry <;> exact .of_hoses rfl⟩

namespace State

variable {s t : State} {h : HoseId} {straps : Node}

/-! ### Start-up (R69, R180) -/

/-- A warm start leaves every hose's phase in agreement, no hose flowing and no valve command remembered (the table of R69). -/
theorem warmed_phaseOk (ok : (s.hose h).PhaseOk) :
    (s.warmed h).PhaseOk ∧ (s.warmed h).phase.flowing = false ∧ (s.warmed h).lastValve = none := by
  obtain ⟨profile, ctx, -, -⟩ := ok
  unfold warmed
  cases phase : (s.hose h).phase with
  | authorized =>
    rw [phase] at profile
    exact ⟨⟨profile, rfl, rfl, rfl⟩, rfl, rfl⟩
  | slowStart | fullFlow | slowStop | held | closing =>
    rw [phase] at profile ctx
    exact ⟨⟨profile, (Option.isSome_map ..).trans ctx, rfl, rfl⟩, rfl, rfl⟩
  | result | off | idle =>
    refine ⟨⟨profile, ctx, ?_, ?_⟩, ?_, rfl⟩ <;> simp [warmItems, phase] <;> rfl

theorem warmStart_valvesOk (ok : s.HosesOk) : (s.warmStart straps).ValvesOk := by
  have both (k : HoseId) : ((s.warmStart straps).hose k).PhaseOk ∧ ((s.warmStart straps).hose k).ValveOk := by
    obtain ⟨phase, shut, none⟩ := warmed_phaseOk (ok k)
    rw [warmStart_hose ok]
    split
    · exact ⟨phase, by rw [Hose.ValveOk, shut, none]; rfl⟩
    · exact ⟨phase, shut.symm⟩
  exact ⟨fun k => (both k).1, fun k => (both k).2⟩

/-- Residues stay remainders where one hose is written with such. -/
theorem residuesOk_of_one {x : Hose} (ok : s.ResiduesOk) (residues : x.ResiduesOk)
    (e : ∀ k, t.hose k = if k = h then x else s.hose k) : t.ResiduesOk := fun k => by
  rw [e]
  split
  · exact residues
  · exact ok k

theorem warmHose_residuesOk (ok : s.ResiduesOk) : (s.warmHose h).ResiduesOk := by
  have items : (s.modHose h warmItems).ResiduesOk := residuesOk_of_one ok Hose.zero_residuesOk fun k => modHose_hose ..
  have written : (s.modHose h warmItems).hose h = warmItems (s.hose h) := by rw [modHose_hose, if_pos rfl]
  unfold warmHose
  dsimp only
  split
  · next phase => exact (Moves.dropTransaction (.inl (by rw [written]; exact phase))).residuesOk items
  · split
    · next executing =>
      have cut : ((s.modHose h warmItems).modHose h powerLost).ResiduesOk :=
        residuesOk_of_one items (by rw [written]; exact Hose.zero_residuesOk) fun k => modHose_hose ..
      have cutHose : ((s.modHose h warmItems).modHose h powerLost).hose h = powerLost (warmItems (s.hose h)) := by
        rw [modHose_hose, if_pos rfl, written]
      refine (Moves.resultEntry false ?_ fun _ => ?_).residuesOk cut <;> rw [cutHose]
      · exact executing
      · rfl
    · split
      · exact residuesOk_of_one items (by rw [written]; exact Hose.zero_residuesOk) fun k => modHose_hose ..
      · exact items

theorem warmFrames_residuesOk (ok : s.ResiduesOk) : (s.warmFrames h).ResiduesOk := by
  unfold warmFrames
  split
  · exact ok
  · refine residuesOk_of_one (h := h) ok (Hose.commanded_residuesOk .close (ok h)) fun k => ?_
    rw [entryProgress_hose, queueValve_hose]

theorem warmStart_residuesOk (ok : s.ResiduesOk) : (s.warmStart straps).ResiduesOk := by
  have warmed : ((ids 6).foldl (fun u h => u.warmHose h) (s.warmResp straps).warmLink).ResiduesOk :=
    List.foldlRecOn (ids 6) _ (motive := ResiduesOk) ok fun _ ok _ _ => warmHose_residuesOk ok
  have told : ((ids 6).foldl (fun u h => u.warmFrames h)
      ((ids 6).foldl (fun u h => u.warmHose h) (s.warmResp straps).warmLink)).ResiduesOk :=
    List.foldlRecOn (ids 6) _ (motive := ResiduesOk) warmed fun _ ok _ _ => warmFrames_residuesOk ok
  unfold warmStart
  exact (Moves.of_hoses (by simp)).residuesOk told

/-- An invariant of the hoses that moves and a warm start keep outlives a start-up. -/
theorem startUp_keeps {I : State → Prop} (moves : ∀ {s t}, Moves s t → I s → I t)
    (warm : ∀ {s straps}, I s → I (s.warmStart straps)) (h : I s) : I (s.startUp straps) := by
  unfold startUp
  split
  · exact warm h
  · exact moves (.cold (by simp [coldStart, coldItems])) h

end State

open State

/-- Every step keeps an invariant of the hoses that moves and a warm start keep. -/
theorem step_keeps_hoses {I : State → Prop} (moves : ∀ {s t}, Moves s t → I s → I t)
    (warm : ∀ {s straps}, I s → I (s.warmStart straps)) {s t : State} (h : I s) (e : step s = .next t) : I t := by
  have received : Received I :=
    { good := fun s p => moves ((moves_received s).good s p (.refl s))
      bad := fun s p => moves ((moves_received s).bad s p (.refl s))
      screened := fun s p => moves ((moves_received s).screened s p (.refl s))
      screen := fun s x => moves ((moves_received s).screen s x (.refl s))
      forward := fun s p f => moves ((moves_received s).forward s p f (.refl s))
      control := fun s k f => moves ((moves_received s).control s k f (.refl s))
      ordinary := fun s f => moves ((moves_received s).ordinary s f (.refl s)) }
  unfold step at e
  split at e
  · obtain rfl := Host.Outcome.next.inj e
    have still : Moves s s.sweepTick := .of_eq s.sweepTick_only rfl
    exact moves still h
  · next rest _ =>
    have taken : Moves s (s.setPending rest) := .of_hoses rfl
    refine received.exec (fun j u raw hu v ev => ?_) _ (s.setPending rest) _ (moves taken h) e
    cases starts : Instr.starts j with
    | false =>
      obtain ⟨w, ew, m⟩ := row_moves j u raw starts
      obtain rfl := Host.Outcome.next.inj (ew.symm.trans ev)
      exact moves m hu
    | true =>
      cases j with
      | startUp straps =>
        obtain rfl := Host.Outcome.next.inj ev
        exact startUp_keeps moves warm hu
      | frameSent p =>
        obtain rfl := Host.Outcome.next.inj ev
        split
        · split
          · exact startUp_keeps moves warm hu
          · exact moves (.of_hoses (by cases p <;> rfl)) hu
        · exact hu
      | _ => cases starts

/-- Settles O55: every row but a start-up only moves hoses, every move keeps the three, and so does a warm start. -/
theorem stepKeepsTheHoses : Obligations.StepKeepsTheHoses := by
  refine ⟨fun s t h e => ?_, fun s t h e => ?_, fun s t h e => ?_⟩
  · exact step_keeps_hoses Moves.hosesOk (fun ok => (warmStart_valvesOk ok).1) h e
  · exact step_keeps_hoses Moves.valvesOk (fun ok => warmStart_valvesOk ok.1) h e
  · exact step_keeps_hoses Moves.residuesOk warmStart_residuesOk h e

end Sys2Proof.Machine
end

section
/-! PROOF. What is not due changes nothing (R18, R47, R155, R173, R179), and the operator requests that are refused (R60, R164,
R182). -/

namespace Sys2Proof.Machine

namespace State

variable {s : State} {a : Addr} {h : HoseId}

/-! ### With the main supply off nothing arrives (log entry 8) -/

theorem takeMgmt_off (off : s.power.main = false) (act : State → State) : s.takeMgmt a act = s := by simp [takeMgmt, off]

theorem takeCommand_off (off : s.power.main = false) {code : Byte} {least : Level} {act : State → State × Reply} :
    s.takeCommand a code least act = s := takeMgmt_off off _

theorem takeOperator_off (off : s.power.main = false) (act : State → State) : s.takeOperator a act = s := by
  simp [takeOperator, off]

theorem takeField_off (off : s.power.main = false) {ι : Type} {owner : State → Node → Option ι} {formOk : Bool}
    {act : ι → State → State} : s.takeField a owner formOk act = s := by simp [takeField, off]

theorem dropFrame_off (off : s.power.main = false) (p : Port) (f : Frame) : s.dropFrame p f = s := by simp [dropFrame, off]

theorem takeCarriage_off (off : s.power.main = false) (p : Port) (f : Frame) : s.takeCarriage p f = s := by
  simp [takeCarriage, off]

theorem refuseCommand_off (off : s.power.main = false) (payload : List Byte) : s.refuseCommand a payload = s := by
  unfold refuseCommand
  split
  · exact takeCommand_off off
  · exact takeMgmt_off off _

/-- An expiry that is not due: the supply off, the timer stopped, or a phase that does not list it (R47). -/
theorem expiry_notDue {timer : Timers → Option Nat} {inPhase : Phase → Bool} {act : State → State}
    (not : s.power.main = false ∨ timer (s.hose h).timers = none ∨ inPhase (s.hose h).phase = false) :
    s.expiry h timer inPhase act = s := by
  unfold expiry
  rcases not with off | stopped | unlisted
  · simp [off]
  · simp [stopped]
  · simp [unlisted]

end State

open State

/-- The rows that are frames of their own class, with the supply off. -/
theorem exec_ownFrame_off {s : State} (off : s.power.main = false) (j : Instr) (own : Instr.ownFrame j = true) :
    exec j s = .next s := by
  cases j with
  | tagRead | nozzle | meterSample | headStatus | probe => exact congrArg Host.Outcome.next (takeField_off off)
  | post | hold | resume | stop | emergencyStop | manualAuth | receiveStart =>
    exact congrArg Host.Outcome.next (takeOperator_off off _)
  | badFrame | screenDrop | carriageFrame | malformedRequest | malformedCommand | authWindowExpiry | noFlowExpiry
  | meterSilenceExpiry | settleExpiry | postDelayExpiry | holdLimitExpiry | frameSent | startUp | digestDone | sweepDone
  | siteClockSecond | mainSupplyLoss | retentionSupplyFailure | storeValueLost => cases own
  | status a x n o =>
    show Host.Outcome.next _ = _
    split <;> exact congrArg Host.Outcome.next (takeCommand_off off)
  | _ => exact congrArg Host.Outcome.next (takeCommand_off off)

theorem handOff_off {s : State} (off : s.power.main = false) (i : Instr) : handOff i s = .next s := by
  have own := exec_ownFrame_off off i
  cases i with
  | screenDrop p f => exact congrArg Host.Outcome.next (dropFrame_off off p f)
  | carriageFrame p f => exact congrArg Host.Outcome.next (takeCarriage_off off p f)
  | malformedRequest => exact congrArg Host.Outcome.next (takeOperator_off off _)
  | malformedCommand a payload => exact congrArg Host.Outcome.next (refuseCommand_off off payload)
  | badFrame | authWindowExpiry | noFlowExpiry | meterSilenceExpiry | settleExpiry | postDelayExpiry | holdLimitExpiry
  | frameSent | startUp | digestDone | sweepDone | siteClockSecond | mainSupplyLoss | retentionSupplyFailure
  | storeValueLost => rfl
  | _ => exact own rfl

theorem receiveFrame_off {s : State} (off : s.power.main = false) (p : Port) (f : Frame) : receiveFrame p f s = .next s := by
  unfold receiveFrame
  split
  · exact handOff_off off _
  · simp [off]

theorem execBadFrame_off {s : State} (off : s.power.main = false) (p : Port) (bytes : List Byte) :
    execBadFrame p bytes s = .next s := by
  unfold execBadFrame
  split
  · simp [off]
  · exact receiveFrame_off off p _

/-! ### Ends of what is not under way (log entry 6) -/

theorem execSweepDone_none {s : State}
    (none : s.power.main = false ∨ ∀ node work, s.resp.inFlight ≠ some (.sweep node work)) : execSweepDone s = .next s := by
  unfold execSweepDone
  split
  · next on flight =>
    rcases none with off | none
    · rw [off] at on
      cases on
    · exact absurd flight (none _ _)
  · rfl

theorem execDigestDone_none {s : State}
    (none : s.power.main = false ∨ ∀ node x, s.resp.inFlight ≠ some (.digest node x)) : execDigestDone s = .next s := by
  unfold execDigestDone
  split
  · next on flight =>
    rcases none with off | none
    · rw [off] at on
      cases on
    · exact absurd flight (none _ _)
  · rfl

theorem execFrameSent_none {s : State} {p : Port} (none : s.power.main = false ∨ (s.port p).sending = none) :
    execFrameSent p s = .next s := by
  unfold execFrameSent
  split
  · next on sending =>
    rcases none with off | free
    · rw [off] at on
      cases on
    · rw [free] at sending
      cases sending
  · rfl

/-- With the main supply off only a start-up, a failure of the retention supply and a lost value do anything. -/
theorem exec_off {s : State} (off : s.power.main = false) (i : Instr) (start : ∀ n, i ≠ .startUp n)
    (retention : i ≠ .retentionSupplyFailure) (loss : ∀ l d, i ≠ .storeValueLost l d) : exec i s = .next s := by
  have own := exec_ownFrame_off off i
  cases i with
  | startUp n => exact absurd rfl (start n)
  | retentionSupplyFailure => exact absurd rfl retention
  | storeValueLost l d => exact absurd rfl (loss l d)
  | badFrame p bytes => exact execBadFrame_off off p bytes
  | screenDrop | carriageFrame | malformedRequest | malformedCommand => exact receiveFrame_off off _ _
  | authWindowExpiry | noFlowExpiry | meterSilenceExpiry | settleExpiry | postDelayExpiry | holdLimitExpiry =>
    exact congrArg Host.Outcome.next (expiry_notDue (.inl off))
  | frameSent => exact execFrameSent_none (.inl off)
  | sweepDone => exact execSweepDone_none (.inl off)
  | digestDone => exact execDigestDone_none (.inl off)
  | siteClockSecond | mainSupplyLoss => exact congrArg Host.Outcome.next (if_neg (by simp [off]))
  | _ => exact own rfl

/-- Settles O3: every wrapper asks for the supply, every expiry for its timer and phase, every end for what it ends. -/
theorem nothingHappensThatIsNotDue : Obligations.NothingHappensThatIsNotDue := by
  intro s
  have notDue {h : HoseId} {timer : Timers → Option Nat} {inPhase : Phase → Bool} {act : State → State}
      (not : timer (s.hose h).timers = none ∨ inPhase (s.hose h).phase = false) :
      (.next (s.expiry h timer inPhase act) : Host.Outcome State Fault Refusal) = .next s :=
    congrArg Host.Outcome.next (expiry_notDue (.inr not))
  refine ⟨fun off i => exec_off off i, fun h => ⟨?_, ?_, ?_, ?_, ?_, ?_⟩, fun none => execSweepDone_none (.inr none),
    fun none => execDigestDone_none (.inr none), fun p free => execFrameSent_none (.inr free),
    fun on => congrArg Host.Outcome.next (if_pos on)⟩ <;> intro not <;> refine notDue (not.imp_right fun phase => ?_)
  case refine_2 => exact phase
  case refine_3 => simpa using phase
  all_goals exact beq_false_of_ne phase

namespace State

variable {s : State} {a : Addr} {hose : Byte} {kind : RequestKind} {act : HoseId → State → State}

/-! ### Operator requests refused (R60, R164, R182) -/

/-- A request that names a hose, from a sender below OPERATOR. -/
theorem takeHoseRequest_privilege (on : s.power.main = true) (src : 2 ≤ a.src.val) (dest : a.dest.val < 2)
    (low : (s.levelOfNode a.src).code < Level.operator.code) :
    s.takeHoseRequest a kind hose act = (s.countGood .cab).requestRefused (some hose) .privilege (some kind) := by
  rw [takeHoseRequest, takeOperator_reached on src dest]
  exact if_pos low

/-- A request that names no hose of the part. -/
theorem takeHoseRequest_range (ready : s.RequestReady a .operator) (none : 6 ≤ hose.toNat) :
    s.takeHoseRequest a kind hose act = (s.countGood .cab).requestRefused (some hose) .range (some kind) := by
  obtain ⟨on, src, dest, level⟩ := ready
  rw [takeHoseRequest, takeOperator_reached on src dest]
  rw [countGood_levelOfNode, if_neg (Nat.not_lt.mpr level), finOf_eq_none.mpr none]

/-- STOP in a phase it does not act in. -/
theorem stopRequest_wrongPhase {h : HoseId} (phase : (s.hose h).phase.active = false ∨ (s.hose h).phase = .closing) :
    s.stopRequest h = s.wrongPhase h .stop := by
  unfold stopRequest
  cases e : (s.hose h).phase with
  | off | idle | closing | result => rfl
  | _ => rw [e] at phase; rcases phase with phase | phase <;> cases phase

end State

/-- The byte that names a hose. -/
theorem hoseByte_eq {hose : Byte} {h : HoseId} (e : hose.toNat = h.val) : hose = BitVec.ofNat 8 h.val := by
  rw [← e, BitVec.ofNat_toNat, BitVec.setWidth_eq]

/-- An OPERATOR frame is read as its request. -/
theorem frameInstr_operator (a : Addr) (payload : List Byte) :
    frameInstr .cab ⟨a.dest, a.src, 6, payload⟩ = requestInstr a payload := rfl

/-- A well-formed MALFORMED_REQUEST reaches the refusal. -/
theorem exec_malformedRequest {s : State} {a : Addr} {payload : List Byte}
    (wf : Instr.wf (.malformedRequest a payload) = true) :
    exec (.malformedRequest a payload) s = .next (s.refuseRequest a) := by
  simp only [Instr.wf, Bool.and_eq_true, beq_iff_eq] at wf
  obtain ⟨short, reads⟩ := wf
  show receiveFrame .cab ⟨a.dest, a.src, 6, payload⟩ s = _
  rw [receiveFrame, if_pos short, frameInstr_operator, reads]
  rfl

/-- Settles O13: the level, then the hose byte, then the phase. -/
theorem operatorRequestsAreRefused : Obligations.OperatorRequestsAreRefused := by
  intro a s on src dest g
  have reached (act : State → State) : (.next (s.takeOperator a act) : Host.Outcome State Fault Refusal) = .next (act g) :=
    congrArg Host.Outcome.next (takeOperator_reached on src dest)
  refine ⟨fun payload wf => ?_, fun low => ⟨fun hose => ⟨?_, ?_, ?_, ?_⟩, ?_⟩, fun low hose z c pr m ref vol => ⟨?_, ?_⟩,
    fun level hose => ⟨fun none => ⟨?_, ?_, ?_, ?_⟩, fun h same => ⟨fun phase => ?_, fun phase => ?_, fun phase => ?_,
      fun phase => ?_⟩⟩⟩
  · exact (exec_malformedRequest wf).trans (reached _)
  · exact congrArg Host.Outcome.next (takeHoseRequest_privilege on src dest low)
  · exact congrArg Host.Outcome.next (takeHoseRequest_privilege on src dest low)
  · exact congrArg Host.Outcome.next (takeHoseRequest_privilege on src dest low)
  · exact congrArg Host.Outcome.next (takeHoseRequest_privilege on src dest low)
  · exact (reached _).trans (congrArg Host.Outcome.next (if_pos low))
  · exact (reached _).trans (congrArg Host.Outcome.next (if_pos low))
  · exact (reached _).trans (congrArg Host.Outcome.next (if_pos low))
  · exact congrArg Host.Outcome.next (takeHoseRequest_range ⟨on, src, dest, level⟩ none)
  · exact congrArg Host.Outcome.next (takeHoseRequest_range ⟨on, src, dest, level⟩ none)
  · exact congrArg Host.Outcome.next (takeHoseRequest_range ⟨on, src, dest, level⟩ none)
  · exact congrArg Host.Outcome.next (takeHoseRequest_range ⟨on, src, dest, level⟩ none)
  all_goals
    obtain rfl := hoseByte_eq same
    refine congrArg Host.Outcome.next ((takeHoseRequest_ready ⟨on, src, dest, level⟩ same).trans ?_)
  · exact if_neg phase
  · exact if_neg (Bool.eq_false_iff.mp phase)
  · exact if_pos phase
  · exact stopRequest_wrongPhase (s := g) phase

end Sys2Proof.Machine
end

section
/-! PROOF. Flow and its ends (chapter 3): nozzle, head status, expiries and STOP (R48, R49, R54 to R57, R60), HOLD and RESUME (R61,
R62), and posting (R66, R116, R119, R126). -/

namespace Sys2Proof.Machine

namespace State

variable {s : State} {a : Addr} {h : HoseId} {p : Profile} {c : Context} {v : Nozzle}

/-! ### A NOZZLE frame at its hose (R48) -/

theorem nozzleEvent_starts (phase : (s.hose h).phase = .authorized) (lifted : v.isLifted = true) (runs : s.siteStop = false) :
    s.nozzleEvent h v = (s.setHose h { s.hose h with nozzle := v }).flowStart h := by
  unfold nozzleEvent
  rw [phase]
  exact if_pos (by rw [lifted, runs]; rfl)

theorem nozzleEvent_ends (phase : (s.hose h).phase.flowing = true ∨ (s.hose h).phase = .held) (down : v.isLifted = false) :
    s.nozzleEvent h v = (s.setHose h { s.hose h with nozzle := v }).enterClosing h .nozzleHung := by
  unfold nozzleEvent
  cases e : (s.hose h).phase with
  | slowStart | fullFlow | slowStop | held => exact if_neg (by rw [down]; exact Bool.false_ne_true)
  | _ => rw [e] at phase; rcases phase with phase | phase <;> cases phase

/-- Everywhere else, CLOSING with a hang apart, it sets the nozzle state alone. -/
theorem nozzleEvent_sets (phase : (s.hose h).phase = .off ∨ (s.hose h).phase = .idle ∨ (s.hose h).phase = .result
      ∨ (v.isLifted = true ∧ (s.hose h).phase ≠ .authorized)
      ∨ ((s.hose h).phase = .authorized ∧ (v.isLifted = false ∨ s.siteStop = true))) :
    s.nozzleEvent h v = s.setHose h { s.hose h with nozzle := v } := by
  unfold nozzleEvent
  cases e : (s.hose h).phase with
  | off | idle | result => rfl
  | authorized =>
    refine if_neg ?_
    rw [e] at phase
    rcases phase with phase | phase | phase | ⟨-, phase⟩ | ⟨-, down | stop⟩
    case inl | inr.inl | inr.inr.inl => cases phase
    case inr.inr.inr.inl => exact absurd rfl phase
    · simp [down]
    · simp [stop]
  | slowStart | fullFlow | slowStop | held | closing =>
    refine if_pos ?_
    rw [e] at phase
    rcases phase with phase | phase | phase | ⟨lifted, -⟩ | ⟨phase, -⟩
    case inr.inr.inr.inl => exact lifted
    all_goals cases phase

/-- The frame reaches its hose. -/
theorem exec_nozzle {value : Byte} (ready : s.HeadReady a h) (code : value.toNat = v.code) :
    exec (.nozzle a value) s = .next ((s.countGood .field).nozzleEvent h v) := by
  show execNozzle a value s = _
  unfold execNozzle
  rw [nozzleOf_code code]
  exact congrArg Host.Outcome.next (takeField_head ready)

theorem isLifted_iff : v.isLifted = true ↔ v = .lifted ∨ v = .connected := by cases v <;> simp [Nozzle.isLifted]

theorem isLifted_eq_false_iff : v.isLifted = false ↔ v = .hung ∨ v = .disconnected := by cases v <;> simp [Nozzle.isLifted]

end State

open State

/-- Settles O29: the event at its hose by phase and nozzle, each outcome as its operation leaves it. -/
theorem nozzleStartsAndEndsFlow : Obligations.NozzleStartsAndEndsFlow := by
  intro a value v s h ready code g set
  have event : exec (.nozzle a value) s = .next (g.nozzleEvent h v) := exec_nozzle ready code
  refine ⟨fun p c hp hc => ⟨fun phase lifted runs => ?_, fun phase down => ?_⟩, fun phase => ?_⟩
  · rw [event, nozzleEvent_starts (s := g) phase (isLifted_iff.mpr lifted) runs,
      flowStart_eq (p := p) (c := c) (by rw [setHose_hose_self]; exact hp) (by rw [setHose_hose_self]; exact hc),
      setHose_hose_self, setHose_setHose]
    rfl
  · rw [event, nozzleEvent_ends (s := g) phase (isLifted_eq_false_iff.mpr down)]
    exact congrArg Host.Outcome.next
      (enterClosing_eq _ (by rw [setHose_hose_self]; exact hp) (by rw [setHose_hose_self]; exact hc))
  · rw [event, nozzleEvent_sets (s := g)]
    · rfl
    · simp only [isLifted_iff, isLifted_eq_false_iff, or_assoc]
      exact phase

namespace State

variable {s : State} {a : Addr} {h : HoseId} {p : Profile} {c : Context}

/-! ### Expiries, head faults and STOP (R54, R56, R57, R60) -/

theorem headStatusEvent_ok : s.headStatusEvent h 0#8 = s := if_pos rfl

theorem headStatusEvent_ends {code : Byte} (fault : code ≠ 0#8)
    (phase : (s.hose h).phase.flowing = true ∨ (s.hose h).phase = .held) :
    s.headStatusEvent h code = (s.setCause .headFault).enterClosing h .headFault := by
  unfold headStatusEvent
  rw [if_neg fault]
  exact if_pos (by simpa using phase)

theorem headStatusEvent_sets {code : Byte} (fault : code ≠ 0#8)
    (phase : ¬ ((s.hose h).phase.flowing = true ∨ (s.hose h).phase = .held)) :
    s.headStatusEvent h code = s.setCause .headFault := by
  unfold headStatusEvent
  rw [if_neg fault]
  exact if_neg (by simpa using phase)

theorem stopRequest_ends (phase : (s.hose h).phase.flowing = true ∨ (s.hose h).phase = .held) :
    s.stopRequest h = s.enterClosing h .operatorStop := by
  unfold stopRequest
  cases e : (s.hose h).phase with
  | slowStart | fullFlow | slowStop | held => rfl
  | _ => rw [e] at phase; rcases phase with phase | phase <;> cases phase

theorem exec_headStatus {code : Byte} (ready : s.HeadReady a h) :
    exec (.headStatus a code) s = .next ((s.countGood .field).headStatusEvent h code) :=
  congrArg Host.Outcome.next (takeField_head ready)

theorem hose_toNat (h : HoseId) : (BitVec.ofNat 8 h.val).toNat = h.val := by
  rw [BitVec.toNat_ofNat]
  exact Nat.mod_eq_of_lt (h.isLt.trans (by decide))

end State

/-- Settles O30: each event is due or reaches its hose, and ends its flow. -/
theorem flowEndsInClosing : Obligations.FlowEndsInClosing := by
  intro s h on flowing held
  refine ⟨fun p c hp hc => ⟨fun phase runs => ?_, fun phase runs => ?_, fun phase runs => ?_,
    fun phase => ⟨fun a code ready fault => ?_, fun a ready => ?_⟩⟩, fun a code ready => ⟨?_, fun fault flow hold => ?_⟩⟩
  · exact congrArg Host.Outcome.next ((expiry_due on runs phase).trans (enterClosing_eq _ hp hc))
  · refine congrArg Host.Outcome.next ((expiry_due on runs ?_).trans (enterClosing_eq _ ?_ ?_))
    · simpa using phase
    · rwa [setCause_hose]
    · rwa [setCause_hose]
  · refine congrArg Host.Outcome.next ((expiry_due on runs ?_).trans (enterClosing_eq _ hp hc))
    exact beq_iff_eq.mpr phase
  · rw [exec_headStatus ready, headStatusEvent_ends (s := s.countGood .field) fault phase, enterClosing_eq]
    · rwa [setCause_hose]
    · rwa [setCause_hose]
  · refine congrArg Host.Outcome.next ((takeHoseRequest_ready ready (hose_toNat h)).trans ?_)
    exact (stopRequest_ends (s := s.countGood .cab) phase).trans (enterClosing_eq _ hp hc)
  · rintro rfl
    exact exec_headStatus ready
  · rw [exec_headStatus ready, headStatusEvent_sets (s := s.countGood .field) fault]
    exact not_or.mpr ⟨flow, hold⟩

end Sys2Proof.Machine
end

section
/-! PROOF. HOLD and RESUME (R60 to R62), and posting (R66, R116, R119, R126). -/

namespace Sys2Proof.Machine

namespace State

variable {s : State} {a : Addr} {h : HoseId} {p : Profile} {c : Context} {level : Level}

/-! ### RESUME at its hose, in the order of its tests (R60, R62) -/

theorem resumeRequest_wrongPhase (phase : (s.hose h).phase ≠ .held) : s.resumeRequest level h = s.wrongPhase h .resume :=
  if_pos phase

theorem resumeRequest_siteStopped (phase : (s.hose h).phase = .held) (stop : s.siteStop = true) :
    s.resumeRequest level h = s.requestRefused (some (BitVec.ofNat 8 h.val)) .siteStopped (some .resume) := by
  unfold resumeRequest
  rw [if_neg (not_not.mpr phase), if_pos stop]

theorem resumeRequest_privilege (phase : (s.hose h).phase = .held) (runs : s.siteStop = false)
    (site : (s.hose h).mark = some .site) (low : level.code < Level.supervisor.code) :
    s.resumeRequest level h = s.requestRefused (some (BitVec.ofNat 8 h.val)) .privilege (some .resume) := by
  unfold resumeRequest
  rw [if_neg (not_not.mpr phase), runs, if_neg Bool.false_ne_true, if_pos ⟨site, low⟩]

/-- Past its refusals it is the remaining volume that decides. -/
theorem resumeRequest_resumes (phase : (s.hose h).phase = .held) (runs : s.siteStop = false)
    (may : (s.hose h).mark ≠ some .site ∨ Level.supervisor.code ≤ level.code)
    (hp : (s.hose h).profile = some p) (hc : (s.hose h).ctx = some c) :
    s.resumeRequest level h = if c.preset ≤ c.net then s.closedAt h p c .presetReached
      else if c.preset ≤ c.net + p.slowStop then s.resumedAt h p c .slowStop else s.resumedAt h p c .slowStart := by
  have allowed : ¬ ((s.hose h).mark = some .site ∧ level.code < Level.supervisor.code) := by
    rw [not_and_or, Nat.not_lt]
    exact may
  unfold resumeRequest
  rw [if_neg (not_not.mpr phase), runs, if_neg Bool.false_ne_true, if_neg allowed, hp, hc]
  dsimp only
  rw [enterClosing_eq _ hp hc, resumeFlow_eq .slowStop rfl hp hc, resumeFlow_eq .slowStart rfl hp hc]

end State

open State

/-- Settles O31: both requests reach their hose, where RESUME's tests come in their order. -/
theorem holdAndResume : Obligations.HoldAndResume := by
  intro a s h p c ready hp hc g hose refused
  have held : exec (.hold a hose) s = .next (g.holdRequest h) :=
    congrArg Host.Outcome.next (takeHoseRequest_ready ready (hose_toNat h))
  have resumed : exec (.resume a hose) s = .next (g.resumeRequest (s.levelOfNode a.src) h) :=
    congrArg Host.Outcome.next (takeHoseRequest_ready ready (hose_toNat h))
  rw [held, resumed]
  refine ⟨fun flows => ?_, fun phase => ?_, fun phase => ⟨fun stop => ?_, fun runs site low => ?_, fun runs may => ?_⟩⟩
  · exact congrArg Host.Outcome.next ((if_pos flows).trans (enterHeld_eq _ hp hc))
  · exact congrArg Host.Outcome.next (resumeRequest_wrongPhase phase)
  · exact congrArg Host.Outcome.next (resumeRequest_siteStopped phase stop)
  · exact congrArg Host.Outcome.next (resumeRequest_privilege phase runs site low)
  · rw [resumeRequest_resumes (s := g) phase runs may hp hc]
    refine ⟨fun met => ?_, fun left near => ?_, fun far => ?_⟩
    · rw [if_pos met]
    · rw [if_neg (Nat.not_le.mpr left), if_pos near]
    · rw [if_neg (by omega), if_neg (by omega)]

namespace State

variable {s : State} {a : Addr} {h : HoseId} {c : Context}

/-! ### Posting (R66, R116, R119, R126) -/

/-- The accumulators after a booking, by cost centre. -/
theorem vget_bookCentre (v : Vector Accumulator 64) (c : Context) (z : CentreId) :
    vget (bookCentre v c) z = if c.kind = .delivery ∧ c.centre = some z then (vget v z).book c.net (c.amount.getD 0)
      else vget v z := by
  unfold bookCentre
  cases c.kind with
  | receipt => simp
  | delivery =>
    cases c.centre with
    | none => simp
    | some y =>
      rw [vget_vset]
      by_cases e : z = y
      · simp [e]
      · simp [e, Ne.symm e]

/-- A posting leaves the record, its NOTICE and the PROGRESS of an IDLE hose. -/
theorem post_eq (hc : (s.hose h).ctx = some c) :
    s.post h = (((s.setBilling (s.billing.post h c)).setHose h
        { s.hose h with phase := .idle, ctx := none, mark := none, timers := .stopped }).setCabPort
      ((s.cab.offerOrdinary (postedFrame h s.billing.nextSeq)).offerOrdinary (progressFrame h .idle 0 none))) := by
  simp [post, hc, modHose, Hose.enter, Timers.listed, entryProgress, Hose.progress, cabOrdinary]
  rfl

end State

/-- Settles O34: both triggers post the hose, and the posting's parts are the record, the booking and the two frames. -/
theorem postingWritesTheRecord : Obligations.PostingWritesTheRecord := by
  intro s h c phase hc record posted
  have posts (k : PortState) : posted (s.setCabPort k) ((s.setCabPort k).post h) := by
    rw [post_eq (s := s.setCabPort k) hc]
    exact ⟨rfl, vget_bookCentre s.billing.centres c, rfl, rfl, rfl⟩
  refine ⟨fun on runs => ⟨_, congrArg Host.Outcome.next (expiry_due on runs (beq_iff_eq.mpr phase)), posts s.cab⟩,
    fun a ready => ⟨_, congrArg Host.Outcome.next ((takeHoseRequest_ready ready (hose_toNat h)).trans (if_pos phase)),
      posts (s.countGood .cab).cab⟩⟩

end Sys2Proof.Machine
end

section
/-! PROOF. LOAD_HOSE_PROFILE (R45, R46): its operands as numbers, its refusals in order, and the profile it stores. -/

namespace Sys2Proof.Machine

/-! ### The operands (R45, R181) -/

/-- A mode operand that the range check takes, read back. -/
theorem modeOf_code {b : Byte} {m : Mode} (e : b.toNat = m.code) : modeOf b = some m := by
  obtain rfl : b = BitVec.ofNat 8 m.code := by rw [← e, BitVec.ofNat_toNat, BitVec.setWidth_eq]
  cases m <;> rfl

theorem modeOf_eq_none {b : Byte} (big : 2 < b.toNat) : modeOf b = none := by
  have not (v : Byte) (le : v.toNat ≤ 2) : b ≠ v := by rintro rfl; omega
  simp [modeOf, not 0#8 (by decide), not 1#8 (by decide), not 2#8 (by decide)]

theorem deviceNode_eq_some {b : Byte} {n : Node} (e : b.toNat = n.val) (low : 2 ≤ n.val) : deviceNode b = some n := by
  unfold deviceNode
  rw [finOf_eq_some.mpr e]
  exact if_pos low

theorem deviceNode_eq_none {b : Byte} (out : b.toNat < 2 ∨ 31 < b.toNat) : deviceNode b = none := by
  unfold deviceNode
  cases e : finOf 32 b.toNat with
  | none => rfl
  | some n =>
    have := finOf_eq_some.mp e
    exact if_neg (by omega)

/-! ### Clamping (R46) -/

theorem clamp_eq_max_min {lo hi : Nat} (v : Nat) (le : lo ≤ hi) : clamp lo hi v = max lo (min v hi) := by
  unfold clamp
  split
  · omega
  · split <;> omega

/-- A field was clamped unless it is given as DEFAULT or lies in its range. -/
theorem wasClamped_eq_false_iff {ones lo hi v : Nat} (le : lo ≤ hi) :
    wasClamped ones lo hi v = false ↔ v = ones ∨ (lo ≤ v ∧ v ≤ hi) := by
  have stays : max lo (min v hi) = v ↔ lo ≤ v ∧ v ≤ hi := by omega
  simp [wasClamped, clamp_eq_max_min v le, stays, or_iff_not_imp_left]

theorem orDefault_eq (ones dflt v : Nat) {lo hi : Nat} (le : lo ≤ hi) :
    orDefault ones dflt lo hi v = if v = ones then dflt else max lo (min v hi) := by
  rw [orDefault, clamp_eq_max_min v le]

namespace State

variable {s : State} {a : Addr} {hose : Byte} {h : HoseId} {f : ProfileForm} {m : Mode} {n : Node} {c : CompId}

/-! ### What R45 looks at -/

theorem headNodeTaken_iff : s.headNodeTaken h n = true ↔
    (∃ k q, k ≠ h ∧ (s.hose k).profile = some q ∧ q.head = n) ∨ (s.probeOwner n).isSome = true := by
  unfold headNodeTaken
  rw [Bool.or_eq_true, List.any_eq_true]
  refine or_congr (exists_congr fun k => ?_) Iff.rfl
  cases (s.hose k).profile <;> simp [mem_ids]

theorem valveElsewhere_iff : s.valveElsewhere h n = true ↔ ∃ it ∈ s.field.queue, it.kind = .valve h ∧ it.frame.dest ≠ n := by
  simp [valveElsewhere]

theorem atRest_iff {ph : Phase} : ph.atRest = true ↔ ph = .off ∨ ph = .idle := by cases ph <;> simp [Phase.atRest]

/-! ### Its refusals in order (R45) -/

theorem cmdLoadHoseProfile_noHose (none : 6 ≤ hose.toNat) : s.cmdLoadHoseProfile hose f = (s, fail .range) := by
  unfold cmdLoadHoseProfile
  rw [finOf_eq_none.mpr none]

theorem cmdLoadHoseProfile_active (e : hose.toNat = h.val) (active : (s.hose h).phase.atRest = false) :
    s.cmdLoadHoseProfile hose f = (s, fail .busy) := by
  unfold cmdLoadHoseProfile
  rw [finOf_eq_some.mpr e]
  dsimp only
  rw [active]
  exact if_pos rfl

/-- At a hose at rest, the operands that name no mode, node or compartment. -/
theorem cmdLoadHoseProfile_unread (e : hose.toNat = h.val) (rest : (s.hose h).phase.atRest = true)
    (out : modeOf f.mode = none ∨ deviceNode f.head = none ∨ finOf 4 f.comp.toNat = none) :
    s.cmdLoadHoseProfile hose f = (s, fail .range) := by
  unfold cmdLoadHoseProfile
  rw [finOf_eq_some.mpr e]
  dsimp only
  rw [rest]
  refine (if_neg Bool.false_ne_true).trans ?_
  split
  · next hm hn hc =>
    rw [hm, hn, hc] at out
    rcases out with out | out | out <;> cases out
  · rfl

/-- With operands that name mode m, node n and compartment c, what remains to be tested and what is stored. -/
theorem cmdLoadHoseProfile_read (e : hose.toNat = h.val) (rest : (s.hose h).phase.atRest = true)
    (hm : modeOf f.mode = some m) (hn : deviceNode f.head = some n) (hc : finOf 4 f.comp.toNat = some c) :
    s.cmdLoadHoseProfile hose f = if s.headNodeTaken h n = true ∨ f.maxPreset = 0xFFFFFFFF#32 then (s, fail .range)
      else if s.valveElsewhere h n = true then (s, fail .busy)
      else ((s.modHose h fun x => profiledHose x (profileOf m n c f)).entryProgress h,
        passAdj (profileAdjusted f) (profileOf m n c f).bytes) := by
  unfold cmdLoadHoseProfile
  rw [finOf_eq_some.mpr e]
  dsimp only
  rw [rest, hm, hn, hc]
  simp

/-- The DEFAULT that R45 refuses: no maximum preset. -/
theorem cmdLoadHoseProfile_noMaximum (e : hose.toNat = h.val) (rest : (s.hose h).phase.atRest = true)
    (none : f.maxPreset = 0xFFFFFFFF#32) : s.cmdLoadHoseProfile hose f = (s, fail .range) := by
  cases hm : modeOf f.mode with
  | none => exact cmdLoadHoseProfile_unread e rest (.inl hm)
  | some m => cases hn : deviceNode f.head with
    | none => exact cmdLoadHoseProfile_unread e rest (.inr (.inl hn))
    | some n => cases hc : finOf 4 f.comp.toNat with
      | none => exact cmdLoadHoseProfile_unread e rest (.inr (.inr hc))
      | some c => exact (cmdLoadHoseProfile_read e rest hm hn hc).trans (if_pos (.inr none))

/-- A hose under a new profile, with its PROGRESS: OFF or IDLE by its mode. -/
theorem entryProgress_profiled (q : Profile) :
    (s.modHose h fun x => profiledHose x q).entryProgress h =
      (s.setHose h { s.hose h with
        profile := some q, phase := if q.mode = .off then .off else .idle, mark := none, timers := .stopped, nozzle := .hung,
        pulse := none, lastValve := none }).cabOrdinary
      (progressFrame h (if q.mode = .off then .off else .idle) ((s.hose h).ctx.elim 0 Context.net)
        ((s.hose h).ctx.bind Context.amountSoFar)) := by
  have stopped (x : Hose) : profiledHose x q = { x with
      profile := some q, phase := if q.mode = .off then .off else .idle, mark := none, timers := .stopped, nozzle := .hung,
      pulse := none, lastValve := none } := by
    unfold profiledHose
    split <;> simp [Hose.enter, Timers.listed]
  unfold entryProgress Hose.progress modHose
  dsimp only
  rw [stopped, setHose_hose_self]
  cases (s.hose h).ctx <;> rfl

end State

open State

/-- Settles O37: the tests in R45's order, then the stored profile read off field by field. -/
theorem hoseProfileIsLoadedAtRest : Obligations.HoseProfileIsLoadedAtRest := by
  intro a hose f s ready load
  refine ⟨fun big => takeCommand_answered ready (cmdLoadHoseProfile_noHose big), fun h e => ⟨fun off idle => ?_,
    fun rest => ⟨fun out => ?_, ?_⟩⟩⟩
  · have active : (s.hose h).phase.atRest = false := by
      rw [← Bool.not_eq_true, atRest_iff]
      exact not_or.mpr ⟨off, idle⟩
    exact takeCommand_answered ready (cmdLoadHoseProfile_active (s := s.countGood .cab) e active)
  · refine takeCommand_answered ready ?_
    have rest : ((s.countGood .cab).hose h).phase.atRest = true := atRest_iff.mpr rest
    rcases out with mode | head | head | comp | none
    · exact cmdLoadHoseProfile_unread e rest (.inl (modeOf_eq_none mode))
    · exact cmdLoadHoseProfile_unread e rest (.inr (.inl (deviceNode_eq_none (.inl head))))
    · exact cmdLoadHoseProfile_unread e rest (.inr (.inl (deviceNode_eq_none (.inr head))))
    · exact cmdLoadHoseProfile_unread e rest (.inr (.inr (finOf_eq_none.mpr comp)))
    · exact cmdLoadHoseProfile_noMaximum e rest none
  intro m n c hm hn low hc given taken elsewhere stored asGiven least p unchanged ph
  have read := cmdLoadHoseProfile_read (s := s.countGood .cab) (f := f) e (atRest_iff.mpr rest) (modeOf_code hm)
    (deviceNode_eq_some hn low) (finOf_eq_some.mpr hc)
  have isTaken : (s.countGood .cab).headNodeTaken h n = true ↔ taken := headNodeTaken_iff
  have isElsewhere : (s.countGood .cab).valveElsewhere h n = true ↔ elsewhere := valveElsewhere_iff
  refine ⟨fun t => takeCommand_answered ready (read.trans (if_pos (.inl (isTaken.mpr t)))), fun t w => ?_, fun t w => ?_⟩
  · have untaken := not_or.mpr ⟨mt isTaken.mp t, given⟩
    exact takeCommand_answered ready (read.trans ((if_neg untaken).trans (if_pos (isElsewhere.mpr w))))
  have profile : profileOf m n c f = p := by
    simp (disch := decide) only [profileOf, orDefault_eq, clamp_eq_max_min]
    rfl
  have adjusted : profileAdjusted f = false ↔ unchanged := by
    simp (disch := decide) only [profileAdjusted, Bool.or_eq_false_iff, wasClamped_eq_false_iff, and_assoc,
      bne_eq_false_iff_eq, orDefault_eq, clamp_eq_max_min]
    rfl
  have result : (if profileAdjusted f then ResultCode.adjusted else .ok) = if unchanged then .ok else .adjusted := by
    cases e : profileAdjusted f with
    | false => exact (if_neg Bool.false_ne_true).trans (if_pos (adjusted.mp e)).symm
    | true => exact (if_pos rfl).trans (if_neg (fun u => by rw [adjusted.mpr u] at e; cases e)).symm
  have untaken := not_or.mpr ⟨mt isTaken.mp t, given⟩
  refine (takeCommand_answered ready
    (read.trans ((if_neg untaken).trans (if_neg (mt isElsewhere.mp w))))).trans ?_
  rw [result, profile, entryProgress_profiled]
  rfl

end Sys2Proof.Machine
end

section
/-! PROOF. Events that act hose by hose in ascending number (R187): site stop (R63, R64, R68) and the overfill stop (R93, R95). -/

namespace Sys2Proof.Machine

namespace State

variable {b u v : State} {h : HoseId} {done : List HoseId} {new : HoseId → Hose} {field cab : PortState → HoseId → PortState}

/-! ### A walk over the hoses that leaves each hose changed and its frames queued -/

/-- A fold over hoses that are each met once, with any accumulator, from what one more hose adds. -/
theorem foldl_of_nodup {β : Type} {P : β → List HoseId → Prop} {f : β → HoseId → β} {start : β} (nil : P start [])
    (snoc : ∀ acc done h, h ∉ done → P acc done → P (f acc h) (done ++ [h])) (l : List HoseId) (distinct : l.Nodup) :
    P (l.foldl f start) l := by
  induction l using List.reverseRecOn with
  | nil => exact nil
  | append_singleton l h ih =>
    obtain ⟨before, -, apart⟩ := List.nodup_append.mp distinct
    rw [List.foldl_append]
    exact snoc _ l h (fun m => apart h m h (List.mem_singleton_self h) rfl) (ih before)

/-- What such a walk has left of state b after the hoses in done. -/
structure WalkSoFar (new : HoseId → Hose) (field cab : PortState → HoseId → PortState) (b u : State) (done : List HoseId) :
    Prop where
  hose : ∀ k, u.hose k = if k ∈ done then new k else b.hose k
  field : u.field = done.foldl field b.field
  cab : u.cab = done.foldl cab b.cab
  rest : u = { b with hoses := u.hoses, field := u.field, cab := u.cab }

theorem WalkSoFar.nil : WalkSoFar new field cab b b [] where
  hose _ := rfl
  field := rfl
  cab := rfl
  rest := rfl

/-- A hose not yet met stands as it stood. -/
theorem WalkSoFar.hose_ahead (soFar : WalkSoFar new field cab b u done) (ahead : h ∉ done) : u.hose h = b.hose h := by
  rw [soFar.hose, if_neg ahead]

/-- One more hose. -/
theorem WalkSoFar.snoc (soFar : WalkSoFar new field cab b u done)
    (e : v = ((u.setHose h (new h)).setFieldPort (field u.field h)).setCabPort (cab u.cab h)) :
    WalkSoFar new field cab b v (done ++ [h]) where
  hose k := by
    have hose : v.hose k = (u.setHose h (new h)).hose k := by rw [e]; rfl
    rw [hose, setHose_hose, soFar.hose]
    by_cases same : k = h <;> simp [same]
  field := by
    rw [List.foldl_append, ← soFar.field, e]
    rfl
  cab := by
    rw [List.foldl_append, ← soFar.cab, e]
    rfl
  rest := by
    have rest : v = { u with hoses := v.hoses, field := v.field, cab := v.cab } := by rw [e]; rfl
    exact rest.trans (congrArg (fun w : State => { w with hoses := v.hoses, field := v.field, cab := v.cab }) soFar.rest)

/-! ### Site stop (R63, R64) -/

end State

/-- A hose that site stop has met (R63). -/
def Hose.siteStopped (x : Hose) : Hose :=
  if x.phase.flowing then
    { x with
      phase := .held, mark := some .site, lastValve := some .close
      timers := { Timers.stopped with silence := x.timers.silence, holdLimit := x.profile.map Profile.holdLimit } }
  else if x.phase = .held then { x with mark := some .site } else x

/-- The field port after a flowing hose's CLOSE (R61). -/
def Hose.stopValve (x : Hose) (h : HoseId) (q : PortState) : PortState :=
  match x.profile with
  | some p => if x.phase.flowing then q.offerControl ⟨.valve h, valveFrame p.head .close⟩ else q
  | none => q

/-- The cab port after a flowing hose's PROGRESS (R68). -/
def Hose.stopProgress (x : Hose) (h : HoseId) (q : PortState) : PortState :=
  match x.ctx with
  | some c => if x.phase.flowing then q.offerOrdinary (progressFrame h .held c.net c.amountSoFar) else q
  | none => q

/-- No frame is queued for a hose that does not flow. -/
theorem Hose.stopValve_still {x : Hose} {h : HoseId} {q : PortState} (still : x.phase.flowing = false) :
    x.stopValve h q = q := by
  unfold Hose.stopValve
  rw [still]
  cases x.profile <;> rfl

theorem Hose.stopProgress_still {x : Hose} {h : HoseId} {q : PortState} (still : x.phase.flowing = false) :
    x.stopProgress h q = q := by
  unfold Hose.stopProgress
  rw [still]
  cases x.ctx <;> rfl

namespace State

variable {s b u : State} {a : Addr} {h : HoseId}

/-- Site stop at one hose, whole. -/
theorem siteStopHose_eq (ok : (u.hose h).PhaseOk) :
    u.siteStopHose h = ((u.setHose h (u.hose h).siteStopped).setFieldPort ((u.hose h).stopValve h u.field)).setCabPort
      ((u.hose h).stopProgress h u.cab) := by
  by_cases flows : (u.hose h).phase.flowing = true
  · obtain ⟨on, -, holds, -⟩ := Hose.flowing_facts flows
    obtain ⟨p, hp⟩ := profile_of_on ok on
    obtain ⟨c, hc⟩ := ctx_of_holds ok holds
    unfold siteStopHose
    rw [if_pos flows, enterHeld_eq .site hp hc]
    simp [heldAt, Hose.siteStopped, Hose.stopValve, Hose.stopProgress, flows, hp, hc]
  · have still : (u.hose h).phase.flowing = false := Bool.not_eq_true _ ▸ flows
    unfold siteStopHose Hose.siteStopped
    rw [if_neg flows, if_neg flows, Hose.stopValve_still still, Hose.stopProgress_still still]
    split
    · rfl
    · rw [setHose_hose_same]
      rfl

/-- Site stop, whole, where it was not in force. -/
theorem stopSite_walk (ok : s.HosesOk) (runs : s.siteStop = false) :
    WalkSoFar (fun h => (s.hose h).siteStopped) (fun q h => (s.hose h).stopValve h q) (fun q h => (s.hose h).stopProgress h q)
      (s.setSiteStop true) s.stopSite (ids 6) := by
  unfold stopSite
  rw [runs, if_neg Bool.false_ne_true]
  refine foldl_of_nodup .nil (fun u done h ahead soFar => soFar.snoc ?_) (ids 6) nodup_ids
  have same : u.hose h = s.hose h := soFar.hose_ahead ahead
  rw [siteStopHose_eq (same ▸ ok h), same]

/-- EMERGENCY_STOP reaches site stop. -/
theorem exec_emergencyStop (ready : s.RequestReady a .operator) :
    exec (.emergencyStop a) s = .next (s.countGood .cab).stopSite := by
  obtain ⟨on, source, dest, level⟩ := ready
  exact congrArg Host.Outcome.next ((takeOperator_reached on source dest).trans (if_neg (Nat.not_lt.mpr level)))

end State

open State

/-- Settles O32: one walk over the hoses, which both triggers reach. -/
theorem siteStopHoldsEveryFlowingHose : Obligations.SiteStopHoldsEveryFlowingHose := by
  intro a s ok stopped closes progresses
  have walk (runs : s.siteStop = false) := stopSite_walk (s := s.countGood .cab) ok runs
  have hoses (runs : s.siteStop = false) (h : HoseId) : (s.countGood .cab).stopSite.hose h = stopped h :=
    ((walk runs).hose h).trans (if_pos (mem_ids h))
  have whole (runs : s.siteStop = false) : (s.countGood .cab).stopSite =
      { s with siteStop := true, hoses := (s.countGood .cab).stopSite.hoses, field := closes, cab := progresses } := by
    have left := (walk runs).rest
    rw [(walk runs).field, (walk runs).cab] at left
    exact left
  have stays (stop : s.siteStop = true) : (s.countGood .cab).stopSite = s.countGood .cab := if_pos stop
  refine ⟨fun ready runs => ⟨_, exec_emergencyStop ready, hoses runs, whole runs⟩, fun ready stop => ?_,
    fun ready runs => ⟨_, takeCommand_answered (act := State.cmdSiteStop) ready rfl, hoses runs, whole runs⟩,
    fun ready stop => ?_, fun ready => takeCommand_answered (act := State.cmdSiteResume) ready rfl⟩
  · rw [exec_emergencyStop ready, stays stop]
  · refine (takeCommand_answered (act := State.cmdSiteStop) ready rfl).trans ?_
    rw [stays stop]

/-! ### The overfill stop (R57, R93, R95) -/

/-- A flowing receipt that draws on a compartment (R95). -/
def Hose.overfills (x : Hose) (c : CompId) : Bool :=
  x.drawsOn c && x.phase.flowing && x.ctx.any fun k => decide (k.kind = .receipt)

/-- A hose that the overfill stop has met. -/
def Hose.overfillStopped (x : Hose) (c : CompId) : Hose :=
  if x.overfills c then
    { x with
      phase := .closing, mark := none, lastValve := some .close
      timers := { Timers.stopped with settle := x.profile.map Profile.settle }
      ctx := x.ctx.map fun k => { k with endCause := some .overfillStop } }
  else x

/-- The field port after a stopped receipt's CLOSE. -/
def Hose.overfillValve (x : Hose) (c : CompId) (h : HoseId) (q : PortState) : PortState :=
  match x.profile with
  | some p => if x.overfills c then q.offerControl ⟨.valve h, valveFrame p.head .close⟩ else q
  | none => q

/-- The cab port after a stopped receipt's PROGRESS; a receipt has no amount. -/
def Hose.overfillProgress (x : Hose) (c : CompId) (h : HoseId) (q : PortState) : PortState :=
  match x.ctx with
  | some k => if x.overfills c then q.offerOrdinary (progressFrame h .closing k.net none) else q
  | none => q

/-- A hose that the overfill stop passes over is left alone, and no frame is queued for it. -/
theorem Hose.overfill_passed {x : Hose} {c : CompId} {h : HoseId} (passed : x.overfills c = false) :
    x.overfillStopped c = x ∧ (∀ q, x.overfillValve c h q = q) ∧ ∀ q, x.overfillProgress c h q = q := by
  unfold Hose.overfillStopped Hose.overfillValve Hose.overfillProgress
  rw [passed]
  refine ⟨rfl, fun q => ?_, fun q => ?_⟩
  · cases x.profile <;> rfl
  · cases x.ctx <;> rfl

theorem Phase.executing_of_flowing {ph : Phase} (flows : ph.flowing = true) : ph.executing = true := by
  cases ph with
  | slowStart | fullFlow | slowStop => rfl
  | _ => cases flows

/-- What a stopped receipt holds: a profile, and a receipt's context. -/
theorem Hose.held_of_overfills {x : Hose} {c : CompId} (stops : x.overfills c = true) :
    x.drawsOn c = true ∧ x.phase.flowing = true ∧ (∃ p, x.profile = some p) ∧ ∃ k, x.ctx = some k ∧ k.kind = .receipt := by
  simp only [Hose.overfills, Bool.and_eq_true, Option.any_eq_true, decide_eq_true_eq] at stops
  obtain ⟨⟨draws, flows⟩, receipt⟩ := stops
  refine ⟨draws, flows, ?_, receipt⟩
  unfold Hose.drawsOn at draws
  cases hp : x.profile with
  | some p => exact ⟨p, rfl⟩
  | none => simp [hp] at draws

namespace State

variable {s u : State} {a : Addr} {c : CompId} {h : HoseId} {st : Settings} {reading : Nat}

/-- The overfill stop at one hose, by whether it is such a receipt. -/
theorem overfillHose_eq (acc : Bool × State) : overfillHose c h acc =
    if (acc.2.hose h).overfills c then (true, acc.2.enterClosing h .overfillStop) else acc := by
  refine if_congr ?_ rfl rfl
  unfold Hose.overfills
  cases (acc.2.hose h).ctx <;> simp [and_right_comm]

theorem overfillHose_fst (acc : Bool × State) : (overfillHose c h acc).1 = (acc.1 || (acc.2.hose h).overfills c) := by
  rw [overfillHose_eq]
  split
  · next stops => simp [stops]
  · next passed => simp [Bool.not_eq_true _ ▸ passed]

theorem overfillHose_snd (acc : Bool × State) : (overfillHose c h acc).2 =
    ((acc.2.setHose h ((acc.2.hose h).overfillStopped c)).setFieldPort
      ((acc.2.hose h).overfillValve c h acc.2.field)).setCabPort ((acc.2.hose h).overfillProgress c h acc.2.cab) := by
  rw [overfillHose_eq]
  by_cases stops : (acc.2.hose h).overfills c = true
  · obtain ⟨-, -, ⟨p, hp⟩, k, hk, receipt⟩ := Hose.held_of_overfills stops
    rw [if_pos stops]
    dsimp only
    rw [enterClosing_eq _ hp hk]
    simp [closedAt, Hose.overfillStopped, Hose.overfillValve, Hose.overfillProgress, stops, hp, hk, Context.amountSoFar, receipt]
  · obtain ⟨hose, valve, progress⟩ := Hose.overfill_passed (h := h) (Bool.not_eq_true _ ▸ stops)
    rw [if_neg stops, hose, valve, progress, setHose_hose_same]
    rfl

/-- The walk of the overfill check, and whether it has stopped a hose. -/
theorem overfillHoses_walk :
    let r := (ids 6).foldl (fun acc h => overfillHose c h acc) (false, s)
    r.1 = (ids 6).any (fun h => (s.hose h).overfills c)
      ∧ WalkSoFar (fun h => (s.hose h).overfillStopped c) (fun q h => (s.hose h).overfillValve c h q)
          (fun q h => (s.hose h).overfillProgress c h q) s r.2 (ids 6) := by
  refine foldl_of_nodup (P := fun (acc : Bool × State) done => acc.1 = done.any (fun h => (s.hose h).overfills c)
      ∧ WalkSoFar _ _ _ s acc.2 done) ⟨rfl, .nil⟩ (fun acc done h ahead ⟨stopped, soFar⟩ => ?_) (ids 6) nodup_ids
  have same : acc.2.hose h = s.hose h := soFar.hose_ahead ahead
  refine ⟨?_, soFar.snoc ?_⟩
  · rw [overfillHose_fst, stopped, same]
    simp
  · rw [overfillHose_snd, same]

/-- Where no receipt is stopped nothing happens. -/
theorem overfillCheck_none (none : ∀ h, (s.hose h).overfills c = false) : s.overfillCheck c st reading = s := by
  have still : (ids 6).foldl (fun acc h => overfillHose c h acc) (false, s) = (false, s) :=
    List.foldl_fixed' (fun h => by rw [overfillHose_eq, none h]; rfl) _
  unfold overfillCheck
  rw [still]
  exact ite_self s

/-! ### The variance check (R93) -/

theorem varianceCheck_paused (executing : s.executingOn c = true) : s.varianceCheck c st reading = s := if_pos executing

/-- The check, whole: what it leaves of the compartment, and whether it sets VARIANCE. -/
theorem varianceCheck_eq : s.varianceCheck c st reading =
    let x := s.comp c
    let outside := decide (st.tolerance < (x.book - reading).natAbs)
    let meets := decide (st.limit ≤ x.varCount + 1)
    let t := s.setComp c (if s.executingOn c then x
      else if outside then { x with varCount := min (x.varCount + 1) 15, varFlag := x.varFlag || meets }
      else { x with varCount := 0 })
    if !s.executingOn c && outside && meets && !x.varFlag then t.setCause .variance else t := by
  cases executing : s.executingOn c with
  | true =>
    rw [varianceCheck_paused executing]
    simp [setComp, comp]
  | false =>
    unfold varianceCheck
    rw [executing, if_neg Bool.false_ne_true]
    by_cases outside : st.tolerance < ((s.comp c).book - reading).natAbs
    · simp [outside, Nat.not_le.mpr outside]
    · simp [outside, Nat.not_lt.mp outside]

/-- An OK reading at its compartment. -/
theorem exec_probe {volume : Word} (ready : s.ProbeReady a c) (hs : (s.comp c).settings = some st) :
    exec (.probe a volume 0#8) s = .next
      ((((s.countGood .field).setComp c
        { s.comp c with lastReading := some volume.toNat, readingTime := some s.resp.clock }).varianceCheck c st
          volume.toNat).overfillCheck c st volume.toNat) := by
  refine congrArg Host.Outcome.next ((takeField_probe ready).trans ?_)
  unfold probeEvent
  rw [if_neg (by decide), show ((s.countGood .field).comp c).settings = some st from hs]
  rfl

end State

/-- Settles O41: with a receipt to stop the variance check is paused and the walk stops it; without one only the check is left. -/
theorem overfillStopsFlowingReceipts : Obligations.OverfillStopsFlowingReceipts := by
  intro a volume s c st ready hs high g x read executing outside meets checked stops closed closes progresses
  rw [exec_probe ready hs]
  refine ⟨fun quiet => ?_, fun ⟨h, receipt⟩ => ?_⟩
  · have passed (h : HoseId) : (((g.setComp c read).varianceCheck c st volume.toNat).hose h).overfills c = false := by
      rw [varianceCheck_hose]
      exact quiet h
    refine congrArg Host.Outcome.next ((overfillCheck_none passed).trans ?_)
    rw [varianceCheck_eq, setComp_comp_self]
    dsimp only
    rw [setComp_setComp]
    rfl
  · obtain ⟨draws, flows, -⟩ := Hose.held_of_overfills (x := s.hose h) (c := c) receipt
    have paused : (g.setComp c read).executingOn c = true :=
      List.any_eq_true.mpr ⟨h, mem_ids h, Bool.and_eq_true_iff.mpr ⟨draws, Phase.executing_of_flowing flows⟩⟩
    obtain ⟨any, walk⟩ := overfillHoses_walk (s := g.setComp c read) (c := c)
    have stopped := any.trans (List.any_eq_true.mpr ⟨h, mem_ids h, receipt⟩)
    have left := walk.rest
    rw [walk.field, walk.cab] at left
    refine ⟨_, fun k => (walk.hose k).trans (if_pos (mem_ids k)), congrArg Host.Outcome.next ?_⟩
    rw [varianceCheck_paused paused]
    unfold overfillCheck
    rw [if_neg (Nat.not_lt.mpr high)]
    exact (if_pos stopped).trans (congrArg (State.setCause .overfill) left)

end Sys2Proof.Machine
end

section
/-! PROOF. Samples that meter no transaction (R67, R71, R80, R81). -/

namespace Sys2Proof.Machine

/-! ### What a sample is (R71) -/

theorem classify_duplicate {r : PulseRef} {seq : Byte} {total : Half} (same : seq = r.seq) :
    classify (some r) seq total = .duplicate := if_pos same

theorem classify_applied {r : PulseRef} {seq : Byte} {total : Half} (new : seq ≠ r.seq) :
    classify (some r) seq total = .applied (seq - r.seq).toNat (total - r.total).toNat := if_neg new

theorem refAfter_applied {r : PulseRef} {seq : Byte} {total : Half} (new : seq ≠ r.seq) :
    refAfter (some r) seq total = some ⟨total, seq⟩ := by
  unfold refAfter
  rw [classify_applied new]

/-- Whether a sum fits a signed 48-bit field, as one condition (R181). -/
theorem fits48_eq (v : Int) : fits48 v = decide (-(2 ^ 47) ≤ v ∧ v < 2 ^ 47) := (Bool.decide_and _ _).symm

namespace State

variable {s : State} {a : Addr} {h : HoseId} {seq : Byte} {total temp : Half} {p : Profile} {r : PulseRef} {cal : Calibration}

/-! ### A METER_SAMPLE at its hose, by its kind and the hose's phase (R50, R67, R71, R81) -/

theorem exec_meterSample (ready : s.HeadReady a h) :
    exec (.meterSample a seq total temp) s = .next ((s.countGood .field).sample h seq total temp) :=
  congrArg Host.Outcome.next (takeField_head ready)

theorem sample_off (off : (s.hose h).phase = .off) : s.sample h seq total temp = s := by
  unfold sample
  dsimp only
  rw [off]

theorem sample_duplicate (hp : (s.hose h).profile = some p) (hr : (s.hose h).pulse = some r) (same : seq = r.seq) :
    s.sample h seq total temp = s := by
  unfold sample
  dsimp only
  rw [hp, hr, classify_duplicate same]
  cases (s.hose h).phase <;> rfl

/-- A reference-only sample sets the reference and restarts a running silence timer. -/
theorem sample_referenceOnly (on : (s.hose h).phase ≠ .off) (hp : (s.hose h).profile = some p)
    (hr : (s.hose h).pulse = none) : s.sample h seq total temp =
      s.setHose h { s.hose h with
        pulse := some ⟨total, seq⟩
        timers := { (s.hose h).timers with
          silence := if (s.hose h).timers.silence.isSome then some p.silence else none } } := by
  have event : s.sample h seq total temp =
      (s.modHose h fun x => { x with pulse := refAfter x.pulse seq total }).modHose h fun x =>
        { x with timers := { x.timers with silence := restartIf x.timers.silence (x.period Profile.silence) } } := by
    unfold sample
    dsimp only
    rw [hp, hr]
    cases e : (s.hose h).phase with
    | off => exact absurd e on
    | _ => rfl
  rw [event]
  simp [modHose, hp, hr, restartIf, Hose.period, refAfter, classify]

/-- A sample applied outside the execution phases: by its pulses, and by the calibration. -/
theorem sample_idle (on : (s.hose h).phase ≠ .off) (idle : (s.hose h).phase.executing = false)
    (hp : (s.hose h).profile = some p) (hr : (s.hose h).pulse = some r) (new : seq ≠ r.seq) :
    s.sample h seq total temp =
      let s1 := s.setHose h { s.hose h with pulse := some ⟨total, seq⟩ }
      let pulses := (total - r.total).toNat
      if pulses = 0 then s1
      else (s.hose h).cal.elim (s1.setCause .unauthorizedFlow) fun cal =>
        s1.unbilledFlow h p (unbilledNet cal (seq - r.seq).toNat pulses) := by
  unfold sample modHose
  dsimp only
  rw [hp, hr, classify_applied new, refAfter_applied new]
  cases e : (s.hose h).phase with
  | off => exact absurd e on
  | idle | authorized | result => cases (s.hose h).cal <;> rfl
  | slowStart | fullFlow | slowStop | held | closing => rw [e] at idle; cases idle

/-- Unbilled flow by its volume: the hose's counter, the book and the cause. -/
theorem unbilledFlow_eq (n : Nat) : s.unbilledFlow h p n =
    ((s.setHose h { s.hose h with unbilled := min ((s.hose h).unbilled + n) 4294967295 }).bookUnbilled p.comp
      (if p.mode = .receive then (n : Int) else -n)).setCause .unauthorizedFlow := rfl

/-- A cause set, whole: an ATTENTION frame goes out where the unit was ARMED (R132). -/
theorem setCause_eq (w : Cause) : s.setCause w = { s with
    att := ⟨s.att.causes ||| w.mask, .fired⟩
    cab := match s.att.state with
      | .armed => s.cab.offerControl ⟨.attention, attentionFrame (s.att.causes ||| w.mask)⟩
      | .fired => s.cab } := by
  cases e : s.att.state with
  | armed =>
    rw [setCause_armed w e]
    rfl
  | fired =>
    rw [setCause_fired w e]
    rfl

end State

open State

/-- Settles O36: each sample by its kind; pulses outside a transaction by the compartment's settings. -/
theorem unbilledAndIgnoredSamples : Obligations.UnbilledAndIgnoredSamples := by
  intro a seq total temp s h p ready hp g referenced sampled
  have event : sampled = .next (g.sample h seq total temp) := exec_meterSample ready
  rw [event]
  refine ⟨fun off => ?_, fun r hr same => ?_, fun on hr => ?_, fun r on hr new idle => ?_⟩
  · exact congrArg Host.Outcome.next (sample_off off)
  · exact congrArg Host.Outcome.next (sample_duplicate hp hr same)
  · exact congrArg Host.Outcome.next (sample_referenceOnly on hp hr)
  have applied := sample_idle (s := g) (total := total) (temp := temp) on idle hp hr new
  refine ⟨fun still => ?_, fun flows uncalibrated => ?_, fun flows cal hcal => ?_⟩
  · exact congrArg Host.Outcome.next (applied.trans (if_pos still))
  · refine congrArg Host.Outcome.next ((applied.trans (if_neg flows)).trans ?_)
    rw [show (g.hose h).cal = none from uncalibrated]
    rfl
  intro rate factor n d x hoses received causes attended
  have moved : (if p.mode = .receive then (n : Int) else -n) = d := by
    show _ = match p.mode with | .receive => (n : Int) | _ => -n
    cases p.mode <;> rfl
  have flow : g.sample h seq total temp = ((g.setHose h
      { referenced with unbilled := min ((s.hose h).unbilled + n) 4294967295 }).bookUnbilled p.comp d).setCause
        .unauthorizedFlow := by
    refine (applied.trans (if_neg flows)).trans ?_
    rw [show (g.hose h).cal = some cal from hcal, ← moved]
    refine (unbilledFlow_eq (s := g.setHose h referenced) _).trans ?_
    rw [setHose_hose_self, setHose_setHose]
    rfl
  rw [flow]
  refine ⟨fun bare => ?_, fun st hs => ?_⟩
  · have unbooked := bookUnbilled_unconfigured (s := g.setHose h
      { referenced with unbilled := min ((s.hose h).unbilled + n) 4294967295 }) (d := d) bare
    rw [unbooked, setCause_eq]
    rfl
  · have booked := bookUnbilled_configured (s := g.setHose h
      { referenced with unbilled := min ((s.hose h).unbilled + n) 4294967295 }) (d := d) hs
    simp only [fits48_eq] at booked
    rw [booked, setCause_eq]
    rfl

end Sys2Proof.Machine
end

section
/-! PROOF. An applied sample of a transaction, whole (R50 to R52, R71 to R79): the stages, the book, the phase checks, the frames. -/

namespace Sys2Proof.Machine

/-! ### The temperature (R75) and the context after a sample (R50, R79) -/

theorem chooseTemp_held (t held : Option Int) (g : Nat) :
    (chooseTemp t held g).held = match t with | some x => some (max (-400) (min x 700)) | none => held := by
  unfold chooseTemp
  cases t with
  | none => cases held <;> rfl
  | some x =>
    dsimp only
    split
    · exact congrArg some (by omega)
    · split
      · exact congrArg some (by omega)
      · exact congrArg some (by omega)

theorem chooseTemp_used (t held : Option Int) (g : Nat) :
    (chooseTemp t held g).used = (chooseTemp t held g).held.getD 150 := by
  unfold chooseTemp
  cases t with
  | none => cases held <;> rfl
  | some x =>
    dsimp only
    split
    · rfl
    · split <;> rfl

theorem chooseTemp_flags (t held : Option Int) (g : Nat) : (chooseTemp t held g).flags =
    flagIf (t.any fun x => decide (x < -400 ∨ 700 < x)) .tempClamped
      ||| flagIf (t.isNone && held.isSome && decide (0 < g)) .tempHeld
      ||| flagIf (t.isNone && held.isNone && decide (0 < g)) .uncompensated := by
  unfold chooseTemp
  cases t with
  | none => cases held <;> simp [flagIf]
  | some x =>
    by_cases low : x < -400
    · simp [low, flagIf]
    · by_cases high : 700 < x <;> simp [low, high, flagIf]

namespace State

/-- The context after an applied sample, its flags one by one. -/
theorem sampleCtx_eq (c : Context) (cal : Calibration) (beta step p resG resN : Nat) (t : Option Int) :
    let m := measure cal beta step p resG resN t c.heldTemp
    sampleCtx c m = { c with
      gross := min (c.gross + m.g) 4294967295, net := min (c.net + m.n) 4294967295, heldTemp := m.temp.held
      lastTemp := if 0 < m.g then some m.temp.used else c.lastTemp
      flags := c.flags ||| flagIf (decide (1 < step)) .sampleGap ||| flagIf (decide (cal.uOver < p / step)) .overspeed
        ||| flagIf (t.any fun x => decide (x < -400 ∨ 700 < x)) .tempClamped
        ||| flagIf (t.isNone && c.heldTemp.isSome && decide (0 < m.g)) .tempHeld
        ||| flagIf (t.isNone && c.heldTemp.isNone && decide (0 < m.g)) .uncompensated
        ||| flagIf (decide (4294967295 < c.gross + m.g ∨ 4294967295 < c.net + m.n)) .totalSaturated } := by
  intro m
  have raised : m.flags = flagIf (decide (1 < step)) .sampleGap ||| flagIf (decide (cal.uOver < p / step)) .overspeed
      ||| (chooseTemp t c.heldTemp m.g).flags := rfl
  unfold sampleCtx
  rw [raised, chooseTemp_flags, Bool.decide_or]
  simp only [BitVec.or_assoc]
  rfl

/-- The timers after an applied sample of a hose with a profile (R50). -/
theorem sampleTimers_eq {x : Hose} {p : Profile} (hp : x.profile = some p) (pulses : Nat) :
    sampleTimers x pulses = { x.timers with
      silence := if x.timers.silence.isSome then some p.silence else none
      noFlow := if 0 < pulses ∧ x.phase.flowing = true then some p.noFlow else x.timers.noFlow
      settle := if 0 < pulses ∧ x.phase = .closing then some p.settle else x.timers.settle } := by
  simp [sampleTimers, restartIf, Hose.period, hp]

end State

/-! ### The phase checks (R51, R52) -/

/-- The phase a sample's remaining volume leads to. -/
def Phase.checked (ph : Phase) (p : Profile) (preset net : Nat) : Phase :=
  match ph with
  | .slowStart => if preset ≤ net then .closing else if preset ≤ net + p.slowStop then .slowStop
      else if p.slowStart ≤ net then .fullFlow else .slowStart
  | .fullFlow => if preset ≤ net then .closing else if preset ≤ net + p.slowStop then .slowStop else .fullFlow
  | .slowStop => if preset ≤ net then .closing else .slowStop
  | ph => ph

/-- Whether the checks end the flow. -/
def Phase.endsIn (ph next : Phase) : Bool := decide (next ≠ ph) && decide (next = .closing)

/-- The valve command of a phase change by the checks. -/
def Phase.checkValve (ph next : Phase) : Option ValveCmd :=
  if ph.endsIn next then some .close
  else match ph, next with
    | .slowStart, .fullFlow => some .openFull
    | .fullFlow, .slowStop => some .openSlow
    | _, _ => none

/-- A hose, on profile p and context c, that the checks have moved to a phase. -/
def Hose.movedTo (x : Hose) (p : Profile) (c : Context) (next : Phase) : Hose :=
  { x with
    phase := next
    ctx := some { c with endCause := if x.phase.endsIn next then some .presetReached else c.endCause }
    mark := if decide (next ≠ x.phase) then none else x.mark
    timers := if x.phase.endsIn next then { Timers.stopped with settle := some p.settle }
      else if decide (next ≠ x.phase) then { Timers.stopped with noFlow := x.timers.noFlow, silence := x.timers.silence }
      else x.timers
    lastValve := match x.phase.checkValve next with | some v => some v | none => x.lastValve }

/-- A hose that stays in its phase stays as it is. -/
theorem Hose.movedTo_same {x : Hose} {p : Profile} {c : Context} (hc : x.ctx = some c) : x.movedTo p c x.phase = x := by
  have stays : x.phase.endsIn x.phase = false := by simp [Phase.endsIn]
  have closed : x.phase.checkValve x.phase = none := by
    unfold Phase.checkValve
    rw [stays]
    cases x.phase <;> rfl
  unfold Hose.movedTo
  rw [stays, closed]
  simp [← hc]

namespace State

variable {s : State} {h : HoseId} {p : Profile} {c : Context}

/-- What the checks leave: the hose moved, its valve command, and its PROGRESS where the phase changed. -/
def checkedTo (s : State) (h : HoseId) (p : Profile) (c : Context) (next : Phase) : State :=
  ((s.setHose h ((s.hose h).movedTo p c next)).setFieldPort (match (s.hose h).phase.checkValve next with
      | some v => s.field.offerControl ⟨.valve h, valveFrame p.head v⟩
      | none => s.field)).setCabPort
    (if decide (next ≠ (s.hose h).phase) then s.cab.offerOrdinary (progressFrame h next c.net c.amountSoFar) else s.cab)

/-- Where the phase stays nothing happens. -/
theorem checkedTo_same (hc : (s.hose h).ctx = some c) : s.checkedTo h p c (s.hose h).phase = s := by
  have closed : (s.hose h).phase.checkValve (s.hose h).phase = none := by
    unfold Phase.checkValve Phase.endsIn
    cases (s.hose h).phase <;> rfl
  unfold checkedTo
  rw [Hose.movedTo_same hc, closed, setHose_hose_same]
  simp only [ne_eq, not_true_eq_false, decide_false, Bool.false_eq_true, if_false]
  rfl

/-- The end of flow is the change to CLOSING. -/
theorem enterClosing_checked (flows : (s.hose h).phase.flowing = true) (hp : (s.hose h).profile = some p)
    (hc : (s.hose h).ctx = some c) : s.enterClosing h .presetReached = s.checkedTo h p c .closing := by
  have ends : (s.hose h).phase.endsIn .closing = true ∧ Phase.closing ≠ (s.hose h).phase := by
    cases e : (s.hose h).phase with
    | slowStart | fullFlow | slowStop => decide
    | _ => rw [e] at flows; cases flows
  obtain ⟨ends, moves⟩ := ends
  rw [enterClosing_eq _ hp hc]
  simp [closedAt, checkedTo, Hose.movedTo, Phase.checkValve, ends, moves]

/-- SLOW_START to SLOW_STOP needs no valve command. -/
theorem slowStop_checked (hc : (s.hose h).ctx = some c) (e : (s.hose h).phase = .slowStart) :
    (s.modHose h fun x => x.enter .slowStop).entryProgress h = s.checkedTo h p c .slowStop := by
  simp [modHose, Hose.enter, Timers.listed, entryProgress, Hose.progress, cabOrdinary, checkedTo, Hose.movedTo,
    Phase.checkValve, Phase.endsIn, e, hc]
  rfl

theorem fullFlow_checked (hp : (s.hose h).profile = some p) (hc : (s.hose h).ctx = some c)
    (e : (s.hose h).phase = .slowStart) :
    ((s.modHose h fun x => x.enter .fullFlow).queueValve h .openFull).entryProgress h = s.checkedTo h p c .fullFlow := by
  simp [modHose, Hose.enter, Timers.listed, queueValve, entryProgress, Hose.progress, cabOrdinary, checkedTo, Hose.movedTo,
    Phase.checkValve, Phase.endsIn, e, hp, hc]

theorem slowStop_checked_full (hp : (s.hose h).profile = some p) (hc : (s.hose h).ctx = some c)
    (e : (s.hose h).phase = .fullFlow) :
    ((s.modHose h fun x => x.enter .slowStop).queueValve h .openSlow).entryProgress h = s.checkedTo h p c .slowStop := by
  simp [modHose, Hose.enter, Timers.listed, queueValve, entryProgress, Hose.progress, cabOrdinary, checkedTo, Hose.movedTo,
    Phase.checkValve, Phase.endsIn, e, hp, hc]

/-- The checks of a flowing hose, and nothing of another (R51, R52). -/
theorem phaseCheck_eq (hp : (s.hose h).profile = some p) (hc : (s.hose h).ctx = some c) :
    (if (s.hose h).phase.flowing then s.phaseCheck h else s)
      = s.checkedTo h p c ((s.hose h).phase.checked p c.preset c.net) := by
  have stays : s.checkedTo h p c (s.hose h).phase = s := checkedTo_same hc
  have ends (flows : (s.hose h).phase.flowing = true) := enterClosing_checked flows hp hc
  unfold phaseCheck
  rw [hp, hc]
  cases e : (s.hose h).phase with
  | slowStart =>
    rw [e] at stays ends
    refine (if_pos rfl).trans ?_
    dsimp only [Phase.checked]
    split
    · exact ends rfl
    · split
      · exact slowStop_checked hc e
      · split
        · exact fullFlow_checked hp hc e
        · exact stays.symm
  | fullFlow =>
    rw [e] at stays ends
    refine (if_pos rfl).trans ?_
    dsimp only [Phase.checked]
    split
    · exact ends rfl
    · split
      · exact slowStop_checked_full hp hc e
      · exact stays.symm
  | slowStop =>
    rw [e] at stays ends
    refine (if_pos rfl).trans ?_
    dsimp only [Phase.checked]
    split
    · exact ends rfl
    · exact stays.symm
  | off | idle | authorized | held | closing | result =>
    rw [e] at stays
    exact stays.symm

/-! ### The book and the commitment (R50, R89, R90, R96) -/

/-- A transaction's increment at a configured compartment, whole, from the sum it makes. -/
theorem bookMetered_configured {k : CompId} {d sum : Int} {st : Settings} (hs : (s.comp k).settings = some st)
    (made : (s.comp k).book + d = sum) :
    let x := s.comp k
    let book := if fits48 sum then sum else (Config.unstated48 s.draws sum).toInt
    let low := decide (x.restock = .normal ∧ book < st.low)
    let back := decide (x.restock ≠ .normal ∧ (st.low : Int) + st.hysteresis ≤ book)
    s.bookMetered k d = { s with
      comps := vset s.comps k { x with
        book := book
        restock := if low then .low else if back then .normal else x.restock
        orderRef := if back then none else x.orderRef
        requestTime := if low then some s.resp.clock else if back then none else x.requestTime }
      cab := if low then s.cab.offerControl ⟨.restock k, restockFrame k st.grade book st.capacity s.resp.clock⟩ else s.cab
      draws := if fits48 sum then s.draws else s.draws + 1 } := by
  intro x book low back
  have added : s.addBook k d = { s with
      comps := vset s.comps k { x with book := book }, draws := if fits48 sum then s.draws else s.draws + 1 } := by
    unfold addBook drawFor signed48
    rw [made]
    cases e : fits48 sum <;> simp [x, book, e, setComp, setDraws]
  unfold bookMetered
  rw [if_pos (by rw [hs]; rfl), judge_configured (st := st) (by rw [added]; exact (congrArg Compartment.settings (vget_vset_self _ _ _)).trans hs),
    added]
  simp only [comp, vget_vset_self, vset_vset]
  rfl

theorem withCommit_eq (x : Compartment) (k : TxKind) (f : Nat → Nat) : x.withCommit k f = { x with
    committedIssue := match k with | .delivery => f x.committedIssue | .receipt => x.committedIssue
    committedReceive := match k with | .receipt => f x.committedReceive | .delivery => x.committedReceive } := by
  cases k <;> rfl

/-! ### The whole of it -/

/-- An applied sample before the phase checks: the hose metered, its timers restarted, the compartment moved. -/
def metered (s : State) (h : HoseId) (c : Context) (m : Measured) (pulses : Nat) : State :=
  let u := s.modHose h fun x => { x with ctx := some (sampleCtx c m), resG := m.resG, resN := m.resN }
  ((u.bookMetered c.comp (signedBy c.kind m.n)).uncommit c.comp c.kind (c.term - (sampleCtx c m).term)).modHose h
    fun x => { x with timers := sampleTimers x pulses }

/-- The hose before the phase checks. -/
def meteredHose (x : Hose) (p : Profile) (c : Context) (m : Measured) (pulses : Nat) : Hose :=
  { x with
    ctx := some (sampleCtx c m), resG := m.resG, resN := m.resN
    timers := { x.timers with
      silence := if x.timers.silence.isSome then some p.silence else none
      noFlow := if 0 < pulses ∧ x.phase.flowing = true then some p.noFlow else x.timers.noFlow
      settle := if 0 < pulses ∧ x.phase = .closing then some p.settle else x.timers.settle } }

theorem metered_eq {m : Measured} {pulses : Nat} {st : Settings} {sum : Int} (hp : (s.hose h).profile = some p)
    (hs : (s.comp c.comp).settings = some st) (made : (s.comp c.comp).book + signedBy c.kind m.n = sum) :
    let x := s.comp c.comp
    let book := if fits48 sum then sum else (Config.unstated48 s.draws sum).toInt
    let low := decide (x.restock = .normal ∧ book < st.low)
    let back := decide (x.restock ≠ .normal ∧ (st.low : Int) + st.hysteresis ≤ book)
    let fall := c.term - (sampleCtx c m).term
    s.metered h c m pulses = { s with
      hoses := vset s.hoses h (meteredHose (s.hose h) p c m pulses)
      comps := vset s.comps c.comp { x with
        book := book
        committedIssue := match c.kind with | .delivery => x.committedIssue - fall | .receipt => x.committedIssue
        committedReceive := match c.kind with | .receipt => x.committedReceive - fall | .delivery => x.committedReceive
        restock := if low then .low else if back then .normal else x.restock
        orderRef := if back then none else x.orderRef
        requestTime := if low then some s.resp.clock else if back then none else x.requestTime }
      cab := if low then s.cab.offerControl ⟨.restock c.comp, restockFrame c.comp st.grade book st.capacity s.resp.clock⟩
        else s.cab
      draws := if fits48 sum then s.draws else s.draws + 1 } := by
  intro x book low back fall
  have booked := bookMetered_configured (k := c.comp)
    (s := s.modHose h fun x => { x with ctx := some (sampleCtx c m), resG := m.resG, resN := m.resN }) hs made
  unfold metered
  dsimp only
  rw [booked]
  simp only [uncommit, modHose, setHose, setComp, hose, comp, vget_vset_self, vset_vset, withCommit_eq]
  rw [sampleTimers_eq (p := p)]
  · rfl
  · exact hp

/-- The sample PROGRESS after the checks, where the port has room (R50). -/
theorem sampleProgress_checkedTo (next : Phase) : (s.checkedTo h p c next).sampleProgress h =
    let progress := progressFrame h next c.net c.amountSoFar
    let entered := if decide (next ≠ (s.hose h).phase) then s.cab.offerOrdinary progress else s.cab
    (s.checkedTo h p c next).setCabPort (if entered.room then entered.offerOrdinary progress else entered) := by
  have frame : ((s.checkedTo h p c next).hose h).progress h = progressFrame h next c.net c.amountSoFar := by
    show ((s.setHose h ((s.hose h).movedTo p c next)).hose h).progress h = _
    rw [setHose_hose_self]
    rfl
  unfold sampleProgress
  rw [frame]
  exact (apply_ite (fun q => (s.checkedTo h p c next).setCabPort q) _ _ _).symm

/-- An applied sample by its stages: metered, checked, and its PROGRESS. -/
theorem appliedSample_eq {m : Measured} {pulses : Nat} {x : Hose}
    (hose : (s.metered h c m pulses).hose h = meteredHose x p c m pulses) (hp : x.profile = some p) :
    s.appliedSample h c m pulses = ((s.metered h c m pulses).checkedTo h p (sampleCtx c m)
      (x.phase.checked p c.preset (sampleCtx c m).net)).sampleProgress h := by
  have checks := phaseCheck_eq (s := s.metered h c m pulses) (h := h) (p := p) (c := sampleCtx c m)
    (by rw [hose]; exact hp) (by rw [hose]; rfl)
  refine (congrArg (State.sampleProgress h) checks).trans ?_
  rw [hose]
  rfl

/-- A sample applied in an execution phase. -/
theorem sample_executing {seq : Byte} {total temp : Half} {r : PulseRef} {cal : Calibration}
    (executing : (s.hose h).phase.executing = true) (hp : (s.hose h).profile = some p) (hc : (s.hose h).ctx = some c)
    (hcal : (s.hose h).cal = some cal) (hr : (s.hose h).pulse = some r) (new : seq ≠ r.seq) :
    s.sample h seq total temp = (s.setHose h { s.hose h with pulse := some ⟨total, seq⟩ }).appliedSample h c
      (measure cal (vget s.betas c.grade) (seq - r.seq).toNat (total - r.total).toNat (s.hose h).resG (s.hose h).resN
        (tempOf temp) c.heldTemp) (total - r.total).toNat := by
  unfold sample modHose
  dsimp only
  rw [hp, hr, classify_applied new, refAfter_applied new, hc, hcal]
  cases e : (s.hose h).phase with
  | slowStart | fullFlow | slowStop | held | closing => rfl
  | off | idle | authorized | result => rw [e] at executing; cases executing

end State

open State

/-- Settles O35: the stages, the book and the checks, put together in the order of the sample. -/
theorem appliedSampleIsMetered : Obligations.AppliedSampleIsMetered := by
  intro a seq total temp s h p c cal st r ready hp hc hcal hs executing hr new old step pulses rate factor product g given held
    used correction sum n net phase moves ends ctx valve running hose x exactSum book low back fall comp progress judged entered
    received
  -- the stages of the sample
  let u := (s.countGood .field).setHose h { old with pulse := some ⟨total, seq⟩ }
  let m := measure cal (vget s.betas c.grade) step pulses old.resG old.resN given c.heldTemp
  have heldIs : m.temp.held = held := chooseTemp_held given c.heldTemp g
  have usedIs : m.temp.used = used := (chooseTemp_used given c.heldTemp g).trans (congrArg (·.getD 150) heldIs)
  have sumIs : g * (vcf (vget s.betas c.grade) m.temp.used).toNat + old.resN = sum := by rw [usedIs]; rfl
  have netIs : m.n = n := congrArg (· / 1000000) sumIs
  have residueIs : m.resN = sum % 1000000 := congrArg (· % 1000000) sumIs
  let k : Context := { ctx with endCause := c.endCause }
  have ctxIs : sampleCtx c m = k := by
    refine (sampleCtx_eq c cal (vget s.betas c.grade) step pulses old.resG old.resN given).trans ?_
    rw [netIs, heldIs, usedIs]
    rfl
  -- the hose and the compartment before the phase checks
  let measured : Hose := { old with
    ctx := some k, pulse := some ⟨total, seq⟩, resG := product % 100000000, resN := sum % 1000000, timers := running }
  have hoseIs : meteredHose (u.hose h) p c m pulses = measured := by
    unfold meteredHose
    rw [setHose_hose_self, ctxIs, residueIs]
    rfl
  have made : x.book + signedBy c.kind m.n = exactSum := by
    rw [netIs]
    show _ = match c.kind with | .delivery => x.book - n | .receipt => x.book + n
    cases c.kind <;> rfl
  have whole := metered_eq (s := u) (h := h) (m := m) (pulses := pulses)
    (by rw [setHose_hose_self]; exact hp) hs made
  rw [hoseIs, ctxIs] at whole
  have moved : (u.metered h c m pulses).hose h = measured := by
    rw [whole]
    exact vget_vset_self _ _ _
  -- the checks, and the state they leave
  have applied : (s.countGood .field).sample h seq total temp = u.appliedSample h c m pulses :=
    sample_executing executing hp hc hcal hr new
  have checked := appliedSample_eq (moved.trans hoseIs.symm) (by rw [setHose_hose_self]; exact hp)
  have next : (u.hose h).phase.checked p c.preset (sampleCtx c m).net = phase := by
    rw [ctxIs, setHose_hose_self]
    rfl
  rw [next, ctxIs, sampleProgress_checkedTo] at checked
  rw [exec_meterSample ready, applied, checked, checkedTo, moved, whole]
  have hoses : vset (vset u.hoses h measured) h (measured.movedTo p k phase) = vset s.hoses h hose := by
    rw [vset_vset]
    exact vset_vset _ _ _ _
  exact congrArg Host.Outcome.next (State.ext rfl hoses rfl rfl rfl rfl rfl rfl rfl rfl rfl rfl rfl rfl rfl)

end Sys2Proof.Machine
end

section
/-! PROOF. Nothing is lost between samples (R74, R77, R78): each stage divides by its unit and carries the remainder. -/

namespace Sys2Proof.Machine

/-! ### A stage that carries its remainder (R78) -/

/-- A total in units, with a residue below one unit, that accounts for an exact sum. -/
def Carried (unit total residue sum : Nat) : Prop := sum = unit * total + residue ∧ residue < unit

theorem Carried.zero {unit : Nat} (pos : 0 < unit) : Carried unit 0 0 0 := ⟨rfl, pos⟩

/-- The next product is divided together with the residue, and its remainder is the next residue. -/
theorem Carried.add {unit total residue sum : Nat} (c : Carried unit total residue sum) (product : Nat) :
    Carried unit (total + (product + residue) / unit) ((product + residue) % unit) (sum + product) := by
  obtain ⟨exact, below⟩ := c
  refine ⟨?_, Nat.mod_lt _ (Nat.zero_lt_of_lt below)⟩
  have divided := Nat.div_add_mod (product + residue) unit
  rw [Nat.mul_add]
  omega

/-- A total that accounts for the exact sum is its floor. -/
theorem Carried.floor {unit total residue sum : Nat} (c : Carried unit total residue sum) : total = sum / unit := by
  obtain ⟨exact, below⟩ := c
  rw [exact, Nat.mul_add_div (Nat.zero_lt_of_lt below), Nat.div_eq_of_lt below, Nat.add_zero]

/-! ### The gross and the net stage (R74, R77) -/

/-- A run's totals, residues, held temperature and exact sums: both stages account for their sums. -/
def NothingLost : Nat × Nat × Nat × Nat × Option Int × Nat × Nat → Prop
  | (gross, net, resG, resN, _, sumG, sumN) => Carried 100000000 gross resG sumG ∧ Carried 1000000 net resN sumN

/-- Settles O38, by induction on the samples: each applied sample adds its product to both stages. -/
theorem totalsAreFloorsOfTheExactSums : Obligations.TotalsAreFloorsOfTheExactSums := by
  intro cal beta samples _ runs
  have nothingLost : NothingLost runs := by
    refine List.foldlRecOn samples _ ⟨.zero (by decide), .zero (by decide)⟩ ?_
    rintro ⟨gross, net, resG, resN, held, sumG, sumN⟩ ⟨grossStage, netStage⟩ ⟨step, p, t⟩ -
    exact ⟨grossStage.add (p * cal.weight * cal.factor (bandRate p step)), netStage.add _⟩
  obtain ⟨grossStage, netStage⟩ := nothingLost
  exact ⟨grossStage.floor, netStage.floor, grossStage.2, netStage.2⟩

end Sys2Proof.Machine
end

section
/-! PROOF. LOAD_CALIBRATION and LOAD_GRADE (R82 to R86): their refusals in order, what they store, and the change counter. -/

namespace Sys2Proof.Machine

/-! ### The calibration form (R82, R83) -/

theorem calRangeOk_iff {f : CalForm} : calRangeOk f = true ↔ 1 ≤ f.u1.toNat ∧ f.u1.toNat < f.u2.toNat
    ∧ f.u2.toNat < f.u3.toNat ∧ f.u3.toNat ≤ 4095 ∧ f.u3.toNat < f.uOver.toNat := by
  simp [calRangeOk, and_assoc]

theorem clamp_eq_min_max {lo hi : Nat} (v : Nat) (le : lo ≤ hi) : clamp lo hi v = min (max v lo) hi := by
  rw [clamp_eq_max_min v le]
  omega

theorem calOf_eq (f : CalForm) : calOf f =
    { weight := min (max f.weight.toNat 1000) 100000, u1 := f.u1.toNat, u2 := f.u2.toNat, u3 := f.u3.toNat
      c1 := min (max f.c1.toNat 99000) 101000, c2 := min (max f.c2.toNat 99000) 101000
      c3 := min (max f.c3.toNat 99000) 101000, c4 := min (max f.c4.toNat 99000) 101000, uOver := f.uOver.toNat } := by
  simp (disch := decide) only [calOf, clamp_eq_min_max]

theorem calAdjusted_eq_false_iff {f : CalForm} : calAdjusted f = false ↔ (calOf f).weight = f.weight.toNat
    ∧ (calOf f).c1 = f.c1.toNat ∧ (calOf f).c2 = f.c2.toNat ∧ (calOf f).c3 = f.c3.toNat ∧ (calOf f).c4 = f.c4.toNat := by
  simp [calAdjusted, and_assoc]

/-- The result of an accepted load by whether it stored the form as given (R83). -/
theorem adjusted_result {adjusted : Bool} {asGiven : Prop} [Decidable asGiven] (e : adjusted = false ↔ asGiven) :
    (if adjusted then ResultCode.adjusted else .ok) = if asGiven then .ok else .adjusted := by
  by_cases given : asGiven
  · rw [if_pos given, e.mpr given]
    exact if_neg Bool.false_ne_true
  · rw [if_neg given, if_pos (Bool.eq_true_of_not_eq_false (mt e.mp given))]

namespace State

variable {s : State} {hose grade : Byte} {h : HoseId} {k : Grade} {f : CalForm} {beta : Half}

/-! ### LOAD_CALIBRATION, in the order of its tests (R82) -/

theorem cmdLoadCalibration_protected (on : s.resp.calProtect = true) :
    s.cmdLoadCalibration hose f = (s, fail .protectedFlag) := if_pos on

theorem cmdLoadCalibration_noHose (off : s.resp.calProtect = false) (none : 6 ≤ hose.toNat) :
    s.cmdLoadCalibration hose f = (s, fail .range) := by
  unfold cmdLoadCalibration
  rw [off, finOf_eq_none.mpr none]
  exact if_neg Bool.false_ne_true

/-- What remains to be tested at a hose, and what is stored there. -/
theorem cmdLoadCalibration_atHose (off : s.resp.calProtect = false) (e : hose.toNat = h.val) :
    s.cmdLoadCalibration hose f = if !(s.hose h).phase.atRest then (s, fail .busy)
      else if !calRangeOk f then (s, fail .range)
      else ((s.setHose h { s.hose h with cal := some (calOf f) }).bumpCal,
        passAdj (calAdjusted f) (beN 2 (min (s.calCounter + 1) 65535) ++ (calOf f).bytes)) := by
  unfold cmdLoadCalibration
  rw [off, finOf_eq_some.mpr e]
  exact if_neg Bool.false_ne_true

/-! ### LOAD_GRADE, in the order of its tests (R84) -/

/-- The hoses that keep a grade's coefficient as it is. -/
theorem gradeActive_iff : s.gradeActive k = true ↔ ∃ (h : HoseId) (c : CompId) (st : Settings),
    (s.hose h).phase.active = true ∧ (s.hose h).drawsOn c = true ∧ (s.comp c).settings = some st ∧ st.grade = k := by
  simp only [gradeActive, anyHose, List.any_eq_true, mem_ids, true_and, Bool.and_eq_true, exists_and_left]
  refine exists_congr fun h => and_congr_right fun _ => exists_congr fun c => and_congr_right fun _ => ?_
  cases (s.comp c).settings <;> simp

theorem cmdLoadGrade_protected (on : s.resp.calProtect = true) : s.cmdLoadGrade grade beta = (s, fail .protectedFlag) :=
  if_pos on

theorem cmdLoadGrade_noGrade (off : s.resp.calProtect = false) (none : 8 ≤ grade.toNat) :
    s.cmdLoadGrade grade beta = (s, fail .range) := by
  unfold cmdLoadGrade
  rw [off, finOf_eq_none.mpr none]
  exact if_neg Bool.false_ne_true

/-- What remains to be tested of a grade, and what is stored. -/
theorem cmdLoadGrade_ofGrade (off : s.resp.calProtect = false) (e : grade.toNat = k.val) :
    s.cmdLoadGrade grade beta = if s.gradeActive k then (s, fail .busy)
      else ((s.setBetas (vset s.betas k (min beta.toNat 200))).bumpCal,
        passAdj (200 < beta.toNat) (beN 2 (min (s.calCounter + 1) 65535) ++ beN 2 (min beta.toNat 200))) := by
  unfold cmdLoadGrade
  rw [off, finOf_eq_some.mpr e]
  exact if_neg Bool.false_ne_true

end State

open State

/-- Settles O39: the refusals of both commands in their order, then what each stores and answers. -/
theorem calibrationLoadsAreCounted : Obligations.CalibrationLoadsAreCounted := by
  intro a s ready g n
  refine ⟨?_, ?_⟩
  · intro hose f load ordered factor cal
    refine ⟨fun on => takeCommand_answered ready (cmdLoadCalibration_protected on),
      fun off none => takeCommand_answered ready (cmdLoadCalibration_noHose off none), fun h off e => ?_⟩
    intro rest
    have tests := cmdLoadCalibration_atHose (s := g) (f := f) off e
    have moving : (!(g.hose h).phase.atRest) = true ↔ ¬ rest := Bool.not_iff_not.trans (not_congr atRest_iff)
    have unordered : (!calRangeOk f) = true ↔ ¬ ordered := Bool.not_iff_not.trans (not_congr calRangeOk_iff)
    have atRest (still : rest) := tests.trans (if_neg (mt moving.mp (not_not.mpr still)))
    refine ⟨fun moves => takeCommand_answered ready (tests.trans (if_pos (moving.mpr moves))),
      fun still bad => takeCommand_answered ready ((atRest still).trans (if_pos (unordered.mpr bad))),
      fun still good => ?_⟩
    have stored := (atRest still).trans (if_neg (mt unordered.mp (not_not.mpr good)))
    rw [passAdj, adjusted_result calAdjusted_eq_false_iff, calOf_eq] at stored
    exact takeCommand_answered ready stored
  · intro grade beta load
    refine ⟨fun on => takeCommand_answered ready (cmdLoadGrade_protected on),
      fun off none => takeCommand_answered ready (cmdLoadGrade_noGrade off none), fun k off e => ?_⟩
    intro active
    have tests := cmdLoadGrade_ofGrade (s := g) (beta := beta) off e
    have isActive : g.gradeActive k = true ↔ active := gradeActive_iff
    refine ⟨fun busy => takeCommand_answered ready (tests.trans (if_pos (isActive.mpr busy))), fun idle => ?_⟩
    rw [if_neg (mt isActive.mp idle), passAdj] at tests
    refine (takeCommand_answered ready tests).trans ?_
    rw [if_congr decide_eq_true_iff rfl rfl]
    rfl

end Sys2Proof.Machine
end

section
/-! PROOF. The committed volumes (R90) at a flow start: the hose's term becomes the whole of E, whatever it was before. -/

namespace Sys2Proof.Machine

namespace State

variable {s : State} {h : HoseId} {p : Profile} {c : Context}

/-- A flow start sets the net volume to 0 (R49), so that its hose's term becomes the whole of E. -/
theorem flowStart_hoseTerm (hp : (s.hose h).profile = some p) (hc : (s.hose h).ctx = some c) :
    (s.flowStart h).hoseTerm c.kind c.comp h = c.preset := by
  rw [flowStart_eq hp hc]
  simp [hoseTerm, Context.term, Phase.active, Phase.executing, Phase.flowing]

/-- A hose's term is part of the sum. -/
theorem hoseTerm_le_committed (s : State) (k : TxKind) (c : CompId) (h : HoseId) : s.hoseTerm k c h ≤ s.committed k c :=
  List.single_le_sum (fun _ _ => Nat.zero_le _) _ (List.mem_map.mpr ⟨h, mem_ids h, rfl⟩)

/-- It leaves the committed volumes alone (R90), so that one that held less than E is no longer the sum of its terms. -/
theorem flowStart_not_commitmentsOk (hp : (s.hose h).profile = some p) (hc : (s.hose h).ctx = some c)
    (kind : c.kind = .delivery) (short : (s.comp c.comp).committedIssue < c.preset) : ¬ (s.flowStart h).CommitmentsOk := by
  rintro ⟨-, sums, -⟩
  have least := hoseTerm_le_committed (s.flowStart h) c.kind c.comp h
  rw [flowStart_hoseTerm hp hc, kind, ← (sums c.comp).1, flowStart_comp] at least
  omega

end State

open State

namespace NetBeforeFlow

def profile : Profile :=
  { mode := .issue, head := 10, comp := 0, classMask := 0, maxPreset := 1, minDelivery := 1, slowStart := 0, slowStop := 0,
    window := 10, noFlow := 5, silence := 5, settle := 5, postDelay := 0, holdLimit := 30 }

/-- A delivery of 1 mL that is AUTHORIZED with a net volume of 1 mL: nothing remains of its term. -/
def context : Context := { freshContext .delivery 0 0 0 1 0 none with net := 1 }

def settings : Settings :=
  { grade := 0, probe := none, capacity := 1, dead := 0, low := 0, hysteresis := 0, high := 1, tolerance := 0, limit := 1 }

/-- The state after reset, but for this delivery at hose 0 and the compartment it draws on; its nozzle is about to be lifted. -/
def state : State :=
  ((State.reset.setHose 0 { Hose.cold with profile := some profile, phase := .authorized, ctx := some context }).setComp 0
    { Compartment.cold with settings := some settings }).setPending [.nozzle ⟨0, 10⟩ 1]

theorem hose_other {h : HoseId} (other : h ≠ 0) : state.hose h = Hose.cold :=
  (setHose_hose_ne _ _ other).trans (reset_hose h)

theorem commitmentsOk : state.CommitmentsOk := by
  have hoses : state.HosesOk := by decide
  refine ⟨hoses, by decide, fun h x hx => ?_⟩
  by_cases e : h = 0
  · subst e
    obtain rfl : context = x := Option.some.inj hx
    exact ⟨by decide, fun _ => rfl⟩
  · rw [hose_other e] at hx
    cases hx

end NetBeforeFlow

/-- Refutes O58: CommitmentsOk lets an AUTHORIZED hose hold a net volume, which its term leaves out of the committed volume; its
flow start sets the net volume to 0 (R49) and the term rises, the committed volume does not. No run reaches such a hose:
every acceptance fills its context with a net volume of 0. -/
theorem not_stepKeepsCommitments : ¬ Obligations.StepKeepsCommitments := by
  rintro ⟨keeps, -⟩
  let u := (NetBeforeFlow.state.setPending []).countGood .field
  have lifted : step NetBeforeFlow.state = .next (u.nozzleEvent 0 .lifted) := exec_nozzle (by decide) rfl
  have starts : u.nozzleEvent 0 .lifted = (u.setHose 0 { u.hose 0 with nozzle := .lifted }).flowStart 0 :=
    nozzleEvent_starts rfl rfl rfl
  have ok := keeps _ _ NetBeforeFlow.commitmentsOk lifted
  rw [starts] at ok
  exact flowStart_not_commitmentsOk (p := NetBeforeFlow.profile) (c := NetBeforeFlow.context) rfl rfl rfl (by decide) ok

end Sys2Proof.Machine
end

section
/-! PROOF. A PROBE at its compartment (R92, R93): faults, and readings below the high threshold. -/

namespace Sys2Proof.Machine

namespace State

variable {s : State} {a : Addr} {c : CompId} {st : Settings} {reading : Nat} {volume : Word}

/-! ### Who executes on a compartment (R93, R102, R103) -/

theorem anyHose_iff {f : Hose → Bool} : s.anyHose f = true ↔ ∃ h, f (s.hose h) = true := by simp [anyHose]

theorem executingOn_iff :
    s.executingOn c = true ↔ ∃ h, (s.hose h).drawsOn c = true ∧ (s.hose h).phase.executing = true := by
  simp [executingOn, anyHose_iff]

theorem executingOn_eq_false (rest : ∀ h, (s.hose h).drawsOn c = true → (s.hose h).phase.executing = false) :
    s.executingOn c = false := by
  rw [← Bool.not_eq_true, executingOn_iff]
  rintro ⟨h, draws, executes⟩
  simp [rest h draws] at executes

/-! ### A PROBE at its compartment (R92, R93) -/

/-- A FAULT is counted, and nothing else. -/
theorem exec_probe_fault (ready : s.ProbeReady a c) : exec (.probe a volume 1#8) s = .next
    ((s.countGood .field).setComp c { s.comp c with probeFaults := min ((s.comp c).probeFaults + 1) 65535 }) :=
  congrArg Host.Outcome.next ((takeField_probe ready).trans (if_pos rfl))

/-- An OK reading below the high threshold takes the variance check alone. -/
theorem exec_probe_below (ready : s.ProbeReady a c) (hs : (s.comp c).settings = some st) (low : volume.toNat < st.high) :
    exec (.probe a volume 0#8) s = .next (((s.countGood .field).setComp c
      { s.comp c with lastReading := some volume.toNat, readingTime := some s.resp.clock }).varianceCheck c st
        volume.toNat) :=
  (exec_probe ready hs).trans (congrArg Host.Outcome.next (if_pos low))

theorem varianceCheck_within (rest : s.executingOn c = false) (within : ((s.comp c).book - reading).natAbs ≤ st.tolerance) :
    s.varianceCheck c st reading = s.setComp c { s.comp c with varCount := 0 } := by
  rw [varianceCheck_eq]
  simp [rest, Nat.not_lt.mpr within]

/-- Outside the tolerance the count rises, and where it first meets the limit the flag and the cause are set. -/
theorem varianceCheck_outside (rest : s.executingOn c = false)
    (outside : st.tolerance < ((s.comp c).book - reading).natAbs) :
    let x := s.comp c
    let t := s.setComp c { x with
      varCount := min (x.varCount + 1) 15, varFlag := x.varFlag || decide (st.limit ≤ x.varCount + 1) }
    s.varianceCheck c st reading = if st.limit ≤ x.varCount + 1 ∧ x.varFlag = false then t.setCause .variance else t := by
  intro x t
  rw [varianceCheck_eq]
  simp [rest, outside, x, t]

end State

open State

/-- Settles O40: a FAULT is counted; below the threshold an OK reading leaves what the variance check leaves. -/
theorem probeReadingsKeepTheVarianceCount : Obligations.ProbeReadingsKeepTheVarianceCount := by
  intro a volume s c st ready hs g x read
  refine ⟨exec_probe_fault ready, fun low => ?_⟩
  have event : exec (.probe a volume 0#8) s = .next ((g.setComp c read).varianceCheck c st volume.toNat) :=
    exec_probe_below ready hs low
  have same : (g.setComp c read).comp c = read := setComp_comp_self ..
  rw [event]
  refine ⟨fun executing => congrArg _ (varianceCheck_paused (executingOn_iff.mpr executing)), fun rest => ?_⟩
  have rest : (g.setComp c read).executingOn c = false := executingOn_eq_false rest
  refine ⟨fun within => ?_, fun outside => ?_⟩
  · rw [varianceCheck_within rest (by rw [same]; exact within), same, setComp_setComp]
  · intro u
    rw [varianceCheck_outside rest (by rw [same]; exact outside), same, setComp_setComp]

end Sys2Proof.Machine
end

section
/-! PROOF. LOAD_COMPARTMENT, ACK_RESTOCK and SET_STOCK (R98 to R102), and the restock judgement (R96, R97). -/

namespace Sys2Proof.Machine

/-! ### The compartment form (R99, R100) -/

theorem probeOf_eq_none {b : Byte} (out : b.toNat < 2 ∨ (31 < b.toNat ∧ b ≠ 0xFF#8)) : probeOf b = none := by
  have present : b ≠ 0xFF#8 := by
    rcases out with low | ⟨-, present⟩
    · rintro rfl
      exact absurd low (by decide)
    · exact present
  rw [probeOf, if_neg present, deviceNode_eq_none (out.imp_right And.left)]
  rfl

/-- A probe operand that names no probe, or a node of 2 to 31. -/
theorem probeOf_eq_some {b : Byte} {n : Option Node}
    (e : match n with | none => b = 0xFF#8 | some y => b.toNat = y.val ∧ 2 ≤ y.val) : probeOf b = some n := by
  cases n with
  | none => exact if_pos e
  | some y =>
    obtain ⟨value, low⟩ := e
    have present : b ≠ 0xFF#8 := by
      rintro rfl
      exact absurd (value ▸ y.isLt) (by decide)
    rw [probeOf, if_neg present, deviceNode_eq_some value low]
    rfl

/-- An operand byte is DEFAULT where all its bits are set. -/
theorem toNat_eq_255_iff {b : Byte} : b.toNat = 0xFF ↔ b = 0xFF#8 :=
  ⟨fun e => BitVec.eq_of_toNat_eq e, fun e => e ▸ rfl⟩

/-- The stored settings, each item against those already settled (R100). -/
theorem settingsOf_eq (k : Grade) (n : Option Node) (f : CompForm) :
    let high := max 1 (min f.high.toNat f.capacity.toNat)
    let low := min f.low.toNat high
    settingsOf k n f =
      { grade := k, probe := n, capacity := f.capacity.toNat, dead := min f.dead.toNat low, low := low,
        hysteresis := min f.hysteresis.toNat (high - low), high := high, tolerance := min f.tolerance.toNat 999999,
        limit := if f.limit = 0xFF#8 then 3 else min (max f.limit.toNat 1) 15 } := by
  simp (disch := decide) only [settingsOf, orDefault, clamp_eq_min_max, toNat_eq_255_iff]

theorem settingsAdjusted_eq_false_iff {k : Grade} {n : Option Node} {f : CompForm} :
    settingsAdjusted k n f = false ↔ (settingsOf k n f).high = f.high.toNat ∧ (settingsOf k n f).low = f.low.toNat
      ∧ (settingsOf k n f).dead = f.dead.toNat ∧ (settingsOf k n f).hysteresis = f.hysteresis.toNat
      ∧ (settingsOf k n f).tolerance = f.tolerance.toNat
      ∧ (f.limit = 0xFF#8 ∨ (settingsOf k n f).limit = f.limit.toNat) := by
  have limit : wasClamped 0xFF 1 15 f.limit.toNat = false
      ↔ f.limit = 0xFF#8 ∨ (settingsOf k n f).limit = f.limit.toNat := by
    have clamped : (1 ≤ f.limit.toNat ∧ f.limit.toNat ≤ 15) ↔ min (max f.limit.toNat 1) 15 = f.limit.toNat := by omega
    rw [wasClamped_eq_false_iff (by decide), toNat_eq_255_iff, settingsOf_eq]
    dsimp only
    rw [clamped]
    by_cases default : f.limit = 0xFF#8 <;> simp [default]
  simp only [settingsAdjusted, Bool.or_eq_false_iff, bne_eq_false_iff_eq, limit, and_assoc]

namespace State

variable {s : State} {a : Addr} {comp : Byte} {c : CompId} {f : CompForm} {k : Grade} {n : Option Node} {st : Settings}

/-! ### What R99 looks at -/

theorem probeNodeTaken_iff : s.probeNodeTaken c n = true ↔ ∃ y, n = some y ∧ ((s.headOwner y).isSome = true
    ∨ ∃ d st, d ≠ c ∧ (s.comp d).settings = some st ∧ st.probe = some y) := by
  cases n with
  | none => simp [probeNodeTaken]
  | some y =>
    simp only [probeNodeTaken, Bool.or_eq_true, List.any_eq_true, mem_ids, true_and, Option.some.injEq, exists_eq_left']
    refine or_congr Iff.rfl (exists_congr fun d => ?_)
    cases (s.comp d).settings <;> simp

theorem gradeBusy_iff : s.gradeBusy c k = true ↔ ∃ st, (s.comp c).settings = some st ∧ st.grade ≠ k
    ∧ ∃ h, (s.hose h).drawsOn c = true ∧ (s.hose h).phase.active = true := by
  unfold gradeBusy
  cases (s.comp c).settings <;> simp [anyHose_iff]

/-! ### LOAD_COMPARTMENT, in the order of its tests (R99 to R101) -/

/-- Operands that name no compartment, grade or probe. -/
theorem cmdLoadCompartment_unread
    (out : finOf 4 comp.toNat = none ∨ finOf 8 f.grade.toNat = none ∨ probeOf f.probe = none) :
    s.cmdLoadCompartment comp f = (s, fail .range) := by
  unfold cmdLoadCompartment
  split
  · next hc hg hp =>
    rw [hc, hg, hp] at out
    rcases out with out | out | out <;> cases out
  · rfl

/-- With operands that name compartment c, grade k and probe n, what remains to be tested and what is stored. -/
theorem cmdLoadCompartment_read (hc : finOf 4 comp.toNat = some c) (hk : finOf 8 f.grade.toNat = some k)
    (hn : probeOf f.probe = some n) :
    s.cmdLoadCompartment comp f =
      if s.probeNodeTaken c n = true ∨ f.capacity = 0 ∨ 99999999 < f.capacity.toNat then (s, fail .range)
      else if s.gradeBusy c k = true then (s, fail .busy)
      else ((s.setComp c (loadedComp (s.comp c) (settingsOf k n f))).judge c,
        passAdj (settingsAdjusted k n f) (settingsOf k n f).bytes) := by
  have zero : f.capacity.toNat = 0 ↔ f.capacity = 0 :=
    ⟨fun z => BitVec.eq_of_toNat_eq z, fun z => z ▸ rfl⟩
  unfold cmdLoadCompartment
  rw [hc, hk, hn]
  simp [zero, or_assoc]

/-- A capacity outside 1 to 99,999,999 mL. -/
theorem cmdLoadCompartment_capacity (out : f.capacity = 0 ∨ 99999999 < f.capacity.toNat) :
    s.cmdLoadCompartment comp f = (s, fail .range) := by
  cases hc : finOf 4 comp.toNat with
  | none => exact cmdLoadCompartment_unread (.inl hc)
  | some c => cases hk : finOf 8 f.grade.toNat with
    | none => exact cmdLoadCompartment_unread (.inr (.inl hk))
    | some k => cases hn : probeOf f.probe with
      | none => exact cmdLoadCompartment_unread (.inr (.inr hn))
      | some n => exact (cmdLoadCompartment_read hc hk hn).trans (if_pos (.inr out))

/-! ### ACK_RESTOCK (R98) -/

theorem cmdAckRestock_noComp {r : Word} (none : 4 ≤ comp.toNat) : s.cmdAckRestock comp r = (s, fail .range) := by
  unfold cmdAckRestock
  rw [finOf_eq_none.mpr none]

theorem cmdAckRestock_state {r : Word} (e : comp.toNat = c.val)
    (unmet : (s.comp c).settings = none ∨ (s.comp c).restock = .normal) : s.cmdAckRestock comp r = (s, fail .state) := by
  unfold cmdAckRestock
  rw [finOf_eq_some.mpr e]
  dsimp only
  cases hs : (s.comp c).settings with
  | none => rfl
  | some st =>
    have normal : (s.comp c).restock = .normal := unmet.resolve_left (by simp [hs])
    rw [normal]

theorem cmdAckRestock_ordered {r : Word} (e : comp.toNat = c.val) (hs : (s.comp c).settings ≠ none)
    (low : (s.comp c).restock ≠ .normal) :
    s.cmdAckRestock comp r = (s.setComp c { s.comp c with restock := .ordered, orderRef := some r }, passOk []) := by
  obtain ⟨st, hs⟩ := Option.ne_none_iff_exists'.mp hs
  unfold cmdAckRestock
  rw [finOf_eq_some.mpr e]
  dsimp only
  rw [hs]
  cases hr : (s.comp c).restock with
  | normal => exact absurd hr low
  | low | ordered => rfl

/-! ### SET_STOCK, in the order of its tests (R102) -/

theorem cmdSetStock_noComp {v : Word} (none : 4 ≤ comp.toNat) : s.cmdSetStock comp v = (s, fail .range) := by
  unfold cmdSetStock
  rw [finOf_eq_none.mpr none]

theorem cmdSetStock_unconfigured {v : Word} (e : comp.toNat = c.val) (hs : (s.comp c).settings = none) :
    s.cmdSetStock comp v = (s, fail .state) := by
  unfold cmdSetStock
  rw [finOf_eq_some.mpr e]
  dsimp only
  rw [hs]

/-- At a configured compartment. -/
theorem cmdSetStock_configured {v : Word} (e : comp.toNat = c.val) (hs : (s.comp c).settings = some st) :
    s.cmdSetStock comp v = if st.capacity < v.toNat then (s, fail .range)
      else if s.executingOn c then (s, fail .busy) else (s.resetBook c v.toNat, passOk []) := by
  unfold cmdSetStock
  rw [finOf_eq_some.mpr e]
  dsimp only
  rw [hs]

/-! ### The restock judgement (R96, R97) -/

theorem judge_low (hs : (s.comp c).settings = some st) (normal : (s.comp c).restock = .normal)
    (below : (s.comp c).book < st.low) : s.judge c =
      (s.setComp c { s.comp c with restock := .low, requestTime := some s.resp.clock }).cabControl (.restock c)
        (restockFrame c st.grade (s.comp c).book st.capacity s.resp.clock) := by
  unfold judge
  rw [hs]
  dsimp only
  rw [normal]
  exact if_pos below

theorem judge_normal (hs : (s.comp c).settings = some st) (normal : (s.comp c).restock = .normal)
    (enough : (st.low : Int) ≤ (s.comp c).book) : s.judge c = s := by
  unfold judge
  rw [hs]
  dsimp only
  rw [normal]
  exact if_neg (Int.not_lt.mpr enough)

/-- In LOW and ORDERED the book is held against the low threshold plus the hysteresis. -/
theorem judge_requested (hs : (s.comp c).settings = some st) (requested : (s.comp c).restock ≠ .normal) :
    s.judge c = if (st.low : Int) + st.hysteresis ≤ (s.comp c).book then
      s.setComp c { s.comp c with restock := .normal, orderRef := none, requestTime := none } else s := by
  unfold judge
  rw [hs]
  dsimp only
  cases hr : (s.comp c).restock with
  | normal => exact absurd hr requested
  | low | ordered => rfl

end State

open State

/-- Settles O42: the refusals of each command in their order, then what it stores and answers, and the judgement by restock state
and book. -/
theorem compartmentCommands : Obligations.CompartmentCommands := by
  intro a s comp g
  refine ⟨fun big => ⟨fun ready f => takeCommand_answered ready (cmdLoadCompartment_unread (.inl (finOf_eq_none.mpr big))),
    fun ready => ⟨fun r => takeCommand_answered ready (cmdAckRestock_noComp big),
      fun v => takeCommand_answered ready (cmdSetStock_noComp big)⟩⟩, fun c e => ?_⟩
  intro x drawnBy
  refine ⟨?load, ?acknowledge, ?set, ?judge⟩
  case load =>
    intro ready f load
    refine ⟨fun out => ?_, fun k n hk hcap hmax hn => ?_⟩
    · refine takeCommand_answered ready ?_
      rcases out with grade | probe | probe | capacity | capacity
      · exact cmdLoadCompartment_unread (.inr (.inl (finOf_eq_none.mpr grade)))
      · exact cmdLoadCompartment_unread (.inr (.inr (probeOf_eq_none (.inl probe))))
      · exact cmdLoadCompartment_unread (.inr (.inr (probeOf_eq_none (.inr probe))))
      · exact cmdLoadCompartment_capacity (.inl capacity)
      · exact cmdLoadCompartment_capacity (.inr capacity)
    intro taken regraded high low st loaded
    have read := cmdLoadCompartment_read (s := g) (finOf_eq_some.mpr e) (finOf_eq_some.mpr hk) (probeOf_eq_some hn)
    have isTaken : g.probeNodeTaken c n = true ↔ taken := probeNodeTaken_iff
    have isRegraded : g.gradeBusy c k = true ↔ regraded := gradeBusy_iff
    have inRange (free : ¬ taken) := read.trans (if_neg (not_or.mpr ⟨mt isTaken.mp free, not_or.mpr ⟨hcap, by omega⟩⟩))
    refine ⟨fun t => takeCommand_answered ready (read.trans (if_pos (.inl (isTaken.mpr t)))),
      fun free busy => takeCommand_answered ready ((inRange free).trans (if_pos (isRegraded.mpr busy))),
      fun free idle => ?_⟩
    have stored := (inRange free).trans (if_neg (mt isRegraded.mp idle))
    rw [passAdj, adjusted_result settingsAdjusted_eq_false_iff, settingsOf_eq] at stored
    refine (takeCommand_answered ready stored).trans ?_
    have record : loadedComp (g.comp c) st = loaded := by
      show loadedComp x st = loaded
      unfold loadedComp loaded
      cases x.settings <;> rfl
    exact congrArg (fun y => Host.Outcome.next (((g.setComp c y).judge c).answer a.src .pass 25#8 _ st.bytes)) record
  case acknowledge =>
    exact fun ready r => ⟨fun unmet => takeCommand_answered ready (cmdAckRestock_state (s := g) e unmet),
      fun hs low => takeCommand_answered ready (cmdAckRestock_ordered (s := g) e hs low)⟩
  case set =>
    intro ready v
    refine ⟨fun hs => takeCommand_answered ready (cmdSetStock_unconfigured (s := g) e hs), fun st hs => ?_⟩
    have tests := cmdSetStock_configured (s := g) (v := v) e hs
    refine ⟨fun exceeds => takeCommand_answered ready (tests.trans (if_pos exceeds)), fun fits busy => ?_,
      fun fits idle => ?_⟩
    · exact takeCommand_answered ready
        (tests.trans ((if_neg (Nat.not_lt.mpr fits)).trans (if_pos (executingOn_iff.mpr busy))))
    · exact takeCommand_answered ready
        (tests.trans ((if_neg (Nat.not_lt.mpr fits)).trans (if_neg (mt executingOn_iff.mp idle))))
  case judge =>
    intro st hs
    refine ⟨judge_low hs, judge_normal hs, fun requested back => ?_, fun requested below => ?_⟩
    · rw [judge_requested hs requested, if_pos back]
    · rw [judge_requested hs requested, if_neg (Int.not_le.mpr below)]

end Sys2Proof.Machine
end

section
/-! PROOF. RECONCILE (R103, R104, R117, R118): its refusals in order, its record, and the new base. -/

namespace Sys2Proof.Machine

namespace State

variable {s : State} {a : Addr} {comp : Byte} {c : CompId} {st : Settings} {reading : Nat}

/-! ### RECONCILE, in the order of its tests (R103) -/

theorem cmdReconcile_noComp (none : 4 ≤ comp.toNat) : s.cmdReconcile comp = (s, fail .range) := by
  unfold cmdReconcile
  rw [finOf_eq_none.mpr none]

theorem cmdReconcile_unconfigured (e : comp.toNat = c.val) (hs : (s.comp c).settings = none) :
    s.cmdReconcile comp = (s, fail .state) := by
  unfold cmdReconcile
  rw [finOf_eq_some.mpr e]
  dsimp only
  rw [hs]

theorem cmdReconcile_busy (e : comp.toNat = c.val) (hs : (s.comp c).settings = some st)
    (executing : s.executingOn c = true) : s.cmdReconcile comp = (s, fail .busy) := by
  unfold cmdReconcile
  rw [finOf_eq_some.mpr e]
  dsimp only
  rw [hs]
  exact if_pos executing

theorem cmdReconcile_unread (e : comp.toNat = c.val) (hs : (s.comp c).settings = some st)
    (rest : s.executingOn c = false) (unread : (s.comp c).lastReading = none) :
    s.cmdReconcile comp = (s, fail .state) := by
  unfold cmdReconcile
  rw [finOf_eq_some.mpr e]
  dsimp only
  rw [hs]
  dsimp only
  rw [rest, unread]
  rfl

/-- With a reading, what remains to be tested and what is posted. -/
theorem cmdReconcile_read (e : comp.toNat = c.val) (hs : (s.comp c).settings = some st)
    (rest : s.executingOn c = false) (read : (s.comp c).lastReading = some reading) :
    s.cmdReconcile comp =
      if s.billing.full then (s, fail .logFull)
      else ((((s.setBilling (s.billing.postAdjustment (s.adjustmentRecord c st reading))).drawFor
          ((reading : Int) - (s.comp c).book)).levelRaised s.billing.level).resetBook c reading,
        passOk (beN 4 s.billing.nextSeq ++ be48 (BitVec.ofInt 48 (s.adjustmentRecord c st reading).net))) := by
  unfold cmdReconcile
  rw [finOf_eq_some.mpr e]
  dsimp only
  rw [hs]
  dsimp only
  rw [rest, read]
  rfl

/-! ### The posting (R104, R117, R118) -/

/-- An adjustment within 48 bits is recorded as it is and uses no free value (log entry 13). -/
theorem adjustmentRecord_fits (fits : fits48 ((reading : Int) - (s.comp c).book) = true) :
    s.adjustmentRecord c st reading =
      { seq := s.billing.nextSeq, kind := .adjustment, endCause := .reconciled,
        flags := if s.resp.clockSet then 0#16 else Flag.clockUnset.mask, hose := none, comp := c, grade := st.grade,
        cls := none, centre := none, machine := none, tag := none, period := s.table.period,
        startTime := (s.comp c).readingTime.getD 0, endTime := s.resp.clock, gross := (s.comp c).unattributed,
        net := (reading : Int) - (s.comp c).book, lastTemp := none, calCounter := s.calCounter, amount := none,
        hoursRef := none } := by
  have flags : flagIf (!s.resp.clockSet) .clockUnset = if s.resp.clockSet then 0#16 else Flag.clockUnset.mask := by
    cases s.resp.clockSet <;> rfl
  have net : s.signed48 ((reading : Int) - (s.comp c).book) = (reading : Int) - (s.comp c).book := if_pos fits
  unfold adjustmentRecord
  dsimp only
  rw [flags, net]

/-- A record joins the log without a reservation, and the level that it takes to 960 sets LOG_HIGH. -/
theorem postAdjustment_levelRaised (s : State) (r : Record) :
    (s.setBilling (s.billing.postAdjustment r)).levelRaised s.billing.level =
      if s.billing.level + 1 = 960 then (s.setBilling (s.billing.postAdjustment r)).setCause .logHigh
      else s.setBilling (s.billing.postAdjustment r) := by
  have level : (s.billing.postAdjustment r).level = s.billing.level + 1 := by
    simp [Billing.postAdjustment, Billing.level, Billing.storedCount, Nat.add_right_comm]
  unfold levelRaised
  rw [setBilling_billing, level]
  by_cases rises : s.billing.level + 1 = 960 <;> simp [rises]

end State

open State

/-- Settles O43: the refusals in R103's order, then the record, LOG_HIGH, and the book reset from the reading. -/
theorem reconcilePostsTheAdjustment : Obligations.ReconcilePostsTheAdjustment := by
  intro a comp s ready done
  refine ⟨fun big => takeCommand_answered ready (cmdReconcile_noComp big), fun c e => ?_⟩
  intro x executing full
  have isExecuting : (s.countGood .cab).executingOn c = true ↔ executing := executingOn_iff
  have isFull : (s.countGood .cab).billing.full = true ↔ full := Billing.full_iff _
  refine ⟨fun hs => takeCommand_answered ready (cmdReconcile_unconfigured (s := s.countGood .cab) e hs), fun st hs => ?_⟩
  have atRest (rest : ¬ executing) : (s.countGood .cab).executingOn c = false := Bool.not_eq_true _ ▸ mt isExecuting.mp rest
  refine ⟨fun busy => takeCommand_answered ready (cmdReconcile_busy (s := s.countGood .cab) e hs (isExecuting.mpr busy)),
    fun rest unread => takeCommand_answered ready (cmdReconcile_unread (s := s.countGood .cab) e hs (atRest rest) unread),
    fun reading rest read => ?_⟩
  intro adjustment
  have tests := cmdReconcile_read (s := s.countGood .cab) e hs (atRest rest) read
  refine ⟨fun noRoom => takeCommand_answered ready (tests.trans (if_pos (isFull.mpr noRoom))), fun room fits => ?_⟩
  intro record g u
  have undrawn (t : State) : t.drawFor adjustment = t := if_pos fits
  have kept : u.comp c = x := by
    unfold u
    split
    · exact setCause_comp ..
    · rfl
  refine (takeCommand_answered ready (tests.trans (if_neg (mt isFull.mp room)))).trans ?_
  rw [adjustmentRecord_fits (s := s.countGood .cab) fits]
  have posted : (((s.countGood .cab).setBilling ((s.countGood .cab).billing.postAdjustment record)).drawFor
      adjustment).levelRaised s.billing.level = u :=
    (congrArg (levelRaised _) (undrawn _)).trans (postAdjustment_levelRaised (s.countGood .cab) record)
  have base : u.resetBook c reading = (u.setComp c { x with
      book := reading, base := reading, unattributed := 0, varCount := 0, varFlag := false }).judge c := by
    rw [resetBook, kept]
  rw [← base, ← posted]
  rfl

end Sys2Proof.Machine
end

section
/-! PROOF. IDENTIFY, STATUS with its counter clear, and QUERY_EMPTY (R170 to R172, R175), byte by byte (10.5 to 10.7). -/

namespace Sys2Proof.Machine

/-! ### Sets of bits as numbers (R181) -/

/-- A set of bits as a number, bit 0 first. -/
def bitsNumber (l : List Bool) : Nat := l.foldr (fun x n => x.toNat + 2 * n) 0

theorem protectionSet_eq : ∀ cal table : Bool, [protectionSet cal table] = beN 1 (bitsNumber [cal, table]) := by decide

theorem bitsByte_three : ∀ a b c : Bool, [bitsByte [(a, 0), (b, 1), (c, 2)]] = beN 1 (bitsNumber [a, b, c]) := by decide

theorem bitsByte_five : ∀ a b c d e : Bool,
    [bitsByte [(a, 0), (b, 1), (c, 2), (d, 3), (e, 4)]] = beN 1 (bitsNumber [a, b, c, d, e]) := by decide

/-! ### Forms side by side -/

section Forms

variable {α : Type} {n : Nat}

/-- Forms of one length side by side. -/
theorem flatten_map_length {f : α → List Byte} (h : ∀ x, (f x).length = n) (l : List α) :
    (l.map f).flatten.length = l.length * n := by
  simp [List.length_flatten, Function.comp_def, h]

/-- Forms of one byte side by side are the list of the bytes. -/
theorem flatten_map_byte (f : α → Nat) (l : List α) :
    (l.map fun x => beN 1 (f x)).flatten = l.map fun x => BitVec.ofNat 8 (f x) :=
  List.flatMap_def.symm.trans List.map_eq_flatMap.symm

end Forms

theorem presentForm_some (n : Nat) (bytes : List Byte) : presentForm n (some bytes) = [1#8] ++ bytes := rfl

/-- The context fields of a held context, the first byte as a number. -/
theorem contextFields_some (c : Context) : State.contextFields (some c) =
    beN 1 ((match c.kind with | .delivery => 1 | .receipt => 2) + 128 * c.startTime.isSome.toNat) ++ optN 2 c.machine
      ++ beN 4 c.preset ++ beN 4 c.gross ++ beN 4 c.net ++ be2 (c.flags &&& 0x1FFF#16)
      ++ beN 1 (c.endCause.elim 0 EndCause.code) ++ be4 (c.startTime.getD 0) := by
  have cause : (c.endCause.map EndCause.code).getD 0 = c.endCause.elim 0 EndCause.code := by cases c.endCause <;> rfl
  have first : ∀ (k : TxKind) (b : Bool),
      (match k with | .delivery => 1#8 | .receipt => 2#8) ||| (if b then 0x80#8 else 0#8)
        = BitVec.ofNat 8 ((match k with | .delivery => 1 | .receipt => 2) + 128 * b.toNat) := fun k => by cases k <;> decide
  unfold State.contextFields
  dsimp only
  rw [cause]
  exact congrArg (fun b : Byte => [b] ++ _ ++ _ ++ _ ++ _ ++ _ ++ _ ++ _) (first c.kind c.startTime.isSome)

namespace State

variable {s : State} {a : Addr} {sect number option : Byte} {data : List Byte}

/-! ### IDENTIFY and the sections of STATUS: their lengths (10.5, 10.7) -/

theorem identity_length (s : State) : s.identity.length = 99 := by
  have forms (n k : Nat) (v : Vector Nat k) : (v.toList.map (beN n)).flatten.length = k * n := by
    rw [flatten_map_length (fun v => beN_length n v), Vector.length_toList]
  simp only [identity, List.length_append, forms, StrikePolicy.bytes_length, beN_length, List.length_singleton]
  rfl

theorem generalSection_length (s : State) : s.generalSection.length = 30 := by simp [generalSection]

theorem contextFields_length (c : Option Context) : (contextFields c).length = 22 := by
  cases c <;> simp [contextFields]

theorem hoseSection_length (s : State) (h : HoseId) : (s.hoseSection h).length = 58 := by
  have form (p : Option Profile) : (presentForm 27 (p.map Profile.bytes)).length = 28 := by
    refine presentForm_length 27 _ fun bytes e => ?_
    obtain ⟨q, -, rfl⟩ := Option.map_eq_some_iff.mp e
    exact q.bytes_length
  simp [hoseSection, form, contextFields_length]

theorem compSection_length (s : State) (c : CompId) : (s.compSection c).length = 61 := by
  unfold compSection
  cases e : (s.comp c).settings <;> simp [e]

theorem linkSection_length (s : State) : s.linkSection.length = 48 := by simp [linkSection, portCounters]

theorem nodesSection_length (s : State) : s.nodesSection.length = 32 := by simp [nodesSection]

/-- An availability, which is never below 0, as a signed item (R91, log entry 13). -/
theorem signed48_toNat (s : State) (v : Int) : s.signed48 v.toNat =
    if -(2 ^ 47) ≤ max 0 v ∧ max 0 v < 2 ^ 47 then max 0 v else (Config.unstated48 s.draws (max 0 v)).toInt := by
  rw [Int.ofNat_toNat, max_comm]
  simp only [signed48, fits48, Bool.and_eq_true, decide_eq_true_eq]

/-! ### The section asked for (R171) -/

theorem statusSection_hose {h : HoseId} (e : number.toNat = h.val) :
    s.statusSection 2#8 number = some (s.hoseSection h) := by
  show (finOf 6 number.toNat).map _ = _
  rw [finOf_eq_some.mpr e]
  rfl

theorem statusSection_comp {c : CompId} (e : number.toNat = c.val) :
    s.statusSection 3#8 number = some (s.compSection c) := by
  show (finOf 4 number.toNat).map _ = _
  rw [finOf_eq_some.mpr e]
  rfl

theorem statusSection_eq_none
    (out : sect = 0#8 ∨ 5 < sect.toNat ∨ (sect = 2#8 ∧ 5 < number.toNat) ∨ (sect = 3#8 ∧ 3 < number.toNat)) :
    s.statusSection sect number = none := by
  rcases out with rfl | big | ⟨rfl, big⟩ | ⟨rfl, big⟩
  · rfl
  · have not (v : Byte) (le : v.toNat ≤ 5) : sect ≠ v := by rintro rfl; omega
    simp [statusSection, not 1#8 (by decide), not 2#8 (by decide), not 3#8 (by decide), not 4#8 (by decide),
      not 5#8 (by decide)]
  · show (finOf 6 number.toNat).map _ = _
    rw [finOf_eq_none.mpr big]
    rfl
  · show (finOf 4 number.toNat).map _ = _
    rw [finOf_eq_none.mpr big]
    rfl

/-! ### STATUS and its counter clear (R171, R172) -/

theorem exec_status (plain : option ≠ 1#8) : exec (.status a sect number option) s =
    .next (s.takeCommand a 2#8 .operator (cmdStatus sect number option)) := congrArg Host.Outcome.next (if_neg plain)

theorem cmdStatus_option (big : 1 < option.toNat) : s.cmdStatus sect number option = (s, fail .range) := if_pos big

theorem cmdStatus_none (none : s.statusSection sect number = none) : s.cmdStatus sect number option = (s, fail .range) := by
  unfold cmdStatus
  rw [none]
  exact ite_self _

theorem cmdStatus_some (some : s.statusSection sect number = some data) : s.cmdStatus sect number 0#8 = (s, passOk data) := by
  unfold cmdStatus
  rw [some]
  rfl

theorem cmdStatusCounterClear_none (none : s.statusSection sect number = none) :
    s.cmdStatusCounterClear sect number = (s, fail .range) := by
  unfold cmdStatusCounterClear
  rw [none]

theorem cmdStatusCounterClear_some (some : s.statusSection sect number = some data) :
    s.cmdStatusCounterClear sect number = (s.clearAllCounters, passOk data) := by
  unfold cmdStatusCounterClear
  rw [some]

/-- It clears counters alone. -/
theorem clearAllCounters_only : s.clearAllCounters =
    { s with field := s.clearAllCounters.field, cab := s.clearAllCounters.cab, screen := s.clearAllCounters.screen,
             comps := s.clearAllCounters.comps, hoses := s.clearAllCounters.hoses } := rfl

theorem clearAllCounters_comp (c : CompId) : s.clearAllCounters.comp c = { s.comp c with probeFaults := 0 } := vget_vmap ..

theorem clearAllCounters_hose (h : HoseId) : s.clearAllCounters.hose h = { s.hose h with unbilled := 0 } := vget_vmap ..

/-! ### QUERY_EMPTY (R175) -/

/-- The answer where a selector's items are empty or not. -/
theorem cmdQueryEmpty_of {x : Byte} {P : Prop} [Decidable P] {e : Bool} (some : s.isEmpty x = some e) (iff : e = true ↔ P) :
    s.cmdQueryEmpty x = (s, passOk [x, if P then 0#8 else 1#8]) := by
  unfold cmdQueryEmpty
  rw [some]
  exact congrArg (fun b => (s, passOk [x, b])) (if_congr iff rfl rfl)

theorem cmdQueryEmpty_unlisted {x : Byte} (out : x = 0#8 ∨ 3 < x.toNat) : s.cmdQueryEmpty x = (s, fail .range) := by
  have not (v : Byte) (le : 1 ≤ v.toNat ∧ v.toNat ≤ 3) : x ≠ v := by
    rintro rfl
    rcases out with rfl | big
    · exact absurd le.1 (by decide)
    · omega
  simp [cmdQueryEmpty, isEmpty, not 1#8 (by decide), not 2#8 (by decide), not 3#8 (by decide)]

theorem inUseCount_eq_zero_iff : (s.inUseCount == 0) = true ↔ (ids 512).all (fun i => !(s.entry i).inUse) = true := by
  simp [inUseCount]

theorem storedCount_eq_zero_iff : (s.billing.storedCount == 0) = true ↔ s.billing.stored = [] := by
  simp [Billing.storedCount]

theorem uncalibrated_iff : (!s.anyHose (fun x => x.cal.isSome) && s.betas.toList.all (fun b => b == 0)) = true
    ↔ (∀ h : HoseId, (s.hose h).cal = none) ∧ ∀ k : Grade, vget s.betas k = 0 := by
  have betas : s.betas.toList = (ids 8).map fun k => vget s.betas k :=
    (List.map_id _).symm.trans (toList_map_ids s.betas id)
  rw [betas, List.all_map]
  simp [anyHose]

end State

open State

/-- Settles O47: each answer's bytes are those of 10.5 and 10.7 form by form, then the commands by the section or the selector
they ask for. -/
theorem readingCommandsAndCounterClear : Obligations.ReadingCommandsAndCounterClear := by
  intro a s g bits absent signed strike level mode phase nozzle mark cause restock protection policy identity general hose
    compartment counters link nodes
  have identity_eq : g.identity = identity := by
    simp only [State.identity, protectionSet_eq, toList_map_ids, StrikePolicy.bytes, List.append_assoc, List.map_cons,
      List.map_nil, List.flatten_cons, List.flatten_nil, List.append_nil, identity]
    rfl
  have general_eq : g.generalSection = general := by
    simp only [generalSection, protectionSet_eq, bitsByte_three]
    rfl
  have hose_eq (h : HoseId) : g.hoseSection h = hose h := by
    show s.hoseSection h = hose h
    have ended (c : Context) : c.endCause.elim 0 EndCause.code = cause c.endCause := by
      cases c.endCause with
      | none => rfl
      | some e => cases e <;> rfl
    unfold hoseSection hose
    dsimp only
    cases (s.hose h).profile <;> cases (s.hose h).ctx <;>
      simp only [contextFields_some, ended, Option.map_none, Option.map_some, presentForm_some, Profile.bytes,
        List.append_assoc] <;> rfl
  have compartment_eq (c : CompId) : g.compSection c = compartment c := by
    show s.compSection c = compartment c
    unfold compSection compartment
    dsimp only
    rw [bitsByte_five]
    cases (s.comp c).settings with
    | none => rfl
    | some st =>
      dsimp only [Compartment.issueAvail, Compartment.receiveAvail]
      rw [signed48_toNat, signed48_toNat]
      rfl
  have nodes_eq : g.nodesSection = nodes := by
    unfold nodes
    rw [flatten_map_byte]
    exact toList_map_ids ..
  refine ⟨fun ready => ⟨?_, ?_⟩, fun sect number => ⟨fun out => ⟨fun ready => ?_, fun option plain ready => ?_⟩,
    fun option big ready => ?_, fun data asked => ?_⟩, fun ready => ⟨?_, ?_, ?_, fun x out => ?_⟩⟩
  · rw [← identity_eq]
    exact takeCommand_answered (act := cmdIdentify) ready rfl
  · rw [← identity_eq]
    exact identity_length g
  · exact takeCommand_answered ready (cmdStatusCounterClear_none (statusSection_eq_none out))
  · rw [exec_status plain]
    exact takeCommand_answered ready (cmdStatus_none (statusSection_eq_none out))
  · rw [exec_status (by rintro rfl; exact absurd big (by decide))]
    exact takeCommand_answered ready (cmdStatus_option big)
  · obtain ⟨answer, length⟩ : g.statusSection sect number = some data ∧ data.length =
        (if sect = 1#8 then 30 else if sect = 2#8 then 58 else if sect = 3#8 then 61 else if sect = 4#8 then 48 else 32) := by
      rcases asked with ⟨rfl, rfl⟩ | ⟨h, rfl, e, rfl⟩ | ⟨c, rfl, e, rfl⟩ | ⟨rfl, rfl⟩ | ⟨rfl, rfl⟩
      · exact ⟨congrArg some general_eq, general_eq ▸ generalSection_length g⟩
      · exact ⟨(statusSection_hose e).trans (congrArg some (hose_eq h)), hose_eq h ▸ hoseSection_length g h⟩
      · exact ⟨(statusSection_comp e).trans (congrArg some (compartment_eq c)), compartment_eq c ▸ compSection_length g c⟩
      · exact ⟨rfl, linkSection_length g⟩
      · exact ⟨congrArg some nodes_eq, nodes_eq ▸ nodesSection_length g⟩
    refine ⟨length, fun ready => ?_, fun ready => ⟨g.clearAllCounters, ?_, rfl, rfl, rfl, clearAllCounters_comp,
      clearAllCounters_hose, clearAllCounters_only⟩⟩
    · rw [exec_status (by decide)]
      exact takeCommand_answered ready (cmdStatus_some answer)
    · exact takeCommand_answered ready (cmdStatusCounterClear_some answer)
  · exact takeCommand_answered ready (cmdQueryEmpty_of rfl inUseCount_eq_zero_iff)
  · exact takeCommand_answered ready (cmdQueryEmpty_of rfl storedCount_eq_zero_iff)
  · exact takeCommand_answered ready (cmdQueryEmpty_of rfl uncalibrated_iff)
  · exact takeCommand_answered ready (cmdQueryEmpty_unlisted out)

end Sys2Proof.Machine
end

section
/-! PROOF. The log and its reservations (R113 to R118, R123): what an acceptance, the end of a transaction, a posting, a release
and an emptied log do to them, and that no other operation touches them. -/

namespace Sys2Proof.Machine

/-- What the log and its space are made of (R113). -/
def Billing.log (b : Billing) : List Record × Nat × Nat × Nat := (b.stored, b.oldestIndex, b.reserved, b.nextSeq)

namespace State

variable {s t : State} {h : HoseId} {c : Context}

/-! ### The hoses that hold a transaction -/

/-- Whether a hose holds a transaction. -/
def holds (s : State) (h : HoseId) : Bool := (s.hose h).ctx.isSome

theorem holders_eq_card (s : State) : s.holders = (Finset.univ.filter fun h => s.holds h = true).card := by
  have list : (ids 6).filter (fun h => s.holds h) = ((ids 6).filter fun h => decide (s.holds h = true)) :=
    List.filter_congr fun h _ => Bool.decide_eq_true.symm
  have set : (Finset.univ.filter fun h => s.holds h = true) = ((ids 6).filter fun h => s.holds h).toFinset := by
    ext h
    simp
  rw [set, List.toFinset_card_of_nodup (nodup_ids.filter _)]
  rfl

theorem holders_congr (same : ∀ k, t.holds k = s.holds k) : t.holders = s.holders := by
  simp only [holders_eq_card, same]

/-- One more hose holds a transaction. -/
theorem holders_add_one (empty : s.holds h = false) (full : t.holds h = true) (others : ∀ k, k ≠ h → t.holds k = s.holds k) :
    t.holders = s.holders + 1 := by
  have more : (Finset.univ.filter fun k => t.holds k = true) = insert h (Finset.univ.filter fun k => s.holds k = true) := by
    ext k
    by_cases e : k = h
    · simp [e, full]
    · simp [e, others k e]
  rw [holders_eq_card, holders_eq_card, more, Finset.card_insert_of_notMem (by simp [empty])]

theorem holders_of_cold (e : t.hoses = Vector.replicate 6 Hose.cold) : t.holders = 0 := by
  have none (k : HoseId) : t.holds k = false := by simp [holds, hose, e, Hose.cold]
  simp [holders_eq_card, none]

/-! ### The log (R113) -/

/-- The invariant of the reservations, the hoses' own apart. -/
def SlotsOk (s : State) : Prop :=
  s.billing.reserved = s.holders ∧ s.billing.level ≤ Config.logSlots ∧ s.billing.nextSeq + s.billing.reserved ≤ Config.seqLimit

/-- The oldest sequence number of a log in order. -/
theorem LogOk.oldestSeq (ok : s.LogOk) : s.billing.oldestSeq = s.billing.nextSeq - s.billing.stored.length := by
  obtain ⟨-, -, seqs⟩ := ok
  unfold Billing.oldestSeq
  cases e : s.billing.stored with
  | nil => rfl
  | cons r rest =>
    rw [e, List.map_cons, List.length_cons, List.range'_succ] at seqs
    exact (List.cons.inj seqs).1

/-- Of consecutive numbers, those from m on are what remains after those below m. -/
theorem filter_le_eq_drop {α : Type} (f : α → Nat) (m : Nat) : ∀ (l : List α) (a : Nat), l.map f = List.range' a l.length →
    l.filter (fun x => decide (m ≤ f x)) = l.drop (m - a)
  | [], _, _ => by simp
  | x :: l, a, e => by
    rw [List.map_cons, List.length_cons, List.range'_succ] at e
    obtain ⟨head, tail⟩ := List.cons.inj e
    have rest := filter_le_eq_drop f m l (a + 1) tail
    by_cases le : m ≤ a
    · rw [List.filter_cons_of_pos (by simpa [head] using le), rest, Nat.sub_eq_zero_of_le le,
        Nat.sub_eq_zero_of_le (Nat.le_succ_of_le le)]
      rfl
    · have step : m - a = m - (a + 1) + 1 := by omega
      rw [List.filter_cons_of_neg (by simpa [head] using le), rest, step, List.drop_succ_cons]

/-- The stored records from a sequence number on (R122, R123). -/
theorem LogOk.stored_from (ok : s.LogOk) (m : Nat) : s.billing.stored.filter (fun r => decide (m ≤ r.seq))
    = s.billing.stored.drop (m - (s.billing.nextSeq - s.billing.stored.length)) := by
  obtain ⟨-, -, seqs⟩ := ok
  exact filter_le_eq_drop Record.seq m _ _ seqs

/-- A record posted under the next sequence number (R116, R117). -/
theorem LogOk.posted {r : Record} (ok : s.LogOk) (seq : r.seq = s.billing.nextSeq)
    (stored : t.billing.stored = s.billing.stored ++ [r]) (oldest : t.billing.oldestIndex = s.billing.oldestIndex)
    (next : t.billing.nextSeq = s.billing.nextSeq + 1) : t.LogOk := by
  obtain ⟨index, length, seqs⟩ := ok
  refine ⟨oldest ▸ index, ?_, ?_⟩
  · rw [stored, next, List.length_append, List.length_singleton]
    omega
  · have first : s.billing.nextSeq + 1 - (s.billing.stored.length + 1) = s.billing.nextSeq - s.billing.stored.length := by omega
    have last : r.seq = s.billing.nextSeq - s.billing.stored.length + 1 * s.billing.stored.length := by omega
    rw [stored, next, List.length_append, List.length_singleton, first, List.range'_concat, List.map_append, seqs,
      List.map_singleton, last]

/-- Records removed from the oldest on (R123). -/
theorem LogOk.released (ok : s.LogOk) (k : Nat) (stored : t.billing.stored = s.billing.stored.drop k)
    (oldest : t.billing.oldestIndex < Config.logSlots) (next : t.billing.nextSeq = s.billing.nextSeq) : t.LogOk := by
  obtain ⟨-, length, seqs⟩ := ok
  have fewer : t.billing.stored.length = s.billing.stored.length - k := by rw [stored, List.length_drop]
  refine ⟨oldest, by omega, ?_⟩
  rw [fewer, stored, next, List.map_drop, seqs, List.drop_range']
  by_cases all : s.billing.stored.length ≤ k
  · rw [Nat.sub_eq_zero_of_le all]
    rfl
  · congr 1
    omega

/-! ### What tallies -/

/-- What one state keeps of the log and of its reservations in another; the reservations where a premise holds, such as that the
hoses were in order when a command was taken. -/
structure Tallies (given : Prop) (s t : State) : Prop where
  log : s.LogOk → t.LogOk
  slots : given → s.SlotsOk → t.SlotsOk

namespace Tallies

variable {given : Prop} {u : State}

theorem refl (s : State) : Tallies given s s := ⟨id, fun _ => id⟩

theorem trans (k : Tallies given s t) (l : Tallies given t u) : Tallies given s u :=
  ⟨l.log ∘ k.log, fun g => l.slots g ∘ k.slots g⟩

/-- The log as it was, and every hose holding a transaction or not as it did. -/
theorem of_log (log : t.billing.log = s.billing.log) (held : ∀ k, t.holds k = s.holds k) : Tallies given s t := by
  simp only [Billing.log, Prod.mk.injEq] at log
  obtain ⟨stored, oldest, reserved, next⟩ := log
  refine ⟨fun ok => ?_, fun _ ok => ?_⟩
  · simpa only [LogOk, stored, oldest, next] using ok
  · simpa only [SlotsOk, Billing.level, Billing.storedCount, stored, reserved, next, holders_congr held] using ok

theorem of_same (hoses : t.hoses = s.hoses) (billing : t.billing = s.billing) : Tallies given s t :=
  of_log (by rw [billing]) fun k => by simp only [holds, hose, hoses]

/-- As of_same, where an equation shows the state left. -/
theorem of_eq (e : t = u) (hoses : u.hoses = s.hoses) (billing : u.billing = s.billing) : Tallies given s t :=
  e ▸ of_same hoses billing

/-- A Billing Unit written without a change to the log. -/
theorem setBilling {b : Billing} (log : b.log = s.billing.log) : Tallies given s (s.setBilling b) := of_log log fun _ => rfl

/-- A hose written that holds a transaction or not as it did. -/
theorem modHose {f : Hose → Hose} (held : (f (s.hose h)).ctx.isSome = (s.hose h).ctx.isSome) :
    Tallies given s (s.modHose h f) := by
  refine of_log rfl fun k => ?_
  rw [holds, modHose_hose]
  split
  · next e => rw [held, e, holds]
  · rfl

theorem queueValve (v : ValveCmd) : Tallies given s (s.queueValve h v) := by
  refine of_log (by simp) fun k => ?_
  rw [holds, queueValve_hose]
  unfold Hose.commanded
  split
  · next e => subst e; split <;> rfl
  · rfl

theorem entryProgress (k : Tallies given s t) : Tallies given s (t.entryProgress h) := k.trans (of_same (by simp) (by simp))

/-- A hose written and sent its valve command, with its PROGRESS. -/
theorem commanded {f : Hose → Hose} (v : ValveCmd) (held : (f (s.hose h)).ctx.isSome = (s.hose h).ctx.isSome) :
    Tallies given s (((s.modHose h f).queueValve h v).entryProgress h) :=
  ((modHose held).trans (queueValve v)).entryProgress

/-! ### Acceptance, posting, and the end without a record (R36, R53, R59, R66, R115, R116) -/

/-- A slot reserved where there was one, for a hose that held none. -/
theorem reserved (room : s.billing.full = false) (empty : given → s.holds h = false) (full : t.holds h = true)
    (others : ∀ k, k ≠ h → t.holds k = s.holds k)
    (billing : t.billing = { s.billing with reserved := s.billing.reserved + 1 }) : Tallies given s t := by
  rw [Billing.full_eq_false_iff, not_or, Nat.not_le, Nat.not_le] at room
  obtain ⟨slot, seq⟩ := room
  refine ⟨fun ok => ?_, fun g ok => ?_⟩
  · simpa only [LogOk, billing] using ok
  · obtain ⟨count, -, -⟩ := ok
    refine ⟨?_, ?_, ?_⟩
    · rw [holders_add_one (empty g) full others, billing, count]
    · rw [billing]
      exact slot
    · rw [billing]
      exact seq

/-- A hose's reservation released without a record. -/
theorem unreserved (full : s.holds h = true) (empty : t.holds h = false) (others : ∀ k, k ≠ h → t.holds k = s.holds k)
    (billing : t.billing = { s.billing with reserved := s.billing.reserved - 1 }) : Tallies given s t := by
  refine ⟨fun ok => ?_, fun _ ok => ?_⟩
  · simpa only [LogOk, billing] using ok
  · obtain ⟨count, slot, seq⟩ := ok
    have fewer := holders_add_one empty full fun k e => (others k e).symm
    unfold SlotsOk
    simp only [Billing.level, Billing.storedCount, billing] at slot ⊢
    omega

/-- A hose's reservation turned into the record of its transaction. -/
theorem posted {r : Record} (full : s.holds h = true) (empty : t.holds h = false)
    (others : ∀ k, k ≠ h → t.holds k = s.holds k) (seq : r.seq = s.billing.nextSeq)
    (log : t.billing.log = (s.billing.stored ++ [r], s.billing.oldestIndex, s.billing.reserved - 1, s.billing.nextSeq + 1)) :
    Tallies given s t := by
  simp only [Billing.log, Prod.mk.injEq] at log
  obtain ⟨stored, oldest, reserved, next⟩ := log
  refine ⟨fun ok => ok.posted seq stored oldest next, fun _ ok => ?_⟩
  obtain ⟨count, slot, seqs⟩ := ok
  have fewer := holders_add_one empty full fun k e => (others k e).symm
  unfold SlotsOk
  simp only [Billing.level, Billing.storedCount, stored, reserved, next, List.length_append, List.length_singleton] at slot ⊢
  omega

/-- A log without records, reservations or transactions. -/
theorem emptied (stored : t.billing.stored = []) (reserved : t.billing.reserved = 0)
    (oldest : t.billing.oldestIndex = s.billing.oldestIndex ∨ t.billing.oldestIndex = 0)
    (next : t.billing.nextSeq = s.billing.nextSeq ∨ t.billing.nextSeq = 1)
    (hoses : t.hoses = Vector.replicate 6 Hose.cold) : Tallies given s t := by
  refine ⟨fun ok => ?_, fun _ ok => ?_⟩
  · obtain ⟨index, length, -⟩ := ok
    refine ⟨by omega, ?_, by rw [stored]; rfl⟩
    rw [stored, List.length_nil]
    omega
  · obtain ⟨-, -, seqs⟩ := ok
    refine ⟨by rw [reserved, holders_of_cold hoses], ?_, ?_⟩
    · simp [Billing.level, Billing.storedCount, stored, reserved]
    · have first : 1 ≤ Config.seqLimit := by decide
      omega

end Tallies
end State
end Sys2Proof.Machine
end

section
/-! PROOF. What every command does to the log and its reservations: acceptances reserve, ends without a record release, postings
turn a reservation into a record, and every other operation leaves both and each hose's hold on a transaction. -/

namespace Sys2Proof.Machine

namespace State

namespace Tallies

variable {given : Prop} {s t : State} {h : HoseId}

/-! ### The hoses' operations -/

theorem flowStart : Tallies given s (s.flowStart h) := commanded _ (Option.isSome_map ..)

theorem enterClosing (why : EndCause) : Tallies given s (s.enterClosing h why) := commanded _ (Option.isSome_map ..)

theorem enterHeld (mark : HoldMark) : Tallies given s (s.enterHeld h mark) := commanded _ rfl

theorem resumeFlow (ph : Phase) : Tallies given s (s.resumeFlow h ph) := commanded _ rfl

/-- An acceptance at a hose that holds no transaction, with room in the log. -/
theorem accept (c : Context) (room : s.billing.full = false) (empty : given → s.holds h = false) :
    Tallies given s (s.accept h c) := by
  have units : ((s.reserve.takeEntry h c).commit c.comp c.kind c.preset).hoses = s.hoses := by simp
  have billing : ((s.reserve.takeEntry h c).commit c.comp c.kind c.preset).billing
      = { s.billing with reserved := s.billing.reserved + 1 } := by simp [s.reserve_parts.1]
  have hose (k : HoseId) : ((s.reserve.takeEntry h c).commit c.comp c.kind c.preset).hose k = s.hose k :=
    congrArg (vget · k) units
  unfold State.accept
  dsimp only
  generalize (s.reserve.takeEntry h c).commit c.comp c.kind c.preset = u at billing hose
  have taken : Tallies given s (u.modHose h fun x => { x.enter .authorized with
      ctx := some c, timers := { (x.enter .authorized).timers with window := x.period Profile.window } }) := by
    refine reserved room empty ?_ (fun k other => ?_) billing
    · rw [holds, modHose_hose, if_pos rfl]
      rfl
    · rw [holds, modHose_hose, if_neg other, hose, holds]
  generalize (u.modHose h fun x => { x.enter .authorized with
      ctx := some c, timers := { (x.enter .authorized).timers with window := x.period Profile.window } }) = w at taken
  have granted : Tallies given s ((w.entryProgress h).cabOrdinary (grantedFrame h c.machine c.preset c.flags)) :=
    taken.trans (of_same (by simp) (by simp))
  split
  · exact granted.trans flowStart
  · exact granted

/-- A transaction dropped, where there is one. -/
theorem dropTransaction : Tallies given s (s.dropTransaction h) := by
  cases hc : (s.hose h).ctx with
  | none =>
    unfold State.dropTransaction
    rw [hc]
    exact modHose rfl
  | some c =>
    obtain ⟨hoses, billing, -⟩ := dropTransaction_released hc
    have hose (k : HoseId) := (congrArg (vget · k) hoses).trans (vget_vset ..)
    refine unreserved (h := h) (by rw [holds, hc]; rfl) ?_ (fun k other => ?_) billing
    · exact (congrArg (fun x : Hose => x.ctx.isSome) (hose h)).trans (by rw [if_pos rfl]; rfl)
    · exact (congrArg (fun x : Hose => x.ctx.isSome) (hose k)).trans (by rw [if_neg other]; rfl)

theorem cancel (why : Reason) (kind : Option RequestKind) : Tallies given s (s.cancel h why kind) :=
  ((dropTransaction (h := h)).trans (of_same (by simp) (by simp))).entryProgress

theorem resultEntry (frame : Bool) : Tallies given s (s.resultEntry h frame) := by
  unfold State.resultEntry
  cases hc : (s.hose h).ctx with
  | none => exact refl s
  | some c =>
    dsimp only
    have units : Tallies given s ((s.uncommit c.comp c.kind c.term).settleCtx c h).2 := of_same (by simp) (by simp)
    have same : ((s.uncommit c.comp c.kind c.term).settleCtx c h).2.hose h = s.hose h := by simp
    generalize (s.uncommit c.comp c.kind c.term).settleCtx c h = r at units same
    have entered : Tallies given s (r.2.modHose h fun x => { x.enter .result with
        ctx := some (resultCtx r.2 c r.1), resG := 0, resN := 0
        timers := { Timers.stopped with postDelay := postDelayOf x } }) :=
      units.trans (modHose (by rw [same, hc]; rfl))
    split
    · exact entered.entryProgress
    · exact entered

theorem endClosing : Tallies given s (s.endClosing h) := by
  unfold State.endClosing
  split
  · exact refl s
  · split
    · exact dropTransaction.entryProgress
    · exact resultEntry true

theorem post : Tallies given s (s.post h) := by
  cases hc : (s.hose h).ctx with
  | none =>
    have same : s.post h = s := by simp [State.post, hc]
    rw [same]
    exact refl s
  | some c =>
    rw [post_eq hc]
    refine posted (h := h) (r := recordOf h c s.billing.nextSeq) (by rw [holds, hc]; rfl) ?_ (fun k other => ?_) rfl rfl
    · simp [holds]
    · simp [holds, setHose_hose_ne _ _ other]

/-! ### Samples (R50 to R52, R67) -/

theorem phaseCheck : Tallies given s (s.phaseCheck h) := by
  have slowed : Tallies given s ((s.modHose h fun x => x.enter .slowStop).entryProgress h) := (modHose rfl).entryProgress
  unfold State.phaseCheck
  split
  · dsimp only
    split
    · split
      · exact enterClosing _
      · split
        · exact slowed
        · split
          · exact commanded _ rfl
          · exact refl s
    · split
      · exact enterClosing _
      · split
        · exact commanded _ rfl
        · exact refl s
    · split
      · exact enterClosing _
      · exact refl s
    · exact refl s
  · exact refl s

theorem appliedSample (c : Context) (m : Measured) (p : Nat) (held : (s.hose h).ctx.isSome = true) :
    Tallies given s (s.appliedSample h c m p) := by
  have metered : Tallies given s (s.modHose h fun x => { x with ctx := some (sampleCtx c m), resG := m.resG, resN := m.resN }) :=
    modHose held.symm
  have booked := metered.trans (of_same (t := ((s.modHose h fun x =>
    { x with ctx := some (sampleCtx c m), resG := m.resG, resN := m.resN }).bookMetered c.comp
      (signedBy c.kind m.n)).uncommit c.comp c.kind (c.term - (sampleCtx c m).term)) (by simp) (by simp))
  have timed := booked.trans (modHose (h := h) (f := fun x => { x with timers := sampleTimers x p }) rfl)
  unfold State.appliedSample
  dsimp only
  split
  · exact (timed.trans (phaseCheck (h := h))).trans (of_same (by simp) (by simp))
  · exact timed.trans (of_same (by simp) (by simp))

theorem unbilledFlow (pr : Profile) (n : Nat) : Tallies given s (s.unbilledFlow h pr n) := by
  have counted : Tallies given s (s.modHose h fun x => { x with unbilled := satAdd Config.max32 x.unbilled n }) := modHose rfl
  unfold State.unbilledFlow
  exact counted.trans (of_same (by simp) (by simp))

theorem sample (seq : Byte) (total temp : Half) : Tallies given s (s.sample h seq total temp) := by
  have referenced : Tallies given s (s.modHose h fun x => { x with pulse := refAfter x.pulse seq total }) := modHose rfl
  have kept : ((s.modHose h fun x => { x with pulse := refAfter x.pulse seq total }).hose h).ctx = (s.hose h).ctx := by
    rw [modHose_hose, if_pos rfl]
  unfold State.sample
  dsimp only
  split
  · exact refl s
  · exact refl s
  · split
    · exact refl s
    · exact referenced.trans (modHose rfl)
    · split
      · split
        · next c _ hc _ => exact referenced.trans (appliedSample _ _ _ (by rw [kept, hc]; rfl))
        · exact referenced
      · split
        · exact referenced
        · split
          · exact referenced.trans (of_same (by simp) (by simp))
          · exact referenced.trans (unbilledFlow ..)

/-! ### What reaches a hose (R48, R57, R60 to R63, R95) -/

theorem nozzleEvent (v : Nozzle) : Tallies given s (s.nozzleEvent h v) := by
  have told : Tallies given s (s.modHose h fun x => { x with nozzle := v }) := modHose rfl
  unfold State.nozzleEvent
  dsimp only
  cases (s.hose h).phase with
  | authorized =>
    dsimp only
    split
    · exact told.trans flowStart
    · exact told
  | slowStart | fullFlow | slowStop | held =>
    dsimp only
    split
    · exact told
    · exact told.trans (enterClosing _)
  | closing =>
    dsimp only
    split
    · exact told
    · exact told.trans endClosing
  | off | idle | result => exact told

theorem headStatusEvent (code : Byte) : Tallies given s (s.headStatusEvent h code) := by
  have caused : Tallies given s (s.setCause .headFault) := of_same (by simp) (by simp)
  unfold State.headStatusEvent
  dsimp only
  split
  · exact refl s
  · split
    · exact caused.trans (enterClosing _)
    · exact caused

theorem holdRequest : Tallies given s (s.holdRequest h) := by
  unfold State.holdRequest
  split
  · exact enterHeld _
  · exact of_same (by simp) (by simp)

theorem stopRequest : Tallies given s (s.stopRequest h) := by
  unfold State.stopRequest
  split
  · exact cancel ..
  · exact enterClosing _
  · exact enterClosing _
  · exact enterClosing _
  · exact enterClosing _
  · exact of_same (by simp) (by simp)

theorem postRequest : Tallies given s (s.postRequest h) := by
  unfold State.postRequest
  split
  · exact post
  · exact of_same (by simp) (by simp)

theorem resumeRequest (level : Level) : Tallies given s (s.resumeRequest level h) := by
  unfold State.resumeRequest
  split
  · exact of_same (by simp) (by simp)
  · split
    · exact of_same (by simp) (by simp)
    · split
      · exact of_same (by simp) (by simp)
      · split
        · split
          · exact enterClosing _
          · split
            · exact resumeFlow _
            · exact resumeFlow _
        · exact refl s

theorem siteStopHose (h : HoseId) : Tallies given s (s.siteStopHose h) := by
  unfold State.siteStopHose
  split
  · exact enterHeld _
  · split
    · exact modHose rfl
    · exact refl s

/-- What hose after hose keeps. -/
theorem foldl {β : Type} {f : State → β → State} (each : ∀ u b, Tallies given u (f u b)) (l : List β) :
    Tallies given s (l.foldl f s) := List.foldlRecOn l f (refl s) fun u k b _ => k.trans (each u b)

theorem stopSite : Tallies given s s.stopSite := by
  have set : Tallies given s (s.setSiteStop true) := of_same rfl rfl
  unfold State.stopSite
  split
  · exact refl s
  · exact set.trans (foldl (fun _ h => siteStopHose h) (ids 6))

theorem overfillHose (c : CompId) (h : HoseId) (acc : Bool × State) :
    Tallies given acc.2 (State.overfillHose c h acc).2 := by
  unfold State.overfillHose
  dsimp only
  cases (acc.2.hose h).ctx with
  | none => simpa using refl acc.2
  | some k =>
    dsimp only
    split
    · exact enterClosing _
    · exact refl _

theorem overfillCheck (c : CompId) (st : Settings) (reading : Nat) : Tallies given s (s.overfillCheck c st reading) := by
  have stopped : Tallies given s ((ids 6).foldl (fun acc h => State.overfillHose c h acc) (false, s)).2 :=
    List.foldlRecOn (ids 6) _ (motive := fun acc => Tallies given s acc.2) (refl s) fun acc k h _ =>
      k.trans (overfillHose c h acc)
  unfold State.overfillCheck
  dsimp only
  split
  · exact refl s
  · split
    · exact stopped.trans (of_same (by simp) (by simp))
    · exact stopped

theorem probeEvent (c : CompId) (volume : Word) (status : Byte) : Tallies given s (s.probeEvent c volume status) := by
  unfold State.probeEvent
  split
  · exact of_same rfl rfl
  · split
    · exact refl s
    · next st _ =>
      dsimp only
      have checked : Tallies given s ((s.setComp c { s.comp c with
          lastReading := some volume.toNat, readingTime := some s.resp.clock }).varianceCheck c st volume.toNat) :=
        of_same (by simp) (by simp)
      exact checked.trans (overfillCheck ..)

/-! ### A tag read and the operator's starts (R23, R38, R40) -/

/-- A hose in order that is IDLE holds no transaction. -/
theorem not_holds_of_idle (ok : given → (s.hose h).PhaseOk) (idle : (s.hose h).phase = .idle) :
    given → s.holds h = false := fun g => by
  rw [holds, Hose.ctx_of_rest (ok g) (by rw [idle]; rfl)]
  rfl

theorem spaceAndPreset (p : Profile) (st : Settings) (i : EntryId) (tag : TagId) (r : Option Nat)
    (empty : given → s.holds h = false) : Tallies given s (s.spaceAndPreset h p st i tag r) := by
  unfold State.spaceAndPreset
  split
  · exact of_same (by simp) (by simp)
  · next room =>
    have refilled : Tallies given s (s.refill i) := of_same (by simp) (by simp)
    refine refilled.trans ?_
    dsimp only
    repeat' split
    all_goals first
      | exact accept _ (by simpa using room) (by simpa [holds] using empty)
      | exact of_same (by simp) (by simp)

theorem testsAndStrikes (p : Profile) (st : Settings) (i : EntryId) (tag : TagId) (r : Option Nat)
    (empty : given → s.holds h = false) : Tallies given s (s.testsAndStrikes h p st i tag r) := by
  unfold State.testsAndStrikes
  dsimp only
  split
  · exact of_same (by simp) (by simp)
  · exact of_same (by simp) (by simp)
  · split
    · exact of_same (by simp) (by simp)
    · split
      · exact of_same (by simp) (by simp)
      · have passed : Tallies given s ((s.applyStrike s.table.policy.pass i).setEntry i
            (((s.applyStrike s.table.policy.pass i).entry i).passed (s.applyStrike s.table.policy.pass i).table.rollCall r)) :=
          of_same (by simp) (by simp)
        exact passed.trans (spaceAndPreset _ _ _ _ _ (by simpa [holds] using empty))

theorem lookupTag (p : Profile) (st : Settings) (tag : TagId) (r : Option Nat) (empty : given → s.holds h = false) :
    Tallies given s (s.lookupTag h p st tag r) := by
  have walked : Tallies given s (s.walkTag tag).2 := of_same (by simp) (by simp)
  unfold State.lookupTag
  dsimp only
  repeat' split
  all_goals first
    | exact walked.trans (testsAndStrikes _ _ _ _ _ (by simpa [holds] using empty))
    | exact of_same (by simp) (by simp)

theorem tagReadEvent (tag : TagId) (hours : Word) (q : Byte) (ok : given → (s.hose h).PhaseOk) :
    Tallies given s (s.tagReadEvent h tag hours q) := by
  unfold State.tagReadEvent State.evaluateRead
  split
  · exact refl s
  · split
    · exact refl s
    · split
      · exact refl s
      · next idle =>
        have idle : (s.hose h).phase = .idle := by simpa using (not_or.mp idle).1
        split
        · exact of_same (by simp) (by simp)
        · split
          · exact of_same (by simp) (by simp)
          · exact lookupTag _ _ _ _ (not_holds_of_idle ok idle)

theorem manualEvaluate (p : Profile) (z : CentreId) (c : ClassId) (m ref : Option Nat) (empty : given → s.holds h = false) :
    Tallies given s (s.manualEvaluate h p z c m ref) := by
  unfold State.manualEvaluate
  dsimp only
  repeat' split
  all_goals first
    | exact accept _ (by simpa using ‹¬ s.billing.full = true›) empty
    | exact of_same (by simp) (by simp)

theorem receiveEvaluate (p : Profile) (v : Nat) (ref : Option Nat) (empty : given → s.holds h = false) :
    Tallies given s (s.receiveEvaluate h p v ref) := by
  unfold State.receiveEvaluate
  dsimp only
  repeat' split
  all_goals first
    | exact accept _ (by simpa using ‹¬ s.billing.full = true›) empty
    | exact of_same (by simp) (by simp)

theorem manualRequest (n : Node) (hose z c p : Byte) (m : Half) (r : Word) (ok : given → s.HosesOk) :
    Tallies given s (s.manualRequest n hose z c p m r) := by
  unfold State.manualRequest
  dsimp only
  split
  · exact of_same (by simp) (by simp)
  · split
    · split
      · next idle _ =>
        split
        · exact of_same (by simp) (by simp)
        · exact manualEvaluate _ _ _ _ _ (not_holds_of_idle (fun g => ok g _) idle)
      · exact of_same (by simp) (by simp)
    · exact of_same (by simp) (by simp)

theorem receiveRequest (n : Node) (hose : Byte) (v : Word) (p : Byte) (r : Word) (ok : given → s.HosesOk) :
    Tallies given s (s.receiveRequest n hose v p r) := by
  unfold State.receiveRequest
  dsimp only
  split
  · exact of_same (by simp) (by simp)
  · split
    · split
      · exact of_same (by simp) (by simp)
      · split
        · next idle _ =>
          split
          · exact of_same (by simp) (by simp)
          · exact receiveEvaluate _ _ _ (not_holds_of_idle (fun g => ok g _) idle)
        · exact of_same (by simp) (by simp)
    · exact of_same (by simp) (by simp)

/-! ### The commands that write a hose, the log or both -/

theorem cmdLoadHoseProfile (hose : Byte) (f : ProfileForm) : Tallies given s (s.cmdLoadHoseProfile hose f).1 := by
  unfold State.cmdLoadHoseProfile
  repeat' split
  all_goals first
    | exact refl s
    | exact (modHose rfl).entryProgress

theorem cmdLoadCalibration (hose : Byte) (f : CalForm) : Tallies given s (s.cmdLoadCalibration hose f).1 := by
  unfold State.cmdLoadCalibration
  split
  · exact refl s
  · split
    · exact refl s
    · next h _ =>
      split
      · exact refl s
      · split
        · exact refl s
        · have loaded : Tallies given s (s.modHose h fun x => { x with cal := some (calOf f) }) := modHose rfl
          exact loaded.trans (of_same rfl rfl)

/-- The counter clear reaches every hose (R172). -/
theorem cmdStatusCounterClear (x n : Byte) : Tallies given s (s.cmdStatusCounterClear x n).1 := by
  unfold State.cmdStatusCounterClear
  split
  · exact refl s
  · exact of_log rfl fun k => by rw [holds, clearAllCounters_hose, holds]

theorem cmdLoadTariff (p : PriceForm) : Tallies given s (s.cmdLoadTariff p).1 := by
  unfold State.cmdLoadTariff
  repeat' split
  all_goals first
    | exact refl s
    | exact setBilling rfl

theorem cmdLoadClassRate (cls : Byte) (x : Half) : Tallies given s (s.cmdLoadClassRate cls x).1 := by
  unfold State.cmdLoadClassRate
  repeat' split
  all_goals first
    | exact refl s
    | exact setBilling rfl

theorem cmdReadCentres (start option : Byte) : Tallies given s (s.cmdReadCentres start option).1 := by
  unfold State.cmdReadCentres
  split
  · exact refl s
  · exact setBilling rfl

theorem cmdClearCentres (z : Byte) : Tallies given s (s.cmdClearCentres z).1 := by
  unfold State.cmdClearCentres
  repeat' split
  all_goals first
    | exact refl s
    | exact setBilling rfl

/-- Released records leave the log in order, at fewer slots (R123). -/
theorem cmdReleaseLog (seq : Word) : Tallies given s (s.cmdReleaseLog seq).1 := by
  unfold State.cmdReleaseLog
  dsimp only
  split
  · exact refl s
  · split
    · exact refl s
    · refine ⟨fun ok => ?_, fun _ ok => ?_⟩
      · exact ok.released _ (ok.stored_from (seq.toNat + 1)) (Nat.mod_lt _ (by decide)) rfl
      · obtain ⟨count, slots, seqs⟩ := ok
        refine ⟨count, ?_, seqs⟩
        have fewer : (s.billing.stored.filter fun r => decide (seq.toNat < r.seq)).length ≤ s.billing.stored.length :=
          List.length_filter_le ..
        simp only [Billing.level, Billing.storedCount] at slots
        simp only [setBilling_billing, Billing.level, Billing.storedCount]
        omega

/-- An adjustment is posted where there is room, without a reservation (R117). -/
theorem postAdjustment {r : Record} (room : s.billing.full = false) (seq : r.seq = s.billing.nextSeq) :
    Tallies given s (s.setBilling (s.billing.postAdjustment r)) := by
  rw [Billing.full_eq_false_iff, not_or, Nat.not_le, Nat.not_le] at room
  obtain ⟨slot, limit⟩ := room
  refine ⟨fun ok => ok.posted seq rfl rfl rfl, fun _ ok => ?_⟩
  obtain ⟨count, -, -⟩ := ok
  have level : (s.billing.postAdjustment r).level = s.billing.level + 1 := by
    simp [Billing.postAdjustment, Billing.level, Billing.storedCount, Nat.add_right_comm]
  have next : s.billing.nextSeq + 1 + s.billing.reserved = s.billing.nextSeq + s.billing.reserved + 1 := Nat.add_right_comm ..
  exact ⟨count, level.trans_le slot, next.trans_le limit⟩

theorem cmdReconcile (comp : Byte) : Tallies given s (s.cmdReconcile comp).1 := by
  unfold State.cmdReconcile
  split
  · exact refl s
  · split
    · exact refl s
    · split
      · exact refl s
      · split
        · exact refl s
        · split
          · exact refl s
          · next c _ _ st _ _ _ reading _ room =>
            have posted : Tallies given s (s.setBilling (s.billing.postAdjustment (s.adjustmentRecord c st reading))) :=
              postAdjustment (by simpa using room) rfl
            exact posted.trans (of_same (by simp) (by simp))

theorem cmdWipe : Tallies given s s.cmdWipe.1 := by
  unfold State.cmdWipe
  split
  · exact refl s
  · split
    · exact refl s
    · exact emptied rfl rfl (.inl rfl) (.inl rfl) rfl

/-! ### Start-up (R69, R180) -/

theorem coldStart (n : Node) : Tallies given s (s.coldStart n) := by
  have cold : Tallies given s (s.coldItems n) := emptied rfl rfl (.inr rfl) (.inr rfl) rfl
  unfold State.coldStart
  exact cold.trans (of_same (by simp) (by simp))

theorem warmHose (h : HoseId) : Tallies given s (s.warmHose h) := by
  have items : Tallies given s (s.modHose h warmItems) := modHose rfl
  unfold State.warmHose
  dsimp only
  split
  · exact items.trans dropTransaction
  · split
    · exact (items.trans (modHose (Option.isSome_map ..))).trans (resultEntry false)
    · split
      · exact items.trans (modHose rfl)
      · exact items

theorem warmFrames (h : HoseId) : Tallies given s (s.warmFrames h) := by
  unfold State.warmFrames
  split
  · exact refl s
  · exact (queueValve _).entryProgress

theorem warmStart (n : Node) : Tallies given s (s.warmStart n) := by
  have read : Tallies given s (s.warmResp n).warmLink := of_same rfl rfl
  have told := (read.trans (foldl (fun _ h => warmHose h) (ids 6))).trans (foldl (fun _ h => warmFrames h) (ids 6))
  unfold State.warmStart
  exact told.trans (of_same (by simp) (by simp))

theorem startUp (n : Node) : Tallies given s (s.startUp n) := by
  unfold State.startUp
  split
  · exact warmStart n
  · exact coldStart n

end Tallies
end State
end Sys2Proof.Machine
end

section
/-! PROOF. Every command tallies with the log and its reservations, and so does every step (R113 to R118, R123). -/

namespace Sys2Proof.Machine

namespace State

/-! ### The walk over the commands -/

/-- The reception of a frame and the frames queued in answer touch neither. -/
theorem tallies_received (given : Prop) (s : State) : Received (Tallies given s) where
  good _ _ k := k.trans (.of_same (by simp) (by simp))
  bad _ _ k := k.trans (.of_same (by simp) (by simp))
  screened _ _ k := k.trans (.of_same (by simp) (by simp))
  screen _ _ k := k.trans (.of_same (by simp) (by simp))
  forward _ _ _ k := k.trans (.of_same (by simp) (by simp))
  control _ _ _ k := k.trans (.of_same (by simp) (by simp))
  ordinary _ _ k := k.trans (.of_same (by simp) (by simp))

namespace Tallies

variable {given : Prop} {s : State} {a : Addr}

/-- A command tallies as its owner does. -/
theorem command {code : Byte} {least : Level} {act : State → State × Reply} (owner : ∀ g, Tallies given g (act g).1) :
    Tallies given s (s.takeCommand a code least act) :=
  (tallies_received given s).takeCommand (refl s) fun g k => k.trans (owner g)

theorem request {kind : RequestKind} {hose : Byte} {act : HoseId → State → State}
    (owner : ∀ k g, Tallies given g (act k g)) : Tallies given s (s.takeHoseRequest a kind hose act) :=
  (tallies_received given s).takeHoseRequest (refl s) fun k g m => m.trans (owner k g)

/-- An OPERATOR frame, from what its check does on the state with the frame counted. -/
theorem operator {act : State → State} (owner : Tallies given (s.countGood .cab) (act (s.countGood .cab))) :
    Tallies given s (s.takeOperator a act) := by
  have r := tallies_received given s
  exact takeOperator_elim (refl s) (r.stray _ (refl s)) (r.misdirected _ (refl s)) ((r.good _ _ (refl s)).trans owner)

/-- A field device frame, likewise. -/
theorem device {ι : Type} {owner : State → Node → Option ι} {formOk : Bool} {act : ι → State → State}
    (acts : ∀ i, Tallies given (s.countGood .field) (act i (s.countGood .field))) :
    Tallies given s (s.takeField a owner formOk act) := by
  have r := tallies_received given s
  exact takeField_elim (refl s) (r.stray _ (refl s)) (r.misdirected _ (refl s)) (r.screened _ _ (r.good _ _ (refl s)))
    fun i _ _ => (r.good _ _ (refl s)).trans (acts i)

theorem expiry {h : HoseId} {timer : Timers → Option Nat} {inPhase : Phase → Bool} {act : State → State}
    (owner : Tallies given s (act s)) : Tallies given s (s.expiry h timer inPhase act) :=
  expiry_elim (refl s) fun _ _ => owner

end Tallies
end State

open State

/-- Every row of its own, taken with the hoses in order. -/
theorem row_tallies (j : Instr) (s : State) (raw : Instr.raw j = false) :
    ∃ t, exec j s = .next t ∧ Tallies s.HosesOk s t := by
  cases j with
  | badFrame | screenDrop | carriageFrame | malformedRequest | malformedCommand => cases raw
  | tagRead => exact ⟨_, rfl, .device fun h => .tagReadEvent _ _ _ fun ok => ok h⟩
  | nozzle => exact ⟨_, rfl, .device fun _ => by split; exacts [.nozzleEvent _, .refl _]⟩
  | meterSample => exact ⟨_, rfl, .device fun _ => .sample ..⟩
  | headStatus => exact ⟨_, rfl, .device fun _ => .headStatusEvent _⟩
  | probe => exact ⟨_, rfl, .device fun _ => .probeEvent ..⟩
  | post => exact ⟨_, rfl, .request fun _ _ => .postRequest⟩
  | hold => exact ⟨_, rfl, .request fun _ _ => .holdRequest⟩
  | resume => exact ⟨_, rfl, .request fun _ _ => .resumeRequest _⟩
  | stop => exact ⟨_, rfl, .request fun _ _ => .stopRequest⟩
  | emergencyStop => exact ⟨_, rfl, .operator (by split; exacts [.of_same (by simp) (by simp), .stopSite])⟩
  | manualAuth => exact ⟨_, rfl, .operator (.manualRequest _ _ _ _ _ _ _ id)⟩
  | receiveStart => exact ⟨_, rfl, .operator (.receiveRequest _ _ _ _ _ id)⟩
  | authWindowExpiry => exact ⟨_, rfl, .expiry (.cancel ..)⟩
  | noFlowExpiry => exact ⟨_, rfl, .expiry (.enterClosing _)⟩
  | meterSilenceExpiry =>
    have caused : Tallies s.HosesOk s (s.setCause .meterSilent) := .of_same (by simp) (by simp)
    exact ⟨_, rfl, .expiry (caused.trans (.enterClosing _))⟩
  | settleExpiry => exact ⟨_, rfl, .expiry .endClosing⟩
  | postDelayExpiry => exact ⟨_, rfl, .expiry .post⟩
  | holdLimitExpiry => exact ⟨_, rfl, .expiry (.enterClosing _)⟩
  | frameSent p =>
    refine ⟨_, rfl, ?_⟩
    split
    · split
      · exact .startUp _
      · cases p <;> exact .of_same rfl rfl
    · exact .refl s
  | startUp => exact ⟨_, rfl, .startUp _⟩
  | identify => exact ⟨_, rfl, .command fun _ => .refl _⟩
  | status a x n o =>
    refine ⟨_, rfl, ?_⟩
    split
    · exact .command fun _ => .cmdStatusCounterClear ..
    · exact .command fun _ => .of_eq (cmdStatus_fst_only ..) rfl rfl
  | statusCounterClear => exact ⟨_, rfl, .command fun _ => .cmdStatusCounterClear ..⟩
  | setClock => exact ⟨_, rfl, .command fun _ => .of_eq (cmdSetClock_fst_only ..) rfl rfl⟩
  | setPrivilege => exact ⟨_, rfl, .command fun _ => .of_eq (cmdSetPrivilege_fst_only ..) rfl rfl⟩
  | setProtection => exact ⟨_, rfl, .command fun _ => .of_eq (cmdSetProtection_fst_only ..) rfl rfl⟩
  | digest => exact ⟨_, rfl, .command fun _ => .of_eq (cmdDigest_fst_only ..) rfl rfl⟩
  | digestDone => exact ⟨_, rfl, by split; exacts [.of_same (by simp) (by simp), .refl s]⟩
  | queryEmpty => exact ⟨_, rfl, .command fun _ => .of_eq (cmdQueryEmpty_fst_only ..) rfl rfl⟩
  | wipe => exact ⟨_, rfl, .command fun _ => .cmdWipe⟩
  | restart => exact ⟨_, rfl, .command fun _ => .refl _⟩
  | loadMachine => exact ⟨_, rfl, .command fun _ => .of_eq (cmdLoadMachine_fst_only ..) rfl rfl⟩
  | deleteMachine => exact ⟨_, rfl, .command fun _ => .of_eq (cmdDeleteMachine_fst_only ..) rfl rfl⟩
  | readMachineByTag => exact ⟨_, rfl, .command fun _ => .of_eq (cmdReadByTag_fst_only ..) rfl rfl⟩
  | readMachineByIndex => exact ⟨_, rfl, .command fun _ => .of_eq (cmdReadByIndex_fst_only ..) rfl rfl⟩
  | setAllowance => exact ⟨_, rfl, .command fun _ => .of_eq (cmdSetAllowance_fst_only ..) rfl rfl⟩
  | clearStrikes => exact ⟨_, rfl, .command fun _ => .of_eq (cmdClearStrikes_fst_only ..) rfl rfl⟩
  | openPeriod => exact ⟨_, rfl, .command fun _ => .of_eq (cmdOpenPeriod_fst_only _) rfl rfl⟩
  | sweep => exact ⟨_, rfl, .command fun _ => .of_eq (cmdSweep_fst_only ..) rfl rfl⟩
  | sweepDone =>
    refine ⟨_, rfl, ?_⟩
    split
    · next w _ _ =>
      have marked : Tallies s.HosesOk s (State.sweepMark (w, s)).2 := .of_eq (s.sweepMark_snd_only w) rfl rfl
      exact marked.trans (.of_same (by simp) (by simp))
    · exact .refl s
  | setStrikePolicy => exact ⟨_, rfl, .command fun _ => .of_eq (cmdSetStrikePolicy_fst_only ..) rfl rfl⟩
  | rollCallStart => exact ⟨_, rfl, .command fun _ => .of_eq (cmdRollCallStart_fst_only _) rfl rfl⟩
  | rollCallStop => exact ⟨_, rfl, .command fun _ => .of_eq (cmdRollCallStop_fst_only _) rfl rfl⟩
  | rollCallRead => exact ⟨_, rfl, .command fun _ => .of_eq (cmdRollCallRead_fst_only ..) rfl rfl⟩
  | loadHoseProfile => exact ⟨_, rfl, .command fun _ => .cmdLoadHoseProfile ..⟩
  | siteStop => exact ⟨_, rfl, .command fun _ => .stopSite⟩
  | siteResume => exact ⟨_, rfl, .command fun _ => .of_eq (cmdSiteResume_fst_only _) rfl rfl⟩
  | loadCalibration => exact ⟨_, rfl, .command fun _ => .cmdLoadCalibration ..⟩
  | loadGrade => exact ⟨_, rfl, .command fun _ => .of_eq (cmdLoadGrade_fst_only ..) rfl rfl⟩
  | loadCompartment => exact ⟨_, rfl, .command fun _ => .of_eq (cmdLoadCompartment_fst_only ..) rfl rfl⟩
  | ackRestock => exact ⟨_, rfl, .command fun _ => .of_eq (cmdAckRestock_fst_only ..) rfl rfl⟩
  | setStock => exact ⟨_, rfl, .command fun _ => .of_eq (cmdSetStock_fst_only ..) rfl rfl⟩
  | reconcile => exact ⟨_, rfl, .command fun _ => .cmdReconcile _⟩
  | loadTariff => exact ⟨_, rfl, .command fun _ => .cmdLoadTariff _⟩
  | loadClassRate => exact ⟨_, rfl, .command fun _ => .cmdLoadClassRate ..⟩
  | readLog => exact ⟨_, rfl, .command fun _ => .of_eq (cmdReadLog_fst_only ..) rfl rfl⟩
  | releaseLog => exact ⟨_, rfl, .command fun _ => .cmdReleaseLog _⟩
  | readCentres => exact ⟨_, rfl, .command fun _ => .cmdReadCentres ..⟩
  | clearCentres => exact ⟨_, rfl, .command fun _ => .cmdClearCentres _⟩
  | rearm => exact ⟨_, rfl, .command fun _ => .of_eq (cmdRearm_fst_only ..) rfl rfl⟩
  | loadFrameClass => exact ⟨_, rfl, .command fun _ => .of_eq (cmdLoadFrameClass_fst_only ..) rfl rfl⟩
  | siteClockSecond => exact ⟨_, rfl, by split; exacts [.of_same rfl rfl, .refl s]⟩
  | mainSupplyLoss => exact ⟨_, rfl, by split; exacts [.of_same rfl rfl, .refl s]⟩
  | retentionSupplyFailure => exact ⟨_, rfl, by split; exacts [.refl s, .of_same rfl rfl]⟩
  | storeValueLost entry change => exact ⟨_, rfl, by cases entry <;> exact .of_same rfl rfl⟩

/-! ### Every step -/

/-- A command is a step with that command at the front of the queue, and so keeps the hoses in order. -/
theorem exec_hosesOk {j : Instr} {s t : State} (ok : s.HosesOk) (e : exec j s = .next t) : t.HosesOk :=
  stepKeepsTheHoses.1 (s.setPending (j :: s.pending)) t ok e

/-- Every step keeps an invariant of log, reservations and hoses that outlives what tallies and keeps the hoses in order. -/
theorem step_keeps_log {I : State → Prop}
    (kept : ∀ {s t}, Tallies s.HosesOk s t → (s.HosesOk → t.HosesOk) → I s → I t) {s t : State} (h : I s)
    (e : step s = .next t) : I t := by
  have same {u v : State} (hoses : v.hoses = u.hoses) (billing : v.billing = u.billing) : I u → I v :=
    kept (.of_same hoses billing) (Moves.of_hoses hoses).hosesOk
  have received : Received I :=
    { good := fun _ _ => same (by simp) (by simp)
      bad := fun _ _ => same (by simp) (by simp)
      screened := fun _ _ => same (by simp) (by simp)
      screen := fun _ _ => same (by simp) (by simp)
      forward := fun _ _ _ => same (by simp) (by simp)
      control := fun _ _ _ => same (by simp) (by simp)
      ordinary := fun _ _ => same (by simp) (by simp) }
  unfold step at e
  split at e
  · obtain rfl := Host.Outcome.next.inj e
    exact same (by rw [s.sweepTick_only]) (by rw [s.sweepTick_only]) h
  · next rest _ =>
    have taken : I (s.setPending rest) := same (u := s) rfl rfl h
    refine received.exec (fun j u raw hu v ev => ?_) _ (s.setPending rest) _ taken e
    obtain ⟨w, ew, tallies⟩ := row_tallies j u raw
    obtain rfl := Host.Outcome.next.inj (ew.symm.trans ev)
    exact kept tallies (fun ok => exec_hosesOk ok ev) hu

/-- Settles O57: every row tallies with the log and its reservations, the latter from hoses in order, and every step keeps the
hoses in order. -/
theorem stepKeepsTheLog : Obligations.StepKeepsTheLog := by
  refine ⟨fun s t h e => step_keeps_log (I := ReservationsOk) (fun tallies hoses ok => ?_) h e,
    fun s t h e => step_keeps_log (I := LogOk) (fun tallies _ ok => tallies.log ok) h e⟩
  obtain ⟨inOrder, slots⟩ := ok
  exact ⟨hoses inOrder, tallies.slots inOrder slots⟩

end Sys2Proof.Machine
end

section
/-! PROOF. The loads under TABLE_PROTECT (R31, R109, R110, R152): their operands as numbers, and their refusals in order. -/

namespace Sys2Proof.Machine

/-! ### The operands (R31, R152, R184) -/

theorem strikeOpOf_code {b : Byte} {op : StrikeOp} (e : b.toNat = op.code) : strikeOpOf b = some op := by
  obtain rfl : b = BitVec.ofNat 8 op.code := by rw [← e, BitVec.ofNat_toNat, BitVec.setWidth_eq]
  cases op <;> rfl

theorem strikeOpOf_eq_none {b : Byte} (big : 4 ≤ b.toNat) : strikeOpOf b = none := by
  have not (v : Byte) (le : v.toNat ≤ 3) : b ≠ v := by rintro rfl; omega
  simp [strikeOpOf, not 0#8 (by decide), not 1#8 (by decide), not 2#8 (by decide), not 3#8 (by decide)]

theorem guardOf_code {b : Byte} {g : Guard} (e : b.toNat = g.code) : guardOf b = some g := by
  obtain rfl : b = BitVec.ofNat 8 g.code := by rw [← e, BitVec.ofNat_toNat, BitVec.setWidth_eq]
  cases g <;> rfl

theorem guardOf_eq_none {b : Byte} (big : 4 < b.toNat) : guardOf b = none := by
  have not (v : Byte) (le : v.toNat ≤ 4) : b ≠ v := by rintro rfl; omega
  simp [guardOf, not 0#8 (by decide), not 1#8 (by decide), not 2#8 (by decide), not 3#8 (by decide), not 4#8 (by decide)]

/-- A policy whose fields are in range is stored as given, but for a jump of 0. -/
theorem policyOf_eq_some {f : PolicyForm} {x y z : StrikeOp} (a : f.aFail.toNat = x.code) (b : f.bFail.toNat = y.code)
    (p : f.pass.toNat = z.code) (threshold : f.threshold.toNat ≤ 7) :
    policyOf f = some ⟨x, y, z, f.threshold.toNat, max 1 f.maxJump.toNat⟩ := by
  unfold policyOf
  rw [strikeOpOf_code a, strikeOpOf_code b, strikeOpOf_code p]
  exact if_pos threshold

theorem policyOf_eq_none {f : PolicyForm}
    (out : 4 ≤ f.aFail.toNat ∨ 4 ≤ f.bFail.toNat ∨ 4 ≤ f.pass.toNat ∨ 7 < f.threshold.toNat) : policyOf f = none := by
  unfold policyOf
  split
  · next a b p =>
    have read {v : Byte} {op : StrikeOp} (e : strikeOpOf v = some op) : ¬ 4 ≤ v.toNat := fun big => by
      rw [strikeOpOf_eq_none big] at e
      cases e
    exact if_neg (by have := read a; have := read b; have := read p; omega)
  · rfl

/-- A carriage entry whose fields are in range is stored as given, but for nodes 0 and 1. -/
theorem carriageOf_eq_some {f : CarriageForm} {g : Guard} (directions : f.directions.toNat ≤ 3)
    (guard : f.guard.toNat = g.code) : carriageOf f
      = some ⟨f.directions.getLsbD 0, f.directions.getLsbD 1, f.sources &&& 0xFFFFFFFC#32, g⟩ := by
  unfold carriageOf
  rw [guardOf_code guard]
  exact if_pos directions

theorem carriageOf_eq_none {f : CarriageForm} (out : 3 < f.directions.toNat ∨ 4 < f.guard.toNat) : carriageOf f = none := by
  unfold carriageOf
  cases e : guardOf f.guard with
  | none => rfl
  | some g =>
    refine if_neg fun directions => ?_
    rw [guardOf_eq_none (by omega)] at e
    cases e

/-- Removing nodes 0 and 1 changes a source set exactly where it names one of them. -/
theorem sources_trimmed (w : Word) : ((w &&& 0xFFFFFFFC#32) != w) = (w.getLsbD 0 || w.getLsbD 1) := by
  have mask : ∀ i : Fin 32, (0xFFFFFFFC#32).getLsbD i.val = decide (2 ≤ i.val) := by decide
  have whole : (w &&& 0xFFFFFFFC#32) = w ↔ w.getLsbD 0 = false ∧ w.getLsbD 1 = false := by
    refine ⟨fun e => ⟨?_, ?_⟩, fun ⟨zero, one⟩ => BitVec.eq_of_getLsbD_eq fun i hi => ?_⟩
    · rw [← e, BitVec.getLsbD_and]
      exact Bool.and_false _
    · rw [← e, BitVec.getLsbD_and]
      exact Bool.and_false _
    · rw [BitVec.getLsbD_and, mask ⟨i, hi⟩]
      by_cases high : 2 ≤ i
      · simp [high]
      · obtain rfl | rfl : i = 0 ∨ i = 1 := by omega
        · rw [zero, Bool.false_and]
        · rw [one, Bool.false_and]
  rw [Bool.eq_iff_iff, bne_iff_ne, ne_eq, whole, Bool.or_eq_true, not_and_or, Bool.not_eq_false, Bool.not_eq_false]

namespace State

variable {s : State} {a : Addr} {cls : Byte}

/-! ### The loads, each with TABLE_PROTECT first -/

theorem cmdSetStrikePolicy_protected (on : s.resp.tableProtect = true) (f : PolicyForm) :
    s.cmdSetStrikePolicy f = (s, fail .protectedFlag) := if_pos on

theorem cmdSetStrikePolicy_range {f : PolicyForm} (off : s.resp.tableProtect = false) (out : policyOf f = none) :
    s.cmdSetStrikePolicy f = (s, fail .range) := by
  unfold cmdSetStrikePolicy
  rw [off, out]
  rfl

theorem cmdSetStrikePolicy_stores {f : PolicyForm} {p : StrikePolicy} (off : s.resp.tableProtect = false)
    (read : policyOf f = some p) : s.cmdSetStrikePolicy f = (s.setTable { s.table with policy := p },
      .now .pass (if f.maxJump = 0#16 then .adjusted else .ok) p.bytes) := by
  unfold cmdSetStrikePolicy
  rw [off, read, if_neg Bool.false_ne_true]
  dsimp only
  rw [passAdj, if_congr beq_iff_eq rfl rfl]

theorem cmdLoadTariff_protected (on : s.resp.tableProtect = true) (p : PriceForm) :
    s.cmdLoadTariff p = (s, fail .protectedFlag) := if_pos on

/-- What remains to be tested of the prices, and what is stored. -/
theorem cmdLoadTariff_unprotected (off : s.resp.tableProtect = false) (p : PriceForm) : s.cmdLoadTariff p =
    if ∃ v ∈ priceList p, 99999999 < v then (s, fail .range)
    else (s.setBilling { s.billing with prices := tariffOf p }, passOk []) := by
  unfold cmdLoadTariff
  rw [off, if_neg Bool.false_ne_true]
  exact if_congr (by simp only [List.any_eq_true, decide_eq_true_eq]) rfl rfl

theorem cmdLoadClassRate_protected (on : s.resp.tableProtect = true) (cls : Byte) (x : Half) :
    s.cmdLoadClassRate cls x = (s, fail .protectedFlag) := if_pos on

theorem cmdLoadClassRate_noClass (off : s.resp.tableProtect = false) (none : 16 ≤ cls.toNat) (x : Half) :
    s.cmdLoadClassRate cls x = (s, fail .range) := by
  unfold cmdLoadClassRate
  rw [off, finOf_eq_none.mpr none]
  rfl

/-- What remains to be tested of a class's fraction, and what is stored. -/
theorem cmdLoadClassRate_ofClass {k : ClassId} (off : s.resp.tableProtect = false) (e : cls.toNat = k.val) (x : Half) :
    s.cmdLoadClassRate cls x = if 511 < x.toNat then (s, fail .range)
      else (s.setBilling { s.billing with fractions := vset s.billing.fractions k x.toNat }, passOk []) := by
  unfold cmdLoadClassRate
  rw [off, finOf_eq_some.mpr e]
  exact if_neg Bool.false_ne_true

theorem cmdLoadFrameClass_protected (on : s.resp.tableProtect = true) (cls : Byte) (f : CarriageForm) :
    s.cmdLoadFrameClass cls f = (s, fail .protectedFlag) := if_pos on

theorem cmdLoadFrameClass_range {f : CarriageForm} (off : s.resp.tableProtect = false)
    (out : cls.toNat < 13 ∨ 63 < cls.toNat ∨ carriageOf f = none) : s.cmdLoadFrameClass cls f = (s, fail .range) := by
  unfold cmdLoadFrameClass
  rw [off, if_neg Bool.false_ne_true]
  split
  · rfl
  · next carriage =>
    split
    · next k e hk he =>
      have := finOf_eq_some.mp hk
      rw [he] at out
      rcases out with out | out | out
      · exact absurd out carriage
      · omega
      · cases out
    · rfl

theorem cmdLoadFrameClass_stores {f : CarriageForm} {k : Fin 51} {e : CarriageEntry} (off : s.resp.tableProtect = false)
    (carriage : cls.toNat = k.val + 13) (read : carriageOf f = some e) (sources : e.sources = f.sources &&& 0xFFFFFFFC#32) :
    s.cmdLoadFrameClass cls f = (s.setScreen { s.screen with table := vset s.screen.table k e },
      .now .pass (if f.sources.getLsbD 0 || f.sources.getLsbD 1 then .adjusted else .ok) e.bytes) := by
  have index : finOf 51 (cls.toNat - 13) = some k := finOf_eq_some.mpr (by omega)
  unfold cmdLoadFrameClass
  rw [off, if_neg Bool.false_ne_true, if_neg (by omega), index, read]
  dsimp only
  rw [passAdj, sources, sources_trimmed]

end State

open State

/-- Settles O28: the four loads refused while TABLE_PROTECT is set, then each by its fields. -/
theorem tableProtectedLoads : Obligations.TableProtectedLoads := by
  intro a s ready g
  refine ⟨fun on => ⟨fun f => ?_, fun p => ?_, fun cls x => ?_, fun cls f => ?_⟩, fun off => ⟨fun f => ?_, fun p => ?_,
    fun cls x => ?_, fun cls f => ?_⟩⟩
  · exact takeCommand_answered ready (cmdSetStrikePolicy_protected (s := g) on f)
  · exact takeCommand_answered ready (cmdLoadTariff_protected (s := g) on p)
  · exact takeCommand_answered ready (cmdLoadClassRate_protected (s := g) on cls x)
  · exact takeCommand_answered ready (cmdLoadFrameClass_protected (s := g) on cls f)
  · refine ⟨fun out => ?_, fun x y z hx hy hz threshold => ?_⟩
    · exact takeCommand_answered ready (cmdSetStrikePolicy_range (s := g) off (policyOf_eq_none out))
    · exact takeCommand_answered ready (cmdSetStrikePolicy_stores (s := g) off (policyOf_eq_some hx hy hz threshold))
  · have tests := cmdLoadTariff_unprotected (s := g) off p
    refine ⟨fun high => takeCommand_answered ready (tests.trans (if_pos high)), fun good => ⟨tariffOf p, rfl, ?_⟩⟩
    have noHigh : ¬ ∃ v ∈ priceList p, 99999999 < v := fun ⟨v, m, high⟩ => Nat.not_lt.mpr (good v m) high
    exact takeCommand_answered ready (tests.trans (if_neg noHigh))
  · refine ⟨fun out => ?_, fun k e small => ?_⟩
    · by_cases big : 16 ≤ cls.toNat
      · exact takeCommand_answered ready (cmdLoadClassRate_noClass (s := g) off big x)
      · have tests := cmdLoadClassRate_ofClass (s := g) (k := ⟨cls.toNat, by omega⟩) off rfl x
        exact takeCommand_answered ready (tests.trans (if_pos (by omega)))
    · exact takeCommand_answered ready ((cmdLoadClassRate_ofClass (s := g) off e x).trans (if_neg (by omega)))
  · refine ⟨fun out => ?_, fun k guard carriage directions hg => ?_⟩
    · refine takeCommand_answered ready (cmdLoadFrameClass_range (s := g) off ?_)
      exact out.imp_right (Or.imp_right carriageOf_eq_none)
    · exact takeCommand_answered ready
        (cmdLoadFrameClass_stores (s := g) off carriage (carriageOf_eq_some directions hg) rfl)

end Sys2Proof.Machine
end

section
/-! PROOF. READ_LOG and RELEASE_LOG (R122, R123, R183), record by record and byte by byte (10.4). -/

namespace Sys2Proof.Machine

/-! ### The record's 56 bytes (R183) -/

theorem bitsByte_seven : ∀ a b c d e f g : Bool,
    [bitsByte [(a, 0), (b, 1), (c, 2), (d, 3), (e, 4), (f, 5), (g, 6)]] = beN 1 (bitsNumber [a, b, c, d, e, f, g]) := by decide

@[simp] theorem Record.bytes_length (r : Record) : r.bytes.length = 56 := by simp [Record.bytes]

/-- An index, or a number where it is absent. -/
theorem map_val_getD {n : Nat} (v : Option (Fin n)) (d : Nat) : (v.map Fin.val).getD d = v.elim d Fin.val := by
  cases v <;> rfl

/-- The record's bytes, the packed fields as sums and the presence bits as a number. -/
theorem Record.bytes_eq (r : Record) : r.bytes =
    beN 4 r.seq ++ beN 1 (16 * r.cls.elim 0 Fin.val + r.endCause.code)
      ++ beN 2 (16384 * r.kind.code + (r.flags &&& 0x1FFF#16).toNat)
      ++ beN 1 (32 * r.hose.elim 7 Fin.val + 8 * r.comp.val + r.grade.val)
      ++ beN 1 (bitsNumber [r.cls.isSome, r.centre.isSome, r.machine.isSome, r.tag.isSome, r.lastTemp.isSome, r.amount.isSome,
          r.hoursRef.isSome])
      ++ beN 1 (r.centre.elim 0 Fin.val) ++ beN 2 (r.machine.getD 0) ++ be6 (r.tag.getD 0) ++ be4 r.period
      ++ be4 r.startTime ++ be4 r.endTime ++ be48 (BitVec.ofInt 48 r.gross) ++ be48 (BitVec.ofInt 48 r.net)
      ++ be2 (BitVec.ofInt 16 (r.lastTemp.getD 0)) ++ beN 2 r.calCounter ++ beN 6 (r.amount.getD 0)
      ++ beN 4 (r.hoursRef.getD 0) := by
  simp only [Record.bytes, bitsByte_seven, map_val_getD, Nat.mul_comm]

namespace State

variable {s : State} {seq : Word}

/-! ### The records read and released (R122, R123) -/

/-- READ_LOG reads the first two stored records from its number on. -/
theorem cmdReadLog_reads (ok : s.LogOk) (seq : Word) :
    let oldest := s.billing.nextSeq - s.billing.stored.length
    let got := (s.billing.stored.drop (seq.toNat - oldest)).take 2
    s.cmdReadLog seq = (s, passOk (beN 1 got.length ++ beN 4 oldest ++ beN 4 s.billing.nextSeq
      ++ (got.map Record.bytes).flatten)) := by
  intro oldest
  have first : max seq.toNat oldest - oldest = seq.toNat - oldest := by omega
  unfold cmdReadLog
  dsimp only
  rw [ok.oldestSeq, ok.stored_from, first]

theorem cmdReleaseLog_beyond (beyond : s.billing.nextSeq ≤ seq.toNat) : s.cmdReleaseLog seq = (s, fail .range) := if_pos beyond

theorem cmdReleaseLog_none (ok : s.LogOk) (below : seq.toNat < s.billing.nextSeq - s.billing.stored.length) :
    s.cmdReleaseLog seq = (s, passOk (beN 2 0 ++ beN 4 (s.billing.nextSeq - s.billing.stored.length))) := by
  unfold cmdReleaseLog
  rw [if_neg (by omega), ok.oldestSeq, if_pos below]

/-- RELEASE_LOG removes what its number covers, and the next number is the oldest then. -/
theorem cmdReleaseLog_releases (ok : s.LogOk) (stored : s.billing.nextSeq - s.billing.stored.length ≤ seq.toNat)
    (below : seq.toNat < s.billing.nextSeq) :
    let count := seq.toNat + 1 - (s.billing.nextSeq - s.billing.stored.length)
    s.cmdReleaseLog seq = (s.setBilling { s.billing with
        stored := s.billing.stored.drop count, oldestIndex := (s.billing.oldestIndex + count) % 1024 },
      passOk (beN 2 count ++ beN 4 (seq.toNat + 1))) := by
  intro count
  obtain ⟨-, fewer, -⟩ := id ok
  have kept : s.billing.stored.filter (fun r => decide (seq.toNat < r.seq)) = s.billing.stored.drop count := ok.stored_from _
  have gone : s.billing.stored.length - (s.billing.stored.length - count) = count := by omega
  have released : LogOk (s.setBilling { s.billing with
      stored := s.billing.stored.drop count, oldestIndex := (s.billing.oldestIndex + count) % Config.logSlots }) :=
    ok.released count rfl (Nat.mod_lt _ (by decide)) rfl
  have oldest := released.oldestSeq
  simp only [setBilling_billing, List.length_drop] at oldest
  have next : s.billing.nextSeq - (s.billing.stored.length - count) = seq.toNat + 1 := by omega
  unfold cmdReleaseLog
  dsimp only
  rw [if_neg (by omega), ok.oldestSeq, if_neg (by omega), kept, List.length_drop, gone, setBilling_billing, oldest, next]

end State

open State

/-- Settles O44: of consecutive sequence numbers, those from a number on are a tail of the log. -/
theorem logIsReadAndReleased : Obligations.LogIsReadAndReleased := by
  intro a seq s ok g b oldest bits kind cause form
  have kind_eq (k : RecordKind) : kind k = k.code := by cases k <;> rfl
  have cause_eq (e : EndCause) : cause e = e.code := by cases e <;> rfl
  have form_eq (r : Record) : form r = r.bytes := by
    rw [r.bytes_eq, ← kind_eq, ← cause_eq]
    rfl
  refine ⟨fun ready => ?_, fun ready => ⟨fun beyond => ?_, fun below => ?_, fun stored below => ?_⟩⟩
  · intro got
    refine ⟨?_, fun r _ => by rw [form_eq, r.bytes_length]⟩
    rw [funext form_eq]
    exact takeCommand_answered ready (cmdReadLog_reads (s := g) ok seq)
  · exact takeCommand_answered ready (cmdReleaseLog_beyond (s := g) beyond)
  · exact takeCommand_answered ready (cmdReleaseLog_none (s := g) ok below)
  · exact takeCommand_answered ready (cmdReleaseLog_releases (s := g) ok stored below)

end Sys2Proof.Machine
end

section
/-! PROOF. READ_CENTRES and CLEAR_CENTRES (R127, R128). -/

namespace Sys2Proof.Machine

/-- The number a READ_CENTRES goes on from after the accumulators it returned (R127). -/
def nextCentre (got : List CentreId) : Option Nat :=
  match got.getLast? with
  | some z => if got.length < 7 || z.val = 63 then none else some (z.val + 1)
  | none => none

theorem nextCentre_few {got : List CentreId} (few : got.length < 7) : nextCentre got = none := by
  unfold nextCentre
  cases got.getLast? with
  | none => rfl
  | some z => simp [few]

theorem nextCentre_full {got : List CentreId} {z : CentreId} (full : got.length = 7) (last : got.getLast? = some z) :
    nextCentre got = if z.val = 63 then none else some (z.val + 1) := by
  unfold nextCentre
  rw [last]
  simp [full]

namespace State

variable {s : State} {start option n : Byte}

theorem cmdReadCentres_range (out : 63 < start.toNat ∨ 1 < option.toNat) :
    s.cmdReadCentres start option = (s, fail .range) := if_pos (by simpa using out)

/-- READ_CENTRES returns the first seven it looks for, and unmarks them. -/
theorem cmdReadCentres_reads (low : start.toNat ≤ 63) (listed : option.toNat ≤ 1) :
    let got := ((ids 64).filter fun z => decide (start.toNat ≤ z.val) &&
      (option == 0#8 || (vget s.billing.centres z).changed)).take 7
    s.cmdReadCentres start option =
      (s.setBilling { s.billing with
          centres := vmapIdx (fun z c => if got.contains z then { c with changed := false } else c) s.billing.centres },
        passOk (beN 1 got.length ++ optN 1 (nextCentre got)
          ++ (got.map fun z => (vget s.billing.centres z).bytes z).flatten)) :=
  if_neg (by simpa using ⟨low, listed⟩)

theorem cmdClearCentres_all : s.cmdClearCentres 0xFF#8 =
    (s.setBilling { s.billing with centres := Vector.replicate 64 Accumulator.cold }, passOk []) := rfl

theorem cmdClearCentres_one {z : CentreId} (e : n.toNat = z.val) : s.cmdClearCentres n =
    (s.setBilling { s.billing with centres := vset s.billing.centres z .cold }, passOk []) := by
  have one : n ≠ 0xFF#8 := by
    rintro rfl
    exact absurd e (Nat.ne_of_gt (z.isLt.trans (by decide)))
  unfold cmdClearCentres
  rw [if_neg one, finOf_eq_some.mpr e]

theorem cmdClearCentres_range (out : 63 < n.toNat) (one : n ≠ 0xFF#8) : s.cmdClearCentres n = (s, fail .range) := by
  unfold cmdClearCentres
  rw [if_neg one, finOf_eq_none.mpr out]

end State

open State

/-- Settles O45: each command by its operands; a read unmarks what it returns and no other. -/
theorem centresAreReadAndCleared : Obligations.CentresAreReadAndCleared := by
  intro a s g
  refine ⟨fun ready start option => ⟨fun out => ?_, fun low listed => ?_⟩, fun ready n => ⟨fun z e => ?_, ?_, fun out one => ?_⟩⟩
  · exact takeCommand_answered ready (cmdReadCentres_range out)
  · intro wanted got
    refine ⟨_, nextCentre got, takeCommand_answered ready (cmdReadCentres_reads (s := g) low listed), fun z => ?_,
      fun few => ?_, fun z full last => ?_⟩
    · rw [vget_vmapIdx]
      exact if_congr List.contains_iff_mem rfl rfl
    · exact nextCentre_few ((List.length_take_le' ..).trans_lt few)
    · exact nextCentre_full full last
  · exact takeCommand_answered ready (cmdClearCentres_one (s := g) e)
  · rintro rfl
    exact ⟨Vector.replicate 64 Accumulator.cold, vget_replicate _, takeCommand_answered ready (cmdClearCentres_all (s := g))⟩
  · exact takeCommand_answered ready (cmdClearCentres_range (s := g) out one)

end Sys2Proof.Machine
end

section
/-! PROOF. REARM (R134): its acknowledge set, and its effect and answer by what remains in the cause set. -/

namespace Sys2Proof.Machine

/-! ### Acknowledge sets (R134) -/

theorem beyondCauses_getLsbD : ∀ i : Fin 16, (0xFC00#16).getLsbD i.val = decide (10 ≤ i.val) := by decide

/-- The ten causes are the ten low bits. -/
theorem causesOnly_iff {w : Half} : causesOnly w = true ↔ w < 0x0400#16 := by
  rw [causesOnly, beq_iff_eq, BitVec.lt_def]
  constructor
  · intro clear
    refine Nat.lt_pow_two_of_testBit (n := 10) _ fun i high => ?_
    by_cases inside : i < 16
    · have bit : (w &&& 0xFC00#16).getLsbD i = false := by rw [clear, BitVec.getLsbD_zero]
      rw [BitVec.getLsbD_and, beyondCauses_getLsbD ⟨i, inside⟩] at bit
      simpa [high, BitVec.getLsbD] using bit
    · exact BitVec.getLsbD_of_ge w i (Nat.not_lt.mp inside)
  · intro small
    refine BitVec.eq_of_getLsbD_eq fun i inside => ?_
    rw [BitVec.getLsbD_and, beyondCauses_getLsbD ⟨i, inside⟩, BitVec.getLsbD_zero]
    by_cases high : 10 ≤ i
    · have bit : w.getLsbD i = false := Nat.testBit_lt_two_pow (small.trans_le (Nat.pow_le_pow_right (n := 2) two_pos high))
      rw [bit, Bool.false_and]
    · rw [decide_eq_false high, Bool.and_false]

namespace State

variable {s : State} {causes : Half}

/-! ### REARM's effect and answer (R134) -/

theorem cmdRearm_range (out : 0x0400#16 ≤ causes) : s.cmdRearm causes = (s, fail .range) :=
  if_neg fun only => BitVec.not_lt.mpr out (causesOnly_iff.mp only)

theorem cmdRearm_empties (only : causes < 0x0400#16) (empty : s.att.causes &&& ~~~causes = 0#16) :
    s.cmdRearm causes = (s.setAtt ⟨0#16, .armed⟩, passOk [0#8, 0#8, 0#8]) := by
  have unit : s.rearmUnit causes = s.setAtt ⟨0#16, .armed⟩ := by
    unfold rearmUnit
    rw [empty]
    exact if_pos rfl
  have said : be2 0#16 ++ beN 1 AttState.armed.code = [0#8, 0#8, 0#8] := by decide
  unfold cmdRearm
  dsimp only
  rw [if_pos (causesOnly_iff.mpr only), unit, setAtt_att, said]

theorem cmdRearm_reissues (only : causes < 0x0400#16) (remain : s.att.causes &&& ~~~causes ≠ 0#16) :
    s.cmdRearm causes = ((s.setAtt ⟨s.att.causes &&& ~~~causes, .fired⟩).cabControl .attention
        (ownFrame 0 9 (be2 (s.att.causes &&& ~~~causes))),
      passOk (be2 (s.att.causes &&& ~~~causes) ++ [1#8])) := by
  have unit : s.rearmUnit causes = s.fireAttention (s.att.causes &&& ~~~causes) := if_neg remain
  unfold cmdRearm
  rw [if_pos (causesOnly_iff.mpr only), unit]
  rfl

end State

open State

/-- Settles O46: REARM by its acknowledge set and by what remains. -/
theorem rearmRemovesAndReissues : Obligations.RearmRemovesAndReissues := by
  intro a causes s ready g rest
  refine ⟨fun out => ?_, fun only empty => ?_, fun only remain => ?_⟩
  · exact takeCommand_answered ready (cmdRearm_range out)
  · exact takeCommand_answered ready (cmdRearm_empties (s := g) only empty)
  · exact takeCommand_answered ready (cmdRearm_reissues (s := g) only remain)

end Sys2Proof.Machine
end

section
/-! PROOF. The Attention Unit is never ARMED with a non-empty set (R130): a cause set leaves it FIRED (R132), and so do both
start-ups (R136, R137); REARM leaves it ARMED with an empty set or FIRED with the rest (R134); nothing else changes it. -/

namespace Sys2Proof.Machine

namespace State

namespace AttentionOk

variable {s t u : State} {h : HoseId} {i : EntryId} {tag : TagId} {p : Profile} {st : Settings}

/-! ### What keeps the unit from ARMED with a non-empty set (R130) -/

theorem of_att (ok : s.AttentionOk) (att : t.att = s.att) : t.AttentionOk := by
  rw [AttentionOk, att]
  exact ok

/-- As of_att, where an equation shows the state left. -/
theorem of_eq (ok : s.AttentionOk) (e : t = u) (att : u.att = s.att) : t.AttentionOk := e ▸ ok.of_att att

theorem of_fired (fired : t.att.state = .fired) : t.AttentionOk := fun armed => by
  rw [fired] at armed
  cases armed

/-- A cause set leaves the unit FIRED (R132). -/
theorem setCause {w : Cause} : (s.setCause w).AttentionOk := of_fired (by simp)

/-- A REARM leaves the unit ARMED where nothing remains, and FIRED otherwise (R134). -/
theorem cmdRearm (ok : s.AttentionOk) {causes : Half} : (s.cmdRearm causes).1.AttentionOk := by
  by_cases out : 0x0400#16 ≤ causes
  · rw [cmdRearm_range out]
    exact ok
  · have only : causes < 0x0400#16 := BitVec.not_le.mp out
    by_cases empty : s.att.causes &&& ~~~causes = 0#16
    · rw [cmdRearm_empties only empty]
      exact fun _ => rfl
    · rw [cmdRearm_reissues only empty]
      exact of_fired rfl

/-! ### Walks, and the commands and moments that walk (R6) -/

theorem walkBucket (ok : s.AttentionOk) {b : Bucket} {seek : Option TagId} : (s.walkBucket b seek).2.AttentionOk := by
  unfold State.walkBucket
  dsimp only
  split
  · exact setCause
  · exact ok

theorem walkTag (ok : s.AttentionOk) (tag : TagId) : (s.walkTag tag).2.AttentionOk := ok.walkBucket

theorem cmdLoadMachine (ok : s.AttentionOk) {m : MachineForm} : (s.cmdLoadMachine m).1.AttentionOk := by
  unfold State.cmdLoadMachine
  split
  · exact ok
  · next l _ =>
    have walked := ok.walkTag l.tag
    dsimp only
    split
    · exact walked.of_att (by simp)
    · split
      · exact walked
      · exact walked.of_att (by simp)

theorem cmdDeleteMachine (ok : s.AttentionOk) {tag : TagId} : (s.cmdDeleteMachine tag).1.AttentionOk := by
  unfold State.cmdDeleteMachine
  dsimp only
  split
  · exact (ok.walkTag tag).of_att (by simp)
  · exact ok.walkTag tag

theorem cmdReadByTag (ok : s.AttentionOk) {tag : TagId} : (s.cmdReadByTag tag).1.AttentionOk := by
  unfold State.cmdReadByTag
  dsimp only
  split
  · exact (ok.walkTag tag).of_att (by simp)
  · exact ok.walkTag tag

theorem cmdSetAllowance (ok : s.AttentionOk) {tag : TagId} {v : Word} : (s.cmdSetAllowance tag v).1.AttentionOk := by
  unfold State.cmdSetAllowance
  dsimp only
  repeat' split
  · exact ok.walkTag tag
  · exact (ok.walkTag tag).of_att (by simp)
  · exact ok.walkTag tag
  · exact ok

theorem cmdClearStrikes (ok : s.AttentionOk) {tag : TagId} : (s.cmdClearStrikes tag).1.AttentionOk := by
  unfold State.cmdClearStrikes
  dsimp only
  split
  · exact (ok.walkTag tag).of_att (by simp)
  · exact ok.walkTag tag

theorem markBucket (ok : s.AttentionOk) {b : Bucket} {w : SweepWork} : (State.markBucket b (w, s)).2.AttentionOk :=
  ok.walkBucket

theorem sweepMark (ok : s.AttentionOk) {w : SweepWork} : (State.sweepMark (w, s)).2.AttentionOk :=
  List.foldlRecOn _ _ (motive := fun acc : SweepWork × State => acc.2.AttentionOk) ok fun _ ok _ _ => ok.markBucket

theorem sweepMoment (ok : s.AttentionOk) {w : SweepWork} : (State.sweepMoment (w, s)).2.AttentionOk := by
  unfold State.sweepMoment
  dsimp only
  split
  · exact ok.markBucket
  · split
    · exact ok
    · split
      · next i _ => exact ok.of_eq (examineEntry_snd_only s i w) rfl
      · exact ok

theorem sweepTick (ok : s.AttentionOk) : s.sweepTick.AttentionOk := by
  unfold State.sweepTick
  split
  · exact ok.sweepMoment.of_att rfl
  · exact ok

/-! ### The log's level (R118) -/

theorem levelRaised (ok : s.AttentionOk) (before : Nat) : (s.levelRaised before).AttentionOk := by
  unfold State.levelRaised
  split
  · exact setCause
  · exact ok

theorem accept (ok : s.AttentionOk) {h : HoseId} {c : Context} : (s.accept h c).AttentionOk := by
  have reserved : s.reserve.AttentionOk :=
    (ok.of_att (t := s.setBilling { s.billing with reserved := s.billing.reserved + 1 }) rfl).levelRaised _
  refine reserved.of_att ?_
  unfold State.accept
  dsimp only
  split <;> simp

theorem cmdReconcile (ok : s.AttentionOk) {comp : Byte} : (s.cmdReconcile comp).1.AttentionOk := by
  unfold State.cmdReconcile
  split
  · exact ok
  · split
    · exact ok
    · split
      · exact ok
      · split
        · exact ok
        · dsimp only
          split
          · exact ok
          · next c _ _ st _ _ _ reading _ _ =>
            have posted : ((s.setBilling (s.billing.postAdjustment (s.adjustmentRecord c st reading))).drawFor
                ((reading : Int) - (s.comp c).book)).AttentionOk := ok.of_att (by simp)
            exact (posted.levelRaised s.billing.level).of_att (by simp)

/-! ### Tag reads and the operator's starts (R26 to R41) -/

theorem setEntry (ok : s.AttentionOk) {x : Entry} : (s.setEntry i x).AttentionOk := ok.of_att rfl

theorem applyStrike (ok : s.AttentionOk) (op : StrikeOp) : (s.applyStrike op i).AttentionOk := by
  unfold State.applyStrike
  dsimp only
  split
  · exact setCause
  · exact ok.setEntry

theorem spaceAndPreset (ok : s.AttentionOk) {r : Option Nat} : (s.spaceAndPreset h p st i tag r).AttentionOk := by
  have refilled : (s.refill i).AttentionOk := ok.setEntry
  unfold State.spaceAndPreset
  dsimp only
  split
  · exact ok.of_att rfl
  · repeat' split
    all_goals first
      | exact refilled.accept
      | exact refilled.of_att rfl

theorem testsAndStrikes (ok : s.AttentionOk) {r : Option Nat} : (s.testsAndStrikes h p st i tag r).AttentionOk := by
  unfold State.testsAndStrikes
  dsimp only
  split
  · exact (ok.applyStrike _).of_att rfl
  · exact (ok.applyStrike _).of_att rfl
  · split
    · exact (ok.applyStrike _).of_att rfl
    · have struck := ok.applyStrike (i := i) s.table.policy.pass
      split
      · exact struck.of_att rfl
      · exact struck.setEntry.spaceAndPreset

theorem lookupTag (ok : s.AttentionOk) {r : Option Nat} : (s.lookupTag h p st tag r).AttentionOk := by
  have walked := ok.walkTag tag
  unfold State.lookupTag
  dsimp only
  split
  · exact walked.of_att rfl
  · exact walked.of_att rfl
  · split
    · exact walked.of_att rfl
    · split
      · exact walked.of_att rfl
      · split
        · exact walked.of_att rfl
        · exact walked.testsAndStrikes

theorem tagReadEvent (ok : s.AttentionOk) {hours : Word} {q : Byte} : (s.tagReadEvent h tag hours q).AttentionOk := by
  unfold State.tagReadEvent State.evaluateRead
  repeat' split
  all_goals first
    | exact ok
    | exact ok.of_att rfl
    | exact ok.lookupTag

theorem manualRequest (ok : s.AttentionOk) {n : Node} {hose z c b : Byte} {m : Half} {r : Word} :
    (s.manualRequest n hose z c b m r).AttentionOk := by
  unfold State.manualRequest State.manualEvaluate
  dsimp only
  repeat' split
  all_goals first
    | exact ok.accept
    | exact ok.of_att rfl

theorem receiveRequest (ok : s.AttentionOk) {n : Node} {hose : Byte} {v : Word} {b : Byte} {r : Word} :
    (s.receiveRequest n hose v b r).AttentionOk := by
  unfold State.receiveRequest State.receiveEvaluate
  dsimp only
  repeat' split
  all_goals first
    | exact ok.accept
    | exact ok.of_att rfl

/-! ### Samples, head status and probes (R57, R67, R80, R93, R95) -/

theorem sample (ok : s.AttentionOk) {h : HoseId} {seq : Byte} {total temp : Half} :
    (s.sample h seq total temp).AttentionOk := by
  unfold State.sample
  dsimp only
  repeat' split
  all_goals first
    | exact ok
    | exact setCause
    | exact ok.of_att (by simp)

theorem headStatusEvent (ok : s.AttentionOk) {h : HoseId} {code : Byte} : (s.headStatusEvent h code).AttentionOk := by
  have caused : (s.setCause .headFault).AttentionOk := setCause
  unfold State.headStatusEvent
  dsimp only
  split
  · exact ok
  · split
    · exact caused.of_att (by simp)
    · exact caused

theorem varianceCheck (ok : s.AttentionOk) {c : CompId} {st : Settings} {reading : Nat} :
    (s.varianceCheck c st reading).AttentionOk := by
  unfold State.varianceCheck
  dsimp only
  split
  · exact ok
  · split
    · exact ok.of_att rfl
    · split
      · exact setCause
      · exact ok.of_att rfl

theorem overfillCheck (ok : s.AttentionOk) {c : CompId} {st : Settings} {reading : Nat} :
    (s.overfillCheck c st reading).AttentionOk := by
  unfold State.overfillCheck
  dsimp only
  split
  · exact ok
  · split
    · exact setCause
    · exact ok.of_att (by simp)

theorem probeEvent (ok : s.AttentionOk) {c : CompId} {volume : Word} {status : Byte} :
    (s.probeEvent c volume status).AttentionOk := by
  unfold State.probeEvent
  split
  · exact ok.of_att rfl
  · split
    · exact ok
    · next st _ =>
      have stored : (s.setComp c { s.comp c with
          lastReading := some volume.toNat, readingTime := some s.resp.clock }).AttentionOk := ok.of_att rfl
      exact stored.varianceCheck.overfillCheck

/-! ### Start-up (R136, R137) -/

/-- Either start-up ends with its cause set. -/
theorem startUp {straps : Node} : (s.startUp straps).AttentionOk := by
  unfold State.startUp
  split
  · unfold State.warmStart
    exact setCause
  · unfold State.coldStart
    exact setCause

/-! ### The walk over the commands -/

/-- The reception of a frame and the frames queued in answer leave the unit alone. -/
theorem received : Received AttentionOk where
  good _ _ ok := ok.of_att (by simp)
  bad _ _ ok := ok.of_att (by simp)
  screened _ _ ok := ok.of_att (by simp)
  screen _ _ ok := ok.of_att rfl
  forward _ _ _ ok := ok.of_att (by simp)
  control _ _ _ ok := ok.of_att rfl
  ordinary _ _ ok := ok.of_att rfl

end AttentionOk
end State

open State

/-- Every row of its own keeps the unit from ARMED with a non-empty set. -/
theorem row_attentionOk (j : Instr) (s : State) (raw : Instr.raw j = false) (ok : s.AttentionOk) :
    ∃ t, exec j s = .next t ∧ t.AttentionOk := by
  have r := AttentionOk.received
  cases j with
  | badFrame | screenDrop | carriageFrame | malformedRequest | malformedCommand => cases raw
  | tagRead => exact ⟨_, rfl, r.takeField ok fun _ _ ok => ok.tagReadEvent⟩
  | nozzle => exact ⟨_, rfl, r.takeField ok fun _ _ ok => by split; exacts [ok.of_att (by simp), ok]⟩
  | meterSample => exact ⟨_, rfl, r.takeField ok fun _ _ ok => ok.sample⟩
  | headStatus => exact ⟨_, rfl, r.takeField ok fun _ _ ok => ok.headStatusEvent⟩
  | probe => exact ⟨_, rfl, r.takeField ok fun _ _ ok => ok.probeEvent⟩
  | post => exact ⟨_, rfl, r.takeHoseRequest ok fun _ _ ok => ok.of_att (by simp)⟩
  | hold => exact ⟨_, rfl, r.takeHoseRequest ok fun _ _ ok => ok.of_att (by simp)⟩
  | resume => exact ⟨_, rfl, r.takeHoseRequest ok fun _ _ ok => ok.of_att (by simp)⟩
  | stop => exact ⟨_, rfl, r.takeHoseRequest ok fun _ _ ok => ok.of_att (by simp)⟩
  | emergencyStop =>
    exact ⟨_, rfl, r.takeOperator ok fun _ ok => by split; exacts [ok.of_att rfl, ok.of_att (by simp)]⟩
  | manualAuth => exact ⟨_, rfl, r.takeOperator ok fun _ ok => ok.manualRequest⟩
  | receiveStart => exact ⟨_, rfl, r.takeOperator ok fun _ ok => ok.receiveRequest⟩
  | authWindowExpiry => exact ⟨_, rfl, expiry_elim ok fun _ _ => ok.of_att (by simp)⟩
  | noFlowExpiry => exact ⟨_, rfl, expiry_elim ok fun _ _ => ok.of_att (by simp)⟩
  | meterSilenceExpiry =>
    have caused : (s.setCause .meterSilent).AttentionOk := .setCause
    exact ⟨_, rfl, expiry_elim ok fun _ _ => caused.of_att (by simp)⟩
  | settleExpiry => exact ⟨_, rfl, expiry_elim ok fun _ _ => ok.of_att (by simp)⟩
  | postDelayExpiry => exact ⟨_, rfl, expiry_elim ok fun _ _ => ok.of_att (by simp)⟩
  | holdLimitExpiry => exact ⟨_, rfl, expiry_elim ok fun _ _ => ok.of_att (by simp)⟩
  | frameSent p =>
    refine ⟨_, rfl, ?_⟩
    split
    · split
      · exact .startUp
      · cases p <;> exact ok.of_att rfl
    · exact ok
  | startUp => exact ⟨_, rfl, .startUp⟩
  | identify => exact ⟨_, rfl, r.takeCommand ok fun _ ok => ok⟩
  | status a x n o =>
    refine ⟨_, rfl, ?_⟩
    split
    · exact r.takeCommand ok fun _ ok => ok.of_eq (cmdStatusCounterClear_fst_only ..) rfl
    · exact r.takeCommand ok fun _ ok => ok.of_eq (cmdStatus_fst_only ..) rfl
  | statusCounterClear =>
    exact ⟨_, rfl, r.takeCommand ok fun _ ok => ok.of_eq (cmdStatusCounterClear_fst_only ..) rfl⟩
  | setClock => exact ⟨_, rfl, r.takeCommand ok fun _ ok => ok.of_eq (cmdSetClock_fst_only ..) rfl⟩
  | setPrivilege => exact ⟨_, rfl, r.takeCommand ok fun _ ok => ok.of_eq (cmdSetPrivilege_fst_only ..) rfl⟩
  | setProtection => exact ⟨_, rfl, r.takeCommand ok fun _ ok => ok.of_eq (cmdSetProtection_fst_only ..) rfl⟩
  | digest => exact ⟨_, rfl, r.takeCommand ok fun _ ok => ok.of_eq (cmdDigest_fst_only ..) rfl⟩
  | digestDone => exact ⟨_, rfl, by split; exacts [ok.of_att rfl, ok]⟩
  | queryEmpty => exact ⟨_, rfl, r.takeCommand ok fun _ ok => ok.of_eq (cmdQueryEmpty_fst_only ..) rfl⟩
  | wipe => exact ⟨_, rfl, r.takeCommand ok fun _ ok => ok.of_eq (cmdWipe_fst_only _) rfl⟩
  | restart => exact ⟨_, rfl, r.takeCommand ok fun _ ok => ok⟩
  | loadMachine => exact ⟨_, rfl, r.takeCommand ok fun _ ok => ok.cmdLoadMachine⟩
  | deleteMachine => exact ⟨_, rfl, r.takeCommand ok fun _ ok => ok.cmdDeleteMachine⟩
  | readMachineByTag => exact ⟨_, rfl, r.takeCommand ok fun _ ok => ok.cmdReadByTag⟩
  | readMachineByIndex => exact ⟨_, rfl, r.takeCommand ok fun _ ok => ok.of_eq (cmdReadByIndex_fst_only ..) rfl⟩
  | setAllowance => exact ⟨_, rfl, r.takeCommand ok fun _ ok => ok.cmdSetAllowance⟩
  | clearStrikes => exact ⟨_, rfl, r.takeCommand ok fun _ ok => ok.cmdClearStrikes⟩
  | openPeriod => exact ⟨_, rfl, r.takeCommand ok fun _ ok => ok.of_eq (cmdOpenPeriod_fst_only _) rfl⟩
  | sweep => exact ⟨_, rfl, r.takeCommand ok fun _ ok => ok.of_eq (cmdSweep_fst_only ..) rfl⟩
  | sweepDone =>
    refine ⟨_, rfl, ?_⟩
    split
    · exact ok.sweepMark.of_att rfl
    · exact ok
  | setStrikePolicy => exact ⟨_, rfl, r.takeCommand ok fun _ ok => ok.of_eq (cmdSetStrikePolicy_fst_only ..) rfl⟩
  | rollCallStart => exact ⟨_, rfl, r.takeCommand ok fun _ ok => ok.of_eq (cmdRollCallStart_fst_only _) rfl⟩
  | rollCallStop => exact ⟨_, rfl, r.takeCommand ok fun _ ok => ok.of_eq (cmdRollCallStop_fst_only _) rfl⟩
  | rollCallRead => exact ⟨_, rfl, r.takeCommand ok fun _ ok => ok.of_eq (cmdRollCallRead_fst_only ..) rfl⟩
  | loadHoseProfile => exact ⟨_, rfl, r.takeCommand ok fun _ ok => ok.of_eq (cmdLoadHoseProfile_fst_only ..) rfl⟩
  | siteStop => exact ⟨_, rfl, r.takeCommand ok fun _ ok => ok.of_eq (cmdSiteStop_fst_only _) rfl⟩
  | siteResume => exact ⟨_, rfl, r.takeCommand ok fun _ ok => ok.of_eq (cmdSiteResume_fst_only _) rfl⟩
  | loadCalibration => exact ⟨_, rfl, r.takeCommand ok fun _ ok => ok.of_eq (cmdLoadCalibration_fst_only ..) rfl⟩
  | loadGrade => exact ⟨_, rfl, r.takeCommand ok fun _ ok => ok.of_eq (cmdLoadGrade_fst_only ..) rfl⟩
  | loadCompartment => exact ⟨_, rfl, r.takeCommand ok fun _ ok => ok.of_eq (cmdLoadCompartment_fst_only ..) rfl⟩
  | ackRestock => exact ⟨_, rfl, r.takeCommand ok fun _ ok => ok.of_eq (cmdAckRestock_fst_only ..) rfl⟩
  | setStock => exact ⟨_, rfl, r.takeCommand ok fun _ ok => ok.of_eq (cmdSetStock_fst_only ..) rfl⟩
  | reconcile => exact ⟨_, rfl, r.takeCommand ok fun _ ok => ok.cmdReconcile⟩
  | loadTariff => exact ⟨_, rfl, r.takeCommand ok fun _ ok => ok.of_eq (cmdLoadTariff_fst_only ..) rfl⟩
  | loadClassRate => exact ⟨_, rfl, r.takeCommand ok fun _ ok => ok.of_eq (cmdLoadClassRate_fst_only ..) rfl⟩
  | readLog => exact ⟨_, rfl, r.takeCommand ok fun _ ok => ok.of_eq (cmdReadLog_fst_only ..) rfl⟩
  | releaseLog => exact ⟨_, rfl, r.takeCommand ok fun _ ok => ok.of_eq (cmdReleaseLog_fst_only ..) rfl⟩
  | readCentres => exact ⟨_, rfl, r.takeCommand ok fun _ ok => ok.of_eq (cmdReadCentres_fst_only ..) rfl⟩
  | clearCentres => exact ⟨_, rfl, r.takeCommand ok fun _ ok => ok.of_eq (cmdClearCentres_fst_only ..) rfl⟩
  | rearm => exact ⟨_, rfl, r.takeCommand ok fun _ ok => ok.cmdRearm⟩
  | loadFrameClass => exact ⟨_, rfl, r.takeCommand ok fun _ ok => ok.of_eq (cmdLoadFrameClass_fst_only ..) rfl⟩
  | siteClockSecond => exact ⟨_, rfl, by split; exacts [ok.of_att rfl, ok]⟩
  | mainSupplyLoss => exact ⟨_, rfl, by split; exacts [ok.of_att rfl, ok]⟩
  | retentionSupplyFailure => exact ⟨_, rfl, by split; exacts [ok, ok.of_att rfl]⟩
  | storeValueLost entry change => exact ⟨_, rfl, by cases entry <;> exact ok.of_att rfl⟩

/-- Settles O54: an idle step is a moment of a SWEEP, and a command is a row of its own or ends in one or in a drop. -/
theorem stepKeepsAttention : Obligations.StepKeepsAttention := by
  intro s t ok e
  unfold step at e
  split at e
  · obtain rfl := Host.Outcome.next.inj e
    exact ok.sweepTick
  · next rest _ =>
    refine AttentionOk.received.exec (fun j u raw okRow v ev => ?_) _ (s.setPending rest) _ ok e
    obtain ⟨w, ew, kept⟩ := row_attentionOk j u raw okRow
    obtain rfl := Host.Outcome.next.inj (ew.symm.trans ev)
    exact kept

end Sys2Proof.Machine
end

section
/-! PROOF. The two transmit queues (R146, R153 to R155): what every offer, and the arbiter, keeps of their order and of the
responses that wait. -/

namespace Sys2Proof.Machine

/-- A response, of RESTART or not. -/
def QKind.isResponse : QKind → Bool
  | .response _ => true
  | _ => false

/-- A kind is ordinary, a response, or one of which a newer frame replaces the waiting one (R153, R154). -/
theorem QKind.ordinary_or_response_or_replaces (k : QKind) :
    (k.control = false ∧ k.isResponse = false ∧ k.replaces = false)
      ∨ (k.control = true ∧ k.isResponse = true ∧ k.replaces = false)
      ∨ (k.control = true ∧ k.isResponse = false ∧ k.replaces = true) := by
  cases k with
  | ordinary => exact .inl ⟨rfl, rfl, rfl⟩
  | response => exact .inr (.inl ⟨rfl, rfl, rfl⟩)
  | valve | attention | restock => exact .inr (.inr ⟨rfl, rfl, rfl⟩)

namespace PortState

variable {q : PortState}

/-! ### Responses waiting at a port (R146) -/

/-- The responses waiting, by the kinds. -/
def responses (q : PortState) : Nat := (q.queue.map Queued.kind).countP QKind.isResponse

/-- The arbiter adds no response. -/
theorem pump_responses (q : PortState) : q.pump.responses ≤ q.responses := by
  rcases pump_cases q with ⟨e, -⟩ | ⟨before, it, after, -, hq, e⟩
  · rw [e]
  · have sub : (before ++ after).Sublist q.queue := by
      rw [hq]
      exact (List.Sublist.refl before).append (List.sublist_cons_self it after)
    rw [e]
    exact (sub.map Queued.kind).countP_le

/-- A frame in the newest position adds one response at most. -/
theorem append_responses (q : PortState) (it : Queued) :
    ({ q with queue := q.queue ++ [it] } : PortState).responses = q.responses + if it.kind.isResponse then 1 else 0 := by
  simp [responses, List.countP_append, List.countP_cons]

/-- A frame that takes the place of one of its own kind adds none (R154). -/
theorem replaced_responses (q : PortState) (it : Queued) :
    ({ q with queue := q.queue.map fun w => if w.kind == it.kind then it else w } : PortState).responses = q.responses := by
  have kinds : (q.queue.map fun w => if w.kind == it.kind then it else w).map Queued.kind = q.queue.map Queued.kind := by
    rw [List.map_map]
    refine List.map_congr_left fun w _ => ?_
    by_cases e : w.kind = it.kind <;> simp [e]
  simp only [responses, kinds]

theorem offerControl_responses (q : PortState) (it : Queued) :
    (q.offerControl it).responses ≤ q.responses + if it.kind.isResponse then 1 else 0 := by
  unfold offerControl
  split
  · exact (pump_responses _).trans ((replaced_responses q it).le.trans (Nat.le_add_right ..))
  · exact (pump_responses _).trans (append_responses q it).le

theorem offerOrdinary_responses (q : PortState) (f : Frame) : (q.offerOrdinary f).responses ≤ q.responses := by
  unfold offerOrdinary
  split
  · exact (pump_responses _).trans (append_responses q ⟨.ordinary, f⟩).le
  · exact Nat.le_refl _

/-! ### The bound of a queue in order (R153, R154) -/

/-- A queue is no longer than its share of ordinary frames, its responses, and the kinds of which one frame alone may wait. -/
theorem queue_length_le {own : QKind → Bool} {kinds : List QKind} (ok : q.QueueOk own)
    (listed : ∀ k, own k = true → k.replaces = true → k ∈ kinds) :
    q.queue.length ≤ 20 + q.responses + kinds.length := by
  obtain ⟨ordinary, owned, once, -⟩ := ok
  have single : ((q.queue.map Queued.kind).filter QKind.replaces).length ≤ kinds.length := by
    refine List.Subperm.length_le (List.subperm_of_subset ?_ fun k m => ?_)
    · refine List.pairwise_filter.mpr (once.imp fun {k l} differ hk _ => differ hk)
    · obtain ⟨m, replaces⟩ := List.mem_filter.mp m
      obtain ⟨w, hw, rfl⟩ := List.mem_map.mp m
      exact listed _ (owned w hw) replaces
  have parts (l : List QKind) : l.length = (l.filter fun k => !k.control).length + l.countP QKind.isResponse
      + (l.filter QKind.replaces).length := by
    induction l with
    | nil => rfl
    | cons k l ih =>
      rcases k.ordinary_or_response_or_replaces with ⟨c, r, p⟩ | ⟨c, r, p⟩ | ⟨c, r, p⟩ <;> simp [c, r, p] <;> omega
  rw [ordinaryWaiting_eq] at ordinary
  have share : Config.txOrdinary = 20 := rfl
  have total := parts (q.queue.map Queued.kind)
  rw [List.length_map] at total
  unfold responses
  omega

end PortState

namespace State

/-- The responses waiting at the cab port, by the kinds. -/
theorem responsesWaiting_eq (s : State) : s.responsesWaiting = s.cab.responses := by
  unfold responsesWaiting PortState.responses
  rw [List.countP_map, List.countP_eq_length_filter]
  rfl

theorem responses_of_none {s : State} (none : s.responseWaiting = false) : s.cab.responses = 0 := by
  simp only [responseWaiting, List.any_eq_false] at none
  simp only [PortState.responses, List.countP_eq_zero, List.mem_map]
  rintro _ ⟨w, m, rfl⟩ response
  exact none w m response

/-- Both queues in order, and at most n responses waiting. -/
structure Within (n : Nat) (s : State) : Prop where
  field : s.field.QueueOk QKind.ofField
  cab : s.cab.QueueOk QKind.ofCab
  responses : s.cab.responses ≤ n

theorem queuesOk_iff (s : State) : s.QueuesOk ↔ s.Within 2 ∧ (s.resp.inFlight.isSome = true → s.Within 1) := by
  rw [QueuesOk, responsesWaiting_eq]
  constructor
  · rintro ⟨field, cab, two, one⟩
    exact ⟨⟨field, cab, two⟩, fun flight => ⟨field, cab, one flight⟩⟩
  · rintro ⟨⟨field, cab, two⟩, one⟩
    exact ⟨field, cab, two, fun flight => (one flight).responses⟩

namespace Within

variable {n m : Nat} {s t u : State} {h : HoseId} {i : EntryId} {tag : TagId} {p : Profile} {st : Settings}

/-! ### What keeps both queues in order -/

theorem mono (w : s.Within n) (le : n ≤ m) : s.Within m := ⟨w.field, w.cab, w.responses.trans le⟩

/-- The counters of a port have no part in its order. -/
theorem of_queues (w : s.Within n) (field : t.field.queue = s.field.queue) (fieldSends : t.field.sending = s.field.sending)
    (cab : t.cab.queue = s.cab.queue) (cabSends : t.cab.sending = s.cab.sending) : t.Within n := by
  obtain ⟨fieldOk, cabOk, responses⟩ := w
  refine ⟨?_, ?_, ?_⟩
  · simpa only [PortState.QueueOk, PortState.ordinaryWaiting, field, fieldSends] using fieldOk
  · simpa only [PortState.QueueOk, PortState.ordinaryWaiting, cab, cabSends] using cabOk
  · simpa only [PortState.responses, cab] using responses

theorem of_ports (w : s.Within n) (field : t.field = s.field) (cab : t.cab = s.cab) : t.Within n :=
  w.of_queues (by rw [field]) (by rw [field]) (by rw [cab]) (by rw [cab])

/-- As of_ports, where an equation shows the state left. -/
theorem of_eq (w : s.Within n) (e : t = u) (field : u.field = s.field) (cab : u.cab = s.cab) : t.Within n :=
  e ▸ w.of_ports field cab

/-- The cab port written alone. -/
theorem setCabPort {q : PortState} (w : s.Within n) (order : q.QueueOk QKind.ofCab) (responses : q.responses ≤ m) :
    (s.setCabPort q).Within m := ⟨w.field, order, responses⟩

/-- The field port written alone. -/
theorem setFieldPort {q : PortState} (w : s.Within n) (order : q.QueueOk QKind.ofField) : (s.setFieldPort q).Within n :=
  ⟨order, w.cab, w.responses⟩

theorem cabOrdinary (w : s.Within n) (f : Frame) : (s.cabOrdinary f).Within n :=
  w.setCabPort (PortState.offerOrdinary_queueOk w.cab rfl) ((PortState.offerOrdinary_responses ..).trans w.responses)

/-- A control frame of the cab port's own kinds, no response. -/
theorem cabControl (w : s.Within n) {k : QKind} (f : Frame) (own : k.ofCab = true) (control : k.control = true)
    (other : k.isResponse = false) : (s.cabControl k f).Within n := by
  refine w.setCabPort (PortState.offerControl_queueOk w.cab own control) ?_
  refine (PortState.offerControl_responses ..).trans ?_
  simpa [other] using w.responses

/-- A response waits beside those that waited. -/
theorem cabResponse (w : s.Within n) (restart : Bool) (f : Frame) : (s.cabControl (.response restart) f).Within (n + 1) :=
  w.setCabPort (PortState.offerControl_queueOk w.cab rfl rfl)
    ((PortState.offerControl_responses ..).trans (Nat.add_le_add_right w.responses 1))

theorem answer (w : s.Within n) (node : Node) (status : Status) (code : Byte) (res : ResultCode) (data : List Byte) :
    (s.answer node status code res data).Within (n + 1) := w.cabResponse false _

theorem reply (w : s.Within n) (node : Node) (code : Byte) (r : Reply) : (s.reply node code r).Within (n + 1) := by
  cases r with
  | now status res data => exact w.answer ..
  | restart => exact w.cabResponse true _
  | later => exact w.mono (Nat.le_succ n)

/-! ### Frames the part originates -/

theorem fireAttention (w : s.Within n) (causes : Half) : (s.fireAttention causes).Within n :=
  (w.of_ports (t := s.setAtt ⟨causes, .fired⟩) rfl rfl).cabControl _ rfl rfl rfl

theorem setCause (w : s.Within n) (c : Cause) : (s.setCause c).Within n := by
  unfold State.setCause
  split
  · exact w.of_ports rfl rfl
  · exact w.fireAttention _

theorem queueValve (w : s.Within n) (h : HoseId) (v : ValveCmd) : (s.queueValve h v).Within n := by
  unfold State.queueValve
  split
  · exact w
  · exact (w.of_ports (t := s.setHose h { s.hose h with lastValve := some v }) rfl rfl).setFieldPort
      (PortState.offerControl_queueOk w.field rfl rfl)

theorem modHose (w : s.Within n) (h : HoseId) (f : Hose → Hose) : (s.modHose h f).Within n := w.of_ports rfl rfl

theorem entryProgress (w : s.Within n) (h : HoseId) : (s.entryProgress h).Within n := w.cabOrdinary _

theorem sampleProgress (w : s.Within n) (h : HoseId) : (s.sampleProgress h).Within n := by
  unfold State.sampleProgress
  split
  · exact w.cabOrdinary _
  · exact w

theorem authRefused (w : s.Within n) (h : HoseId) (why : Reason) (tag : Option TagId) (m k : Option Nat) :
    (s.authRefused h why tag m k).Within n := w.cabOrdinary _

theorem requestRefused (w : s.Within n) (b : Option Byte) (why : Reason) (k : Option RequestKind) :
    (s.requestRefused b why k).Within n := w.cabOrdinary _

/-! ### The inventory, the log and the table (R6, R96, R118) -/

theorem judge (w : s.Within n) (c : CompId) : (s.judge c).Within n := by
  unfold State.judge
  split
  · exact w
  · dsimp only
    split
    · split
      · exact (w.of_ports (t := s.setComp c _) rfl rfl).cabControl _ rfl rfl rfl
      · exact w
    · split
      · exact w.of_ports rfl rfl
      · exact w

theorem bookMetered (w : s.Within n) (c : CompId) (d : Int) : (s.bookMetered c d).Within n := by
  unfold State.bookMetered
  split
  · exact (w.of_ports (by simp) (by simp)).judge c
  · exact w

theorem bookUnbilled (w : s.Within n) (c : CompId) (d : Int) : (s.bookUnbilled c d).Within n := by
  unfold State.bookUnbilled
  split
  · exact (w.of_ports (by simp) (by simp)).judge c
  · exact w

theorem resetBook (w : s.Within n) (c : CompId) (volume : Nat) : (s.resetBook c volume).Within n :=
  (w.of_ports (t := s.setComp c _) rfl rfl).judge c

theorem levelRaised (w : s.Within n) (before : Nat) : (s.levelRaised before).Within n := by
  unfold State.levelRaised
  split
  · exact w.setCause _
  · exact w

theorem reserve (w : s.Within n) : s.reserve.Within n :=
  (w.of_ports (t := s.setBilling { s.billing with reserved := s.billing.reserved + 1 }) rfl rfl).levelRaised _

theorem walkBucket (w : s.Within n) (b : Bucket) (seek : Option TagId) : (s.walkBucket b seek).2.Within n := by
  unfold State.walkBucket
  dsimp only
  split
  · next pred _ => exact (w.of_ports (t := s.setTable (s.table.cut b pred)) rfl rfl).setCause .tableFault
  · exact w

theorem walkTag (w : s.Within n) (tag : TagId) : (s.walkTag tag).2.Within n := w.walkBucket ..

/-! ### The events of a hose (chapter 3) -/

theorem flowStart (w : s.Within n) (h : HoseId) : (s.flowStart h).Within n := ((w.modHose ..).queueValve ..).entryProgress _

theorem enterClosing (w : s.Within n) (h : HoseId) (why : EndCause) : (s.enterClosing h why).Within n :=
  ((w.modHose ..).queueValve ..).entryProgress _

theorem enterHeld (w : s.Within n) (h : HoseId) (mark : HoldMark) : (s.enterHeld h mark).Within n :=
  ((w.modHose ..).queueValve ..).entryProgress _

theorem resumeFlow (w : s.Within n) (h : HoseId) (ph : Phase) : (s.resumeFlow h ph).Within n :=
  ((w.modHose ..).queueValve ..).entryProgress _

theorem dropTransaction (w : s.Within n) (h : HoseId) : (s.dropTransaction h).Within n := w.of_ports (by simp) (by simp)

theorem cancel (w : s.Within n) (h : HoseId) (why : Reason) (kind : Option RequestKind) : (s.cancel h why kind).Within n :=
  ((w.dropTransaction h).requestRefused ..).entryProgress h

theorem resultEntry (w : s.Within n) (h : HoseId) (frame : Bool) : (s.resultEntry h frame).Within n := by
  unfold State.resultEntry
  split
  · exact w
  · next c _ =>
    have settled : ((s.uncommit c.comp c.kind c.term).settleCtx c h).2.Within n := w.of_ports (by simp) (by simp)
    dsimp only
    split
    · exact (settled.modHose ..).entryProgress h
    · exact settled.modHose ..

theorem endClosing (w : s.Within n) (h : HoseId) : (s.endClosing h).Within n := by
  unfold State.endClosing
  split
  · exact w
  · split
    · exact (w.dropTransaction h).entryProgress h
    · exact w.resultEntry h true

theorem post (w : s.Within n) (h : HoseId) : (s.post h).Within n := by
  unfold State.post
  split
  · exact w
  · next c _ =>
    exact (((w.of_ports (t := s.setBilling (s.billing.post h c)) rfl rfl).modHose ..).cabOrdinary _).entryProgress h

/-- The frames of a phase check: none, those of CLOSING, or PROGRESS with the valve command there may be (R51, R52). -/
theorem phaseCheck (w : s.Within n) (h : HoseId) : (s.phaseCheck h).Within n := by
  unfold State.phaseCheck
  split
  · dsimp only
    split
    · split
      · exact w.enterClosing ..
      · split
        · exact (w.modHose ..).entryProgress h
        · split
          · exact ((w.modHose ..).queueValve ..).entryProgress h
          · exact w
    · split
      · exact w.enterClosing ..
      · split
        · exact ((w.modHose ..).queueValve ..).entryProgress h
        · exact w
    · split
      · exact w.enterClosing ..
      · exact w
    · exact w
  · exact w

theorem appliedSample (w : s.Within n) (h : HoseId) (c : Context) (m : Measured) (k : Nat) :
    (s.appliedSample h c m k).Within n := by
  have metered := (w.modHose h fun x => { x with ctx := some (sampleCtx c m), resG := m.resG, resN := m.resN }).bookMetered
    c.comp (signedBy c.kind m.n)
  have timed := (metered.of_ports (t := (State.uncommit c.comp c.kind (c.term - (sampleCtx c m).term) _)) rfl rfl).modHose h
    fun x => { x with timers := sampleTimers x k }
  unfold State.appliedSample
  dsimp only
  split
  · exact (timed.phaseCheck h).sampleProgress h
  · exact timed.sampleProgress h

theorem unbilledFlow (w : s.Within n) (h : HoseId) (p : Profile) (k : Nat) : (s.unbilledFlow h p k).Within n :=
  ((w.modHose ..).bookUnbilled ..).setCause _

theorem sample (w : s.Within n) (h : HoseId) (seq : Byte) (total temp : Half) : (s.sample h seq total temp).Within n := by
  have referenced := w.modHose h fun x => { x with pulse := refAfter x.pulse seq total }
  unfold State.sample
  dsimp only
  repeat' split
  all_goals first
    | exact w
    | exact referenced
    | exact referenced.modHose ..
    | exact referenced.appliedSample ..
    | exact referenced.setCause _
    | exact referenced.unbilledFlow ..

theorem nozzleEvent (w : s.Within n) (h : HoseId) (v : Nozzle) : (s.nozzleEvent h v).Within n := by
  have told := w.modHose h fun x => { x with nozzle := v }
  unfold State.nozzleEvent
  dsimp only
  repeat' split
  all_goals first
    | exact told
    | exact told.flowStart h
    | exact told.enterClosing ..
    | exact told.endClosing h

theorem headStatusEvent (w : s.Within n) (h : HoseId) (code : Byte) : (s.headStatusEvent h code).Within n := by
  unfold State.headStatusEvent
  dsimp only
  split
  · exact w
  · split
    · exact (w.setCause _).enterClosing ..
    · exact w.setCause _

theorem holdRequest (w : s.Within n) (h : HoseId) : (s.holdRequest h).Within n := by
  unfold State.holdRequest
  split
  · exact w.enterHeld ..
  · exact w.requestRefused ..

theorem stopRequest (w : s.Within n) (h : HoseId) : (s.stopRequest h).Within n := by
  unfold State.stopRequest
  split
  · exact w.cancel ..
  · exact w.enterClosing ..
  · exact w.enterClosing ..
  · exact w.enterClosing ..
  · exact w.enterClosing ..
  · exact w.requestRefused ..

theorem postRequest (w : s.Within n) (h : HoseId) : (s.postRequest h).Within n := by
  unfold State.postRequest
  split
  · exact w.post h
  · exact w.requestRefused ..

theorem resumeRequest (w : s.Within n) (level : Level) (h : HoseId) : (s.resumeRequest level h).Within n := by
  unfold State.resumeRequest
  split
  · exact w.requestRefused ..
  · split
    · exact w.requestRefused ..
    · split
      · exact w.requestRefused ..
      · split
        · split
          · exact w.enterClosing ..
          · split
            · exact w.resumeFlow ..
            · exact w.resumeFlow ..
        · exact w

theorem siteStopHose (w : s.Within n) (h : HoseId) : (s.siteStopHose h).Within n := by
  unfold State.siteStopHose
  split
  · exact w.enterHeld ..
  · split
    · exact w.modHose ..
    · exact w

theorem stopSite (w : s.Within n) : s.stopSite.Within n := by
  unfold State.stopSite
  split
  · exact w
  · exact List.foldlRecOn (ids 6) _ (motive := State.Within n) (w.of_ports (t := s.setSiteStop true) rfl rfl)
      fun _ w h _ => w.siteStopHose h

/-! ### Tag reads and the operator's starts (chapter 2) -/

theorem accept (w : s.Within n) (h : HoseId) (c : Context) : (s.accept h c).Within n := by
  have units : ((s.reserve.takeEntry h c).commit c.comp c.kind c.preset).Within n := w.reserve.of_ports (by simp) (by simp)
  have granted := ((units.modHose h fun x => { x.enter .authorized with
      ctx := some c, timers := { (x.enter .authorized).timers with window := x.period Profile.window } }).entryProgress
        h).cabOrdinary (grantedFrame h c.machine c.preset c.flags)
  unfold State.accept
  dsimp only
  split
  · exact granted.flowStart h
  · exact granted

theorem applyStrike (w : s.Within n) (op : StrikeOp) (i : EntryId) : (s.applyStrike op i).Within n := by
  unfold State.applyStrike
  dsimp only
  split
  · exact (w.of_ports (t := s.setEntry i _) rfl rfl).setCause _
  · exact w.of_ports rfl rfl

theorem refuseFound (w : s.Within n) (h : HoseId) (why : Reason) (tag : TagId) (i : EntryId) :
    (s.refuseFound h why tag i).Within n := w.authRefused ..

theorem spaceAndPreset (w : s.Within n) {r : Option Nat} : (s.spaceAndPreset h p st i tag r).Within n := by
  have refilled : (s.refill i).Within n := w.of_ports rfl rfl
  unfold State.spaceAndPreset
  dsimp only
  split
  · exact w.refuseFound ..
  · repeat' split
    all_goals first
      | exact refilled.accept ..
      | exact refilled.refuseFound ..

theorem testsAndStrikes (w : s.Within n) {r : Option Nat} : (s.testsAndStrikes h p st i tag r).Within n := by
  unfold State.testsAndStrikes
  dsimp only
  split
  · exact (w.applyStrike ..).refuseFound ..
  · exact (w.applyStrike ..).refuseFound ..
  · split
    · exact (w.applyStrike ..).refuseFound ..
    · have struck := w.applyStrike s.table.policy.pass i
      split
      · exact struck.refuseFound ..
      · exact (struck.of_ports (t := State.setEntry i _ _) rfl rfl).spaceAndPreset

theorem lookupTag (w : s.Within n) {r : Option Nat} : (s.lookupTag h p st tag r).Within n := by
  have walked := w.walkTag tag
  unfold State.lookupTag
  dsimp only
  split
  · exact walked.authRefused ..
  · exact walked.authRefused ..
  · split
    · exact walked.authRefused ..
    · split
      · exact walked.refuseFound ..
      · split
        · exact walked.refuseFound ..
        · exact walked.testsAndStrikes

theorem tagReadEvent (w : s.Within n) {hours : Word} {q : Byte} : (s.tagReadEvent h tag hours q).Within n := by
  unfold State.tagReadEvent State.evaluateRead
  repeat' split
  all_goals first
    | exact w
    | exact w.authRefused ..
    | exact w.lookupTag

theorem manualRequest (w : s.Within n) {node : Node} {hose z c b : Byte} {m : Half} {r : Word} :
    (s.manualRequest node hose z c b m r).Within n := by
  unfold State.manualRequest State.manualEvaluate
  dsimp only
  repeat' split
  all_goals first
    | exact w.requestRefused ..
    | exact w.authRefused ..
    | exact w.accept ..

theorem receiveRequest (w : s.Within n) {node : Node} {hose : Byte} {v : Word} {b : Byte} {r : Word} :
    (s.receiveRequest node hose v b r).Within n := by
  unfold State.receiveRequest State.receiveEvaluate
  dsimp only
  repeat' split
  all_goals first
    | exact w.requestRefused ..
    | exact w.authRefused ..
    | exact w.accept ..

/-! ### Probes (R92 to R95) -/

theorem varianceCheck (w : s.Within n) (c : CompId) (st : Settings) (reading : Nat) :
    (s.varianceCheck c st reading).Within n := by
  unfold State.varianceCheck
  dsimp only
  split
  · exact w
  · split
    · exact w.of_ports rfl rfl
    · split
      · exact (w.of_ports (t := s.setComp c _) rfl rfl).setCause _
      · exact w.of_ports rfl rfl

theorem overfillHose {acc : Bool × State} (w : acc.2.Within n) (c : CompId) (h : HoseId) :
    (State.overfillHose c h acc).2.Within n := by
  unfold State.overfillHose
  dsimp only
  generalize (_ && _ && (acc.2.hose h).phase.flowing) = stops
  cases stops with
  | true => exact w.enterClosing ..
  | false => exact w

theorem overfillCheck (w : s.Within n) (c : CompId) (st : Settings) (reading : Nat) :
    (s.overfillCheck c st reading).Within n := by
  have stopped : ((ids 6).foldl (fun acc h => State.overfillHose c h acc) (false, s)).2.Within n :=
    List.foldlRecOn (ids 6) _ (motive := fun acc : Bool × State => acc.2.Within n) w fun _ w h _ => overfillHose w c h
  unfold State.overfillCheck
  dsimp only
  split
  · exact w
  · split
    · exact stopped.setCause _
    · exact stopped

theorem probeEvent (w : s.Within n) (c : CompId) (volume : Word) (status : Byte) : (s.probeEvent c volume status).Within n := by
  unfold State.probeEvent
  split
  · exact w.of_ports rfl rfl
  · split
    · exact w
    · exact ((w.of_ports (t := s.setComp c _) rfl rfl).varianceCheck ..).overfillCheck ..

/-! ### The commands that queue a frame beside their answer -/

theorem cmdLoadMachine (w : s.Within n) {m : MachineForm} : (s.cmdLoadMachine m).1.Within n := by
  unfold State.cmdLoadMachine
  split
  · exact w
  · next l _ =>
    have walked := w.walkTag l.tag
    dsimp only
    split
    · exact walked.of_ports rfl rfl
    · split
      · exact walked
      · exact walked.of_ports rfl rfl

theorem cmdDeleteMachine (w : s.Within n) {tag : TagId} : (s.cmdDeleteMachine tag).1.Within n := by
  unfold State.cmdDeleteMachine
  dsimp only
  split
  · exact (w.walkTag tag).of_ports rfl rfl
  · exact w.walkTag tag

theorem cmdReadByTag (w : s.Within n) {tag : TagId} : (s.cmdReadByTag tag).1.Within n := by
  unfold State.cmdReadByTag
  dsimp only
  split
  · exact (w.walkTag tag).of_ports rfl rfl
  · exact w.walkTag tag

theorem cmdSetAllowance (w : s.Within n) {tag : TagId} {v : Word} : (s.cmdSetAllowance tag v).1.Within n := by
  unfold State.cmdSetAllowance
  dsimp only
  repeat' split
  · exact w.walkTag tag
  · exact (w.walkTag tag).of_ports rfl rfl
  · exact w.walkTag tag
  · exact w

theorem cmdClearStrikes (w : s.Within n) {tag : TagId} : (s.cmdClearStrikes tag).1.Within n := by
  unfold State.cmdClearStrikes
  dsimp only
  split
  · exact (w.walkTag tag).of_ports rfl rfl
  · exact w.walkTag tag

theorem cmdRearm (w : s.Within n) {causes : Half} : (s.cmdRearm causes).1.Within n := by
  unfold State.cmdRearm
  split
  · unfold State.rearmUnit
    dsimp only
    split
    · exact w.of_ports rfl rfl
    · exact w.fireAttention _
  · exact w

theorem cmdLoadHoseProfile (w : s.Within n) {hose : Byte} {f : ProfileForm} :
    (s.cmdLoadHoseProfile hose f).1.Within n := by
  unfold State.cmdLoadHoseProfile
  dsimp only
  repeat' split
  all_goals first
    | exact w
    | exact (w.modHose ..).entryProgress _

theorem cmdLoadCompartment (w : s.Within n) {comp : Byte} {f : CompForm} : (s.cmdLoadCompartment comp f).1.Within n := by
  unfold State.cmdLoadCompartment
  dsimp only
  repeat' split
  all_goals first
    | exact w
    | exact (w.of_ports (t := s.setComp _ _) rfl rfl).judge _

theorem cmdSetStock (w : s.Within n) {comp : Byte} {v : Word} : (s.cmdSetStock comp v).1.Within n := by
  unfold State.cmdSetStock
  repeat' split
  all_goals first
    | exact w
    | exact w.resetBook ..

theorem cmdReconcile (w : s.Within n) {comp : Byte} : (s.cmdReconcile comp).1.Within n := by
  unfold State.cmdReconcile
  split
  · exact w
  · split
    · exact w
    · split
      · exact w
      · split
        · exact w
        · dsimp only
          split
          · exact w
          · next c _ _ st _ _ _ reading _ _ =>
            have posted : ((s.setBilling (s.billing.postAdjustment (s.adjustmentRecord c st reading))).drawFor
                ((reading : Int) - (s.comp c).book)).Within n := w.of_ports (by simp) (by simp)
            exact (posted.levelRaised _).resetBook ..

/-- The counter clear leaves the frames waiting (R172). -/
theorem cmdStatusCounterClear (w : s.Within n) {sect number : Byte} : (s.cmdStatusCounterClear sect number).1.Within n := by
  unfold State.cmdStatusCounterClear
  split
  · exact w
  · exact w.of_queues rfl rfl rfl rfl

/-! ### The moments of a SWEEP (R18) -/

theorem sweepMark (w : s.Within n) (work : SweepWork) : (State.sweepMark (work, s)).2.Within n :=
  List.foldlRecOn _ _ (motive := fun acc : SweepWork × State => acc.2.Within n) w fun _ w b _ => w.walkBucket b none

theorem sweepMoment (w : s.Within n) (work : SweepWork) : (State.sweepMoment (work, s)).2.Within n := by
  unfold State.sweepMoment
  dsimp only
  split
  · exact w.walkBucket ..
  · split
    · exact w
    · split
      · next i _ => exact w.of_eq (examineEntry_snd_only s i work) rfl rfl
      · exact w

/-! ### Start-up (R180) -/

/-- Ports emptied are in order, with nothing waiting. -/
theorem of_emptied (field : s.field.queue = []) (cab : s.cab.queue = []) : s.Within 0 := by
  refine ⟨?_, ?_, ?_⟩ <;> simp [PortState.QueueOk, PortState.ordinaryWaiting, PortState.responses, field, cab]

theorem warmHose (w : s.Within n) (h : HoseId) : (s.warmHose h).Within n := by
  have items := w.modHose h warmItems
  unfold State.warmHose
  dsimp only
  split
  · exact items.dropTransaction h
  · split
    · exact (items.modHose h powerLost).resultEntry h false
    · split
      · exact items.modHose ..
      · exact items

theorem warmFrames (w : s.Within n) (h : HoseId) : (s.warmFrames h).Within n := by
  unfold State.warmFrames
  split
  · exact w
  · exact (w.queueValve h .close).entryProgress h

/-- A warm start begins with both queues empty (R157). -/
theorem warmStart (straps : Node) (s : State) : (s.warmStart straps).Within 0 := by
  have emptied : (s.warmResp straps).warmLink.Within 0 := of_emptied rfl rfl
  unfold State.warmStart
  dsimp only
  refine Within.setCause (Within.of_ports ?_ (setAtt_field ..) (setAtt_cab ..)) _
  exact List.foldlRecOn (ids 6) _ (motive := State.Within 0)
    (List.foldlRecOn (ids 6) _ (motive := State.Within 0) emptied fun _ w h _ => w.warmHose h)
    fun _ w h _ => w.warmFrames h

theorem startUp (straps : Node) (s : State) : (s.startUp straps).Within 0 := by
  unfold State.startUp
  split
  · exact warmStart straps s
  · exact (of_emptied (s := s.coldItems straps) rfl rfl).setCause _

/-! ### The reception of a frame -/

theorem countGood (w : s.Within n) (p : Port) : (s.countGood p).Within n := by cases p <;> exact w.of_queues rfl rfl rfl rfl

theorem countBad (w : s.Within n) (p : Port) : (s.countBad p).Within n := by cases p <;> exact w.of_queues rfl rfl rfl rfl

theorem countScreened (w : s.Within n) (p : Port) : (s.countScreened p).Within n := by
  cases p <;> exact w.of_queues rfl rfl rfl rfl

theorem dropStray (w : s.Within n) (p : Port) : (s.dropStray p).Within n := (w.countScreened p).of_ports rfl rfl

theorem dropMisdirected (w : s.Within n) (p : Port) : (s.dropMisdirected p).Within n := (w.countScreened p).of_ports rfl rfl

/-- A carriage frame is ordinary at the port it goes to (R153). -/
theorem forward (w : s.Within n) (p : Port) (f : Frame) : (s.forward p f).Within n := by
  have offered : (s.setPort p.other ((s.port p.other).offerOrdinary f)).Within n := by
    cases p with
    | field => exact w.cabOrdinary f
    | cab => exact w.setFieldPort (PortState.offerOrdinary_queueOk w.field rfl)
  unfold State.forward
  dsimp only
  split
  · cases p <;> exact offered.of_queues rfl rfl rfl rfl
  · exact offered

end Within

/-! ### Both queues, with what is in flight (R146, R153) -/

namespace QueuesOk

variable {s t : State} {a : Addr}

theorem within (ok : s.QueuesOk) : s.Within 2 := ((queuesOk_iff s).mp ok).1

/-- Where one response waits at most, whatever is in flight. -/
theorem of_one (w : t.Within 1) : t.QueuesOk := (queuesOk_iff t).mpr ⟨w.mono (by decide), fun _ => w⟩

/-- Where two may wait, with no command in flight. -/
theorem of_two (w : t.Within 2) (landed : t.resp.inFlight = none) : t.QueuesOk :=
  (queuesOk_iff t).mpr ⟨w, fun flight => by simp [landed] at flight⟩

/-- What queues no response and ends no command keeps both queues. -/
theorem kept (ok : s.QueuesOk) (keeps : ∀ {n}, s.Within n → t.Within n)
    (flight : t.resp.inFlight.isSome = true → s.resp.inFlight.isSome = true) : t.QueuesOk := by
  obtain ⟨two, one⟩ := (queuesOk_iff s).mp ok
  exact (queuesOk_iff t).mpr ⟨keeps two, fun f => keeps (one (flight f))⟩

/-- As kept, where the responder stays as it was. -/
theorem kept_resp (ok : s.QueuesOk) (keeps : ∀ {n}, s.Within n → t.Within n) (resp : t.resp = s.resp) : t.QueuesOk :=
  ok.kept keeps (by rw [resp]; exact id)

theorem of_ports (ok : s.QueuesOk) (field : t.field = s.field) (cab : t.cab = s.cab)
    (flight : t.resp.inFlight = s.resp.inFlight) : t.QueuesOk := ok.kept (·.of_ports field cab) (by rw [flight]; exact id)

theorem good (ok : s.QueuesOk) (p : Port) : (s.countGood p).QueuesOk := ok.kept_resp (·.countGood p) (by simp)

theorem stray (ok : s.QueuesOk) (p : Port) : ((s.countGood p).dropStray p).QueuesOk :=
  (ok.good p).kept_resp (·.dropStray p) (by simp)

theorem misdirected (ok : s.QueuesOk) (p : Port) : ((s.countGood p).dropMisdirected p).QueuesOk :=
  (ok.good p).kept_resp (·.dropMisdirected p) (by simp)

theorem screened (ok : s.QueuesOk) (p : Port) : ((s.countGood p).countScreened p).QueuesOk :=
  (ok.good p).kept_resp (·.countScreened p) (by simp)

theorem takeField (ok : s.QueuesOk) {ι : Type} {owner : State → Node → Option ι} {formOk : Bool} {act : ι → State → State}
    (keeps : ∀ i g, g.QueuesOk → (act i g).QueuesOk) : (s.takeField a owner formOk act).QueuesOk :=
  takeField_elim ok (ok.stray _) (ok.misdirected _) (ok.screened _) fun i _ _ => keeps i _ (ok.good _)

theorem takeOperator (ok : s.QueuesOk) {act : State → State} (keeps : ∀ g, g.QueuesOk → (act g).QueuesOk) :
    (s.takeOperator a act).QueuesOk :=
  takeOperator_elim ok (ok.stray _) (ok.misdirected _) (keeps _ (ok.good _))

theorem requestRefused (ok : s.QueuesOk) (b : Option Byte) (why : Reason) (k : Option RequestKind) :
    (s.requestRefused b why k).QueuesOk := ok.kept_resp (·.requestRefused b why k) rfl

theorem takeHoseRequest (ok : s.QueuesOk) {kind : RequestKind} {hose : Byte} {act : HoseId → State → State}
    (keeps : ∀ h g, g.QueuesOk → (act h g).QueuesOk) : (s.takeHoseRequest a kind hose act).QueuesOk :=
  takeHoseRequest_elim ok (ok.stray _) (ok.misdirected _) (fun _ => (ok.good _).requestRefused ..)
    fun h => keeps h _ (ok.good _)

/-- A frame taken by the responder finds no response waiting (R146). -/
theorem taken (ok : s.QueuesOk) (none : s.responseWaiting = false) : (s.countGood .cab).Within 0 := by
  have w := (ok.good .cab).within
  refine ⟨w.field, w.cab, ?_⟩
  rw [responses_of_none ((countGood_responseWaiting .cab).trans none)]

/-- A malformed command is answered at most once. -/
theorem takeMgmt (ok : s.QueuesOk) {act : State → State} (keeps : ∀ g, g.Within 0 → (act g).Within 1) :
    (s.takeMgmt a act).QueuesOk :=
  takeMgmt_elim ok (ok.stray _) (ok.misdirected _) (ok.screened _) fun none => of_one (keeps _ (ok.taken none))

/-- A command is answered at most once, whatever frames its owner queues beside. -/
theorem takeCommand (ok : s.QueuesOk) {code : Byte} {least : Level} {act : State → State × Reply}
    (keeps : ∀ g, g.Within 0 → (act g).1.Within 0) : (s.takeCommand a code least act).QueuesOk :=
  takeCommand_elim ok (ok.stray _) (ok.misdirected _) (ok.screened _) (fun none _ => of_one ((ok.taken none).answer ..))
    fun none _ => of_one ((keeps _ (ok.taken none)).reply ..)

theorem expiry (ok : s.QueuesOk) {h : HoseId} {timer : Timers → Option Nat} {inPhase : Phase → Bool} {act : State → State}
    (keeps : (act s).QueuesOk) : (s.expiry h timer inPhase act).QueuesOk := expiry_elim ok fun _ _ => keeps

theorem refuseCommand (ok : s.QueuesOk) (payload : List Byte) : (s.refuseCommand a payload).QueuesOk := by
  unfold State.refuseCommand
  split
  · exact ok.takeCommand fun _ w => w
  · exact ok.takeMgmt fun _ w => w.answer ..

/-- A frame reported sent: what waits is no more (R155). -/
theorem sent (ok : s.QueuesOk) (p : Port) : (s.setPort p (s.port p).sent).QueuesOk := by
  cases p with
  | field => exact ok.kept_resp (fun w => w.setFieldPort (PortState.sent_queueOk w.field)) rfl
  | cab =>
    exact ok.kept_resp (fun w => w.setCabPort (PortState.sent_queueOk w.cab)
      ((PortState.pump_responses _).trans w.responses)) rfl

/-- A moment of a SWEEP ends no command. -/
theorem sweepTick (ok : s.QueuesOk) : s.sweepTick.QueuesOk := by
  unfold State.sweepTick
  split
  · next node work _ flight =>
    exact ok.kept (fun w => (w.sweepMoment work).of_ports rfl rfl) fun _ => by rw [flight]; rfl
  · exact ok

/-- The answer of a command that was in flight joins one response at most (R146, R160). -/
theorem landed (ok : s.QueuesOk) (flight : s.resp.inFlight.isSome = true) : s.Within 1 := ((queuesOk_iff s).mp ok).2 flight

end QueuesOk
end State

open State

/-- Every row of its own keeps both queues. -/
theorem row_queuesOk (j : Instr) (s : State) (raw : Instr.raw j = false) (ok : s.QueuesOk) :
    ∃ t, exec j s = .next t ∧ t.QueuesOk := by
  cases j with
  | badFrame | screenDrop | carriageFrame | malformedRequest | malformedCommand => cases raw
  | tagRead =>
    exact ⟨_, rfl, ok.takeField fun _ _ ok => ok.kept_resp (·.tagReadEvent) (by rw [tagReadEvent_only])⟩
  | nozzle =>
    refine ⟨_, rfl, ok.takeField fun _ _ ok => ?_⟩
    split
    · exact ok.kept_resp (·.nozzleEvent ..) (by simp)
    · exact ok
  | meterSample => exact ⟨_, rfl, ok.takeField fun _ _ ok => ok.kept_resp (·.sample ..) (by simp)⟩
  | headStatus => exact ⟨_, rfl, ok.takeField fun _ _ ok => ok.kept_resp (·.headStatusEvent ..) (by simp)⟩
  | probe =>
    exact ⟨_, rfl, ok.takeField fun _ _ ok => ok.kept_resp (·.probeEvent ..) (by rw [probeEvent_only])⟩
  | post => exact ⟨_, rfl, ok.takeHoseRequest fun _ _ ok => ok.kept_resp (·.postRequest _) (by simp)⟩
  | hold => exact ⟨_, rfl, ok.takeHoseRequest fun _ _ ok => ok.kept_resp (·.holdRequest _) (by simp)⟩
  | resume => exact ⟨_, rfl, ok.takeHoseRequest fun _ _ ok => ok.kept_resp (·.resumeRequest ..) (by simp)⟩
  | stop => exact ⟨_, rfl, ok.takeHoseRequest fun _ _ ok => ok.kept_resp (·.stopRequest _) (by simp)⟩
  | emergencyStop =>
    refine ⟨_, rfl, ok.takeOperator fun _ ok => ?_⟩
    split
    · exact ok.requestRefused ..
    · exact ok.kept_resp (·.stopSite) (by simp)
  | manualAuth =>
    exact ⟨_, rfl, ok.takeOperator fun _ ok =>
      ok.kept_resp (·.manualRequest) (by rw [manualRequest_only])⟩
  | receiveStart =>
    exact ⟨_, rfl, ok.takeOperator fun _ ok =>
      ok.kept_resp (·.receiveRequest) (by rw [receiveRequest_only])⟩
  | authWindowExpiry => exact ⟨_, rfl, ok.expiry (ok.kept_resp (·.cancel ..) (by simp))⟩
  | noFlowExpiry => exact ⟨_, rfl, ok.expiry (ok.kept_resp (·.enterClosing ..) (by simp))⟩
  | meterSilenceExpiry => exact ⟨_, rfl, ok.expiry (ok.kept_resp (fun w => (w.setCause _).enterClosing ..) (by simp))⟩
  | settleExpiry => exact ⟨_, rfl, ok.expiry (ok.kept_resp (·.endClosing _) (by simp))⟩
  | postDelayExpiry => exact ⟨_, rfl, ok.expiry (ok.kept_resp (·.post _) (by simp))⟩
  | holdLimitExpiry => exact ⟨_, rfl, ok.expiry (ok.kept_resp (·.enterClosing ..) (by simp))⟩
  | frameSent p =>
    refine ⟨_, rfl, ?_⟩
    split
    · split
      · exact .of_one ((Within.startUp ..).mono (by decide))
      · exact ok.sent p
    · exact ok
  | startUp => exact ⟨_, rfl, .of_one ((Within.startUp ..).mono (by decide))⟩
  | identify => exact ⟨_, rfl, ok.takeCommand fun _ w => w⟩
  | status a x n o =>
    refine ⟨_, rfl, ?_⟩
    split
    · exact ok.takeCommand fun _ w => w.cmdStatusCounterClear
    · exact ok.takeCommand fun _ w => w.of_eq (cmdStatus_fst_only ..) rfl rfl
  | statusCounterClear => exact ⟨_, rfl, ok.takeCommand fun _ w => w.cmdStatusCounterClear⟩
  | setClock => exact ⟨_, rfl, ok.takeCommand fun _ w => w.of_eq (cmdSetClock_fst_only ..) rfl rfl⟩
  | setPrivilege => exact ⟨_, rfl, ok.takeCommand fun _ w => w.of_eq (cmdSetPrivilege_fst_only ..) rfl rfl⟩
  | setProtection => exact ⟨_, rfl, ok.takeCommand fun _ w => w.of_eq (cmdSetProtection_fst_only ..) rfl rfl⟩
  | digest => exact ⟨_, rfl, ok.takeCommand fun _ w => w.of_eq (cmdDigest_fst_only ..) rfl rfl⟩
  | digestDone =>
    refine ⟨_, rfl, ?_⟩
    split
    · next flight =>
      have w := (ok.landed (by rw [flight]; rfl)).of_ports (t := s.setResp { s.resp with inFlight := none }) rfl rfl
      exact .of_two (w.answer ..) rfl
    · exact ok
  | queryEmpty => exact ⟨_, rfl, ok.takeCommand fun _ w => w.of_eq (cmdQueryEmpty_fst_only ..) rfl rfl⟩
  | wipe => exact ⟨_, rfl, ok.takeCommand fun _ w => w.of_eq (cmdWipe_fst_only _) rfl rfl⟩
  | restart => exact ⟨_, rfl, ok.takeCommand fun _ w => w⟩
  | loadMachine => exact ⟨_, rfl, ok.takeCommand fun _ w => w.cmdLoadMachine⟩
  | deleteMachine => exact ⟨_, rfl, ok.takeCommand fun _ w => w.cmdDeleteMachine⟩
  | readMachineByTag => exact ⟨_, rfl, ok.takeCommand fun _ w => w.cmdReadByTag⟩
  | readMachineByIndex => exact ⟨_, rfl, ok.takeCommand fun _ w => w.of_eq (cmdReadByIndex_fst_only ..) rfl rfl⟩
  | setAllowance => exact ⟨_, rfl, ok.takeCommand fun _ w => w.cmdSetAllowance⟩
  | clearStrikes => exact ⟨_, rfl, ok.takeCommand fun _ w => w.cmdClearStrikes⟩
  | openPeriod => exact ⟨_, rfl, ok.takeCommand fun _ w => w.of_eq (cmdOpenPeriod_fst_only _) rfl rfl⟩
  | sweep => exact ⟨_, rfl, ok.takeCommand fun _ w => w.of_eq (cmdSweep_fst_only ..) rfl rfl⟩
  | sweepDone =>
    refine ⟨_, rfl, ?_⟩
    split
    · next work _ flight =>
      have marked := (ok.landed (by rw [flight]; rfl)).sweepMark work
      dsimp only
      generalize State.sweepMark (work, s) = r at marked
      have freed : ((r.2.sweepFree r.1).setResp { r.2.resp with inFlight := none }).Within 1 := marked.of_ports rfl rfl
      exact .of_two (freed.answer ..) rfl
    · exact ok
  | setStrikePolicy => exact ⟨_, rfl, ok.takeCommand fun _ w => w.of_eq (cmdSetStrikePolicy_fst_only ..) rfl rfl⟩
  | rollCallStart => exact ⟨_, rfl, ok.takeCommand fun _ w => w.of_eq (cmdRollCallStart_fst_only _) rfl rfl⟩
  | rollCallStop => exact ⟨_, rfl, ok.takeCommand fun _ w => w.of_eq (cmdRollCallStop_fst_only _) rfl rfl⟩
  | rollCallRead => exact ⟨_, rfl, ok.takeCommand fun _ w => w.of_eq (cmdRollCallRead_fst_only ..) rfl rfl⟩
  | loadHoseProfile => exact ⟨_, rfl, ok.takeCommand fun _ w => w.cmdLoadHoseProfile⟩
  | siteStop => exact ⟨_, rfl, ok.takeCommand fun _ w => w.stopSite⟩
  | siteResume => exact ⟨_, rfl, ok.takeCommand fun _ w => w.of_eq (cmdSiteResume_fst_only _) rfl rfl⟩
  | loadCalibration => exact ⟨_, rfl, ok.takeCommand fun _ w => w.of_eq (cmdLoadCalibration_fst_only ..) rfl rfl⟩
  | loadGrade => exact ⟨_, rfl, ok.takeCommand fun _ w => w.of_eq (cmdLoadGrade_fst_only ..) rfl rfl⟩
  | loadCompartment => exact ⟨_, rfl, ok.takeCommand fun _ w => w.cmdLoadCompartment⟩
  | ackRestock => exact ⟨_, rfl, ok.takeCommand fun _ w => w.of_eq (cmdAckRestock_fst_only ..) rfl rfl⟩
  | setStock => exact ⟨_, rfl, ok.takeCommand fun _ w => w.cmdSetStock⟩
  | reconcile => exact ⟨_, rfl, ok.takeCommand fun _ w => w.cmdReconcile⟩
  | loadTariff => exact ⟨_, rfl, ok.takeCommand fun _ w => w.of_eq (cmdLoadTariff_fst_only ..) rfl rfl⟩
  | loadClassRate => exact ⟨_, rfl, ok.takeCommand fun _ w => w.of_eq (cmdLoadClassRate_fst_only ..) rfl rfl⟩
  | readLog => exact ⟨_, rfl, ok.takeCommand fun _ w => w.of_eq (cmdReadLog_fst_only ..) rfl rfl⟩
  | releaseLog => exact ⟨_, rfl, ok.takeCommand fun _ w => w.of_eq (cmdReleaseLog_fst_only ..) rfl rfl⟩
  | readCentres => exact ⟨_, rfl, ok.takeCommand fun _ w => w.of_eq (cmdReadCentres_fst_only ..) rfl rfl⟩
  | clearCentres => exact ⟨_, rfl, ok.takeCommand fun _ w => w.of_eq (cmdClearCentres_fst_only ..) rfl rfl⟩
  | rearm => exact ⟨_, rfl, ok.takeCommand fun _ w => w.cmdRearm⟩
  | loadFrameClass => exact ⟨_, rfl, ok.takeCommand fun _ w => w.of_eq (cmdLoadFrameClass_fst_only ..) rfl rfl⟩
  | siteClockSecond => exact ⟨_, rfl, by split; exacts [ok.of_ports rfl rfl rfl, ok]⟩
  | mainSupplyLoss =>
    refine ⟨_, rfl, ?_⟩
    split
    · exact .of_one ((Within.of_emptied rfl rfl).mono (by decide))
    · exact ok
  | retentionSupplyFailure => exact ⟨_, rfl, by split; exacts [ok, ok.of_ports rfl rfl rfl]⟩
  | storeValueLost entry change => exact ⟨_, rfl, by cases entry <;> exact ok.of_ports rfl rfl rfl⟩

/-- Every command keeps both queues: it is a row of its own, or ends in one, in a drop, in a refusal or at the other port. -/
theorem exec_queuesOk {i : Instr} {s t : State} (ok : s.QueuesOk) (e : exec i s = .next t) : t.QueuesOk := by
  refine exec_elim (Q := fun o => ∀ t, o = .next t → t.QueuesOk) i s ?_ (fun p => ?_) (fun p f => ?_) (fun p f => ?_)
    (fun a => ?_) (fun a payload => ?_) (fun j raw => ?_) t e
  case refine_7 =>
    obtain ⟨v, ev, kept⟩ := row_queuesOk j s raw ok
    rintro u eu
    obtain rfl := Host.Outcome.next.inj (ev.symm.trans eu)
    exact kept
  all_goals rintro _ ⟨⟩
  · exact ok
  · exact ok.kept_resp (·.countBad p) (by simp)
  · exact dropFrame_elim ok (ok.stray p) (ok.misdirected p) (ok.screened p)
  · exact takeCarriage_elim ok (ok.screened p) ((ok.good p).kept_resp (·.forward p f) (by simp))
  · exact ok.takeOperator fun _ ok => ok.requestRefused ..
  · exact ok.refuseCommand payload

/-- The field port's queue holds no response (8.5). -/
theorem field_responses {q : PortState} (ok : q.QueueOk QKind.ofField) : q.responses = 0 := by
  obtain ⟨-, own, -, -⟩ := ok
  simp only [PortState.responses, List.countP_eq_zero, List.mem_map]
  rintro _ ⟨w, m, rfl⟩ response
  have owned := own w m
  cases kind : w.kind <;> simp [kind, QKind.ofField, QKind.isResponse] at owned response

/-- The kinds of which one frame alone may wait at the field port: the six valves. -/
theorem ofField_replaces {k : QKind} (own : k.ofField = true) (replaces : k.replaces = true) :
    k ∈ (ids 6).map QKind.valve := by
  cases k <;> simp [QKind.ofField, QKind.replaces] at own replaces ⊢

/-- And at the cab port: the cause set and the four restocks. -/
theorem ofCab_replaces {k : QKind} (own : k.ofCab = true) (replaces : k.replaces = true) :
    k ∈ QKind.attention :: (ids 4).map QKind.restock := by
  cases k <;> simp [QKind.ofCab, QKind.replaces] at own replaces ⊢

/-- Settles O59: every offer and the arbiter keep a queue in order, a command is taken only where no response waits, and a
queue's length is bounded by its kinds. -/
theorem stepKeepsTheQueueBounds : Obligations.StepKeepsTheQueueBounds := by
  refine ⟨fun s t ok e => ?_, fun s ok => ?_⟩
  · unfold step at e
    split at e
    · obtain rfl := Host.Outcome.next.inj e
      exact ok.sweepTick
    · next rest _ => exact exec_queuesOk (s := s.setPending rest) (ok.of_ports rfl rfl rfl) e
  · obtain ⟨field, cab, two⟩ := ok.within
    have atField := PortState.queue_length_le field fun _ => ofField_replaces
    have atCab := PortState.queue_length_le cab fun _ => ofCab_replaces
    rw [field_responses field] at atField
    have five : (QKind.attention :: (ids 4).map QKind.restock).length = 5 := rfl
    exact ⟨atField, by omega⟩

end Sys2Proof.Machine
end

section
/-! PROOF. The bytes of a frame (8.1): what the register ends with (R140), what the receiver's check reads (R139), and that a good
frame given raw is taken as the row it spells (log entry 3). -/

namespace Sys2Proof

/-! ### The register over a check (R140) -/

/-- A half is its high byte shifted up, with its low byte. -/
theorem rd2_eq_xor (a b : Byte) : rd2 a b = (a.setWidth 16 <<< 8) ^^^ b.setWidth 16 := by
  apply BitVec.eq_of_getLsbD_eq
  intro i hi
  have : i < 16 := hi
  simp only [rd2, BitVec.getLsbD_append, BitVec.getLsbD_xor, BitVec.getLsbD_shiftLeft, BitVec.getLsbD_setWidth]
  by_cases low : i < 8
  · simp [low, hi]
  · simp [low, hi, BitVec.getLsbD_of_ge b i (by omega), show i - 8 < 16 by omega]

/-- The bytes of a half are those it was read from. -/
theorem be2_rd2 (a b : Byte) : be2 (rd2 a b) = [a, b] := by
  simp only [be2, rd2, List.cons.injEq, and_true]
  exact ⟨BitVec.extractLsb'_append_eq_left, BitVec.extractLsb'_append_eq_right⟩

/-- Two bytes leave the register 0 exactly where they are its own. -/
theorem crcFrom_pair_eq_zero (r : Half) (a b : Byte) : crcFrom r [a, b] = 0#16 ↔ [a, b] = be2 r := by
  have zero : crcByte 0#16 0#8 = 0#16 := by decide
  have pair : crcFrom r [a, b] = crcByte (crcByte r a) b := rfl
  rw [pair]
  constructor
  · intro ends
    have second := crcByte_injective _ _ _ _ (ends.trans zero.symm)
    have low : crcByte r a = crcByte (b.setWidth 16) 0#8 := by
      rw [crcByte_low]
      simpa using second
    have first := crcByte_injective _ _ _ _ low
    have whole : r = rd2 a b := by
      rw [rd2_eq_xor, BitVec.xor_comm, ← BitVec.xor_right_inj (a.setWidth 16 <<< 8)]
      simpa [BitVec.xor_comm] using first
    rw [whole, be2_rd2]
  · intro own
    have whole : r = rd2 a b := by
      simp only [be2, List.cons.injEq, and_true] at own
      obtain ⟨rfl, rfl⟩ := own
      exact (rd2_be2 r).symm
    have first : crcByte r a = b.setWidth 16 <<< 8 := by
      rw [crcByte_absorb, whole, rd2_eq_xor, BitVec.xor_comm, ← BitVec.xor_assoc, BitVec.xor_self, BitVec.zero_xor,
        crcByte_low]
    rw [crcByte_absorb, first]
    simpa using zero

/-- A check of two bytes leaves the register 0 exactly where it is the check of the bytes before it. -/
theorem crc16_append_eq_zero {bytes check : List Byte} (two : check.length = 2) :
    crc16 (bytes ++ check) = 0#16 ↔ check = be2 (crc16 bytes) := by
  obtain ⟨a, b, rfl⟩ := List.length_eq_two.mp two
  rw [crc16, crcFrom_append, crcFrom_pair_eq_zero]
  rfl

/-! ### The receiver's check (R139) -/

/-- The check of a whole frame: its last two bytes are the check of those before. -/
theorem crc16_eq_zero_iff {bytes : List Byte} (two : 2 ≤ bytes.length) :
    crc16 bytes = 0#16 ↔ bytes.drop (bytes.length - 2) = be2 (crc16 (bytes.take (bytes.length - 2))) := by
  rw [← crc16_append_eq_zero (by rw [List.length_drop]; omega), List.take_append_drop]

/-- What the receiver's check asks of the bytes of a frame: destination, source and class in range, a length of at most 128
that is the payload's, and a good check. -/
abbrev FrameBytesGood (d s c n : Byte) (rest : List Byte) : Prop :=
  d.toNat < 32 ∧ s.toNat < 32 ∧ c.toNat < 64 ∧ n.toNat ≤ 128 ∧ rest.length = n.toNat + 2
    ∧ crc16 (d :: s :: c :: n :: rest) = 0#16

theorem parseFrame_good {d s c n : Byte} {rest : List Byte} (hd : d.toNat < 32) (hs : s.toNat < 32) (hc : c.toNat < 64)
    (short : n.toNat ≤ 128) (whole : rest.length = n.toNat + 2) (check : crc16 (d :: s :: c :: n :: rest) = 0#16) :
    parseFrame (d :: s :: c :: n :: rest)
      = some { dest := ⟨d.toNat, hd⟩, src := ⟨s.toNat, hs⟩, cls := ⟨c.toNat, hc⟩, payload := rest.take n.toNat } := by
  simp [parseFrame, hd, hs, hc, short, whole, check]

theorem parseFrame_bad {d s c n : Byte} {rest : List Byte} (bad : ¬ FrameBytesGood d s c n rest) :
    parseFrame (d :: s :: c :: n :: rest) = none := by
  unfold parseFrame
  dsimp only
  split
  · split
    · split
      · next hd hs hc =>
        refine if_neg fun t => bad ?_
        simp only [Bool.and_eq_true, decide_eq_true_eq, beq_iff_eq, and_assoc] at t
        exact ⟨hd, hs, hc, t⟩
      · rfl
    · rfl
  · rfl

theorem parseFrame_short {bytes : List Byte} (short : bytes.length < 4) : parseFrame bytes = none := by
  match bytes with
  | [] | [_] | [_, _] | [_, _, _] => rfl
  | _ :: _ :: _ :: _ :: _ => simp at short; omega

/-- The bytes of a frame before its payload are its numbers. -/
theorem Frame.covered_eq (f : Frame) {d s c n : Byte} (hd : d.toNat = f.dest.val) (hs : s.toNat = f.src.val)
    (hc : c.toNat = f.cls.val) (hn : n.toNat = f.payload.length) : f.covered = d :: s :: c :: n :: f.payload := by
  simp only [Frame.covered, ← hd, ← hs, ← hc, ← hn, BitVec.ofNat_toNat, BitVec.setWidth_eq]
  rfl

/-- The receiver's check reads a frame exactly from the bytes the sender writes for it (R139, R140). -/
theorem parseFrame_eq_some (bytes : List Byte) (f : Frame) :
    parseFrame bytes = some f ↔ f.payload.length ≤ 128 ∧ f.bytes = bytes := by
  constructor
  · intro read
    match bytes with
    | [] | [_] | [_, _] | [_, _, _] => cases read
    | d :: s :: c :: n :: rest =>
      by_cases good : FrameBytesGood d s c n rest
      · obtain ⟨hd, hs, hc, short, whole, check⟩ := good
        rw [parseFrame_good hd hs hc short whole check] at read
        obtain rfl := Option.some.inj read
        have length : (rest.take n.toNat).length = n.toNat := by rw [List.length_take]; omega
        have covered := Frame.covered_eq ⟨⟨d.toNat, hd⟩, ⟨s.toNat, hs⟩, ⟨c.toNat, hc⟩, rest.take n.toNat⟩ rfl rfl rfl
          length.symm
        have split : d :: s :: c :: n :: rest = (d :: s :: c :: n :: rest.take n.toNat) ++ rest.drop n.toNat := by
          simp
        rw [split, crc16_append_eq_zero (by rw [List.length_drop]; omega)] at check
        refine ⟨length.le.trans short, ?_⟩
        rw [Frame.bytes, covered, ← check, ← split]
      · rw [parseFrame_bad good] at read
        cases read
  · rintro ⟨short, rfl⟩
    have byte {v : Nat} (small : v < 256) : (BitVec.ofNat 8 v).toNat = v := by
      rw [BitVec.toNat_ofNat, Nat.mod_eq_of_lt small]
    have hd := byte (v := f.dest.val) (by omega)
    have hs := byte (v := f.src.val) (by omega)
    have hc := byte (v := f.cls.val) (by omega)
    have hn := byte (v := f.payload.length) (by omega)
    have covered := Frame.covered_eq f hd hs hc hn
    have check : crc16 f.bytes = 0#16 := (crc16_append_eq_zero (be2_length _)).mpr rfl
    simp only [Frame.bytes, covered, List.cons_append] at check ⊢
    refine (parseFrame_good ?_ ?_ ?_ ?_ ?_ check).trans ?_
    · omega
    · omega
    · omega
    · omega
    · rw [List.length_append, be2_length, hn]
    · simp only [hd, hs, hc, hn, List.take_left]

/-- Settles O5: bytes and their check leave 0 since the register's two bytes shift it out, and the receiver's check reads just
what the sender writes. -/
theorem parseReadsBackEveryFrame : Obligations.ParseReadsBackEveryFrame :=
  ⟨fun _ => (crc16_append_eq_zero (be2_length _)).mpr rfl, fun f short => (parseFrame_eq_some _ f).mpr ⟨short, rfl⟩,
    fun bytes f => (parseFrame_eq_some bytes f).mp⟩

/-! ### Bad frames (R139) -/

/-- A frame is bad in R139's cases. -/
theorem parseFrame_eq_none (bytes : List Byte) : parseFrame bytes = none ↔
    bytes.length < 6 ∨ bytes.length ≠ 6 + (bytes.getD 3 0#8).toNat ∨ 128 < (bytes.getD 3 0#8).toNat
      ∨ 31 < (bytes.getD 0 0#8).toNat ∨ 31 < (bytes.getD 1 0#8).toNat ∨ 63 < (bytes.getD 2 0#8).toNat
      ∨ bytes.drop (bytes.length - 2) ≠ be2 (crc16 (bytes.take (bytes.length - 2))) := by
  match bytes with
  | [] | [_] | [_, _] | [_, _, _] => exact ⟨fun _ => .inl (by simp), fun _ => rfl⟩
  | d :: s :: c :: n :: rest =>
    have bad : parseFrame (d :: s :: c :: n :: rest) = none ↔ ¬ FrameBytesGood d s c n rest := by
      refine ⟨fun none ⟨hd, hs, hc, short, whole, check⟩ => ?_, parseFrame_bad⟩
      rw [parseFrame_good hd hs hc short whole check] at none
      cases none
    rw [bad, FrameBytesGood, crc16_eq_zero_iff (by simp)]
    generalize List.drop _ _ = check
    generalize be2 _ = sum
    simp only [List.length_cons, List.getD_cons_succ, List.getD_cons_zero]
    by_cases same : check = sum
    · simp only [same, and_true, ne_eq, not_true, or_false]
      omega
    · simp only [same, and_false, ne_eq, not_false_iff, or_true]

namespace Machine

open State

/-- Bytes that fail the receiver's check reach nothing but the bad-check counter. -/
theorem exec_badFrame_bad {s : State} {p : Port} {bytes : List Byte} (on : s.power.main = true)
    (bad : parseFrame bytes = none) : exec (.badFrame p bytes) s = .next (s.countBad p) := by
  show execBadFrame p bytes s = _
  rw [execBadFrame, bad]
  exact congrArg Host.Outcome.next (if_pos on)

/-- Settles O8: the cases of R139 are what the receiver's check does not pass. -/
theorem badFrameIsDroppedAndCounted : Obligations.BadFrameIsDroppedAndCounted :=
  ⟨parseFrame_eq_none, fun _ _ _ on bad => exec_badFrame_bad on bad⟩

/-! ### A good frame is taken as the row it spells (log entry 3) -/

/-- A row that is a frame of its own is what its hand-off is. -/
theorem handOff_ownFrame {j : Instr} {s : State} (own : Instr.ownFrame j = true) : handOff j s = exec j s := by
  cases j with
  | badFrame | screenDrop | carriageFrame | malformedRequest | malformedCommand | authWindowExpiry | noFlowExpiry
  | meterSilenceExpiry | settleExpiry | postDelayExpiry | holdLimitExpiry | frameSent | startUp | digestDone | sweepDone
  | siteClockSecond | mainSupplyLoss | retentionSupplyFailure | storeValueLost => cases own
  | _ => rfl

/-- A management command is a row of its own. -/
theorem ownFrame_of_command {j : Instr} {a : Addr} {code : Byte} {least : Level} (e : j.command = some (a, code, least)) :
    Instr.ownFrame j = true := by
  cases j with
  | badFrame | screenDrop | carriageFrame | malformedRequest | malformedCommand | authWindowExpiry | noFlowExpiry
  | meterSilenceExpiry | settleExpiry | postDelayExpiry | holdLimitExpiry | frameSent | startUp | digestDone | sweepDone
  | siteClockSecond | mainSupplyLoss | retentionSupplyFailure | storeValueLost => cases e
  | _ => rfl

/-- An OPERATOR payload is read as a request of its own or as malformed. -/
theorem requestInstr_cases (a : Addr) (payload : List Byte) :
    requestInstr a payload = .malformedRequest a payload ∨ Instr.ownFrame (requestInstr a payload) = true := by
  unfold requestInstr
  split
  · split
    · exact .inr rfl
    · exact .inl rfl
  · repeat' split
    case isFalse.isFalse.isFalse.isFalse => exact .inl rfl
    all_goals exact .inr rfl
  · repeat' split
    case isFalse.isFalse => exact .inl rfl
    all_goals exact .inr rfl
  · exact .inl rfl

/-- What a frame is read as: a row of its own, or the row that carries it raw. -/
theorem frameInstr_cases (p : Port) (f : Frame) :
    Instr.ownFrame (frameInstr p f) = true ∨ frameInstr p f = .screenDrop p f ∨ frameInstr p f = .carriageFrame p f
      ∨ (p = .cab ∧ f.cls = 6 ∧ frameInstr p f = .malformedRequest ⟨f.dest, f.src⟩ f.payload)
      ∨ (p = .cab ∧ f.cls = 11 ∧ frameInstr p f = .malformedCommand ⟨f.dest, f.src⟩ f.payload) := by
  unfold frameInstr
  split
  · exact .inr (.inr (.inl rfl))
  · dsimp only
    split
    case h_6 cls =>
      rcases requestInstr_cases ⟨f.dest, f.src⟩ f.payload with malformed | own
      · exact .inr (.inr (.inr (.inl ⟨rfl, Fin.ext cls, malformed⟩)))
      · exact .inl own
    case h_7 cls =>
      rcases commandInstr_cases ⟨f.dest, f.src⟩ f.payload with malformed | ⟨_, _, _, _, row⟩
      · exact .inr (.inr (.inr (.inr ⟨rfl, Fin.ext cls, malformed⟩)))
      · exact .inl (ownFrame_of_command row)
    case h_8 => exact .inr (.inl rfl)
    all_goals exact .inl rfl

/-- The row that a good frame spells does what the frame delivered whole does. -/
theorem exec_frameInstr {p : Port} {f : Frame} {s : State} (short : f.payload.length ≤ 128) :
    exec (frameInstr p f) s = receiveFrame p f s := by
  rcases frameInstr_cases p f with own | raw | raw | ⟨rfl, cls, raw⟩ | ⟨rfl, cls, raw⟩
  · rw [receiveFrame, if_pos (by simpa [payloadOk] using short), handOff_ownFrame own]
  · rw [raw]; rfl
  · rw [raw]; rfl
  · rw [raw]
    show receiveFrame .cab ⟨f.dest, f.src, 6, f.payload⟩ s = _
    rw [← cls]
  · rw [raw]
    show receiveFrame .cab ⟨f.dest, f.src, 11, f.payload⟩ s = _
    rw [← cls]

/-- Settles O7: each of the three rows delivers the frame whole, and so does the row it spells. -/
theorem rawFrameMeetsTheFateOfItsRow : Obligations.RawFrameMeetsTheFateOfItsRow := by
  intro p f s short
  have row := exec_frameInstr (p := p) (s := s) short
  refine ⟨row.symm, row.symm, ?_⟩
  show execBadFrame p f.bytes s = _
  rw [execBadFrame, (parseFrame_eq_some _ f).mpr ⟨short, rfl⟩]
  exact row.symm

end Machine
end Sys2Proof
end

section
/-! PROOF. Device frames the part does not hand on (R141 to R145, R182): what each class at each port is taken as, and the four
ways it is dropped. -/

namespace Sys2Proof

/-- The form check of a field device frame (R182). -/
def Frame.formOk (f : Frame) : Bool :=
  match f.cls.val, f.payload with
  | 0, [_, _, _, _, _, _, _, _, _, _, q] => decide (q.toNat ≤ 3)
  | 1, [v] => decide (1 ≤ v.toNat ∧ v.toNat ≤ 4)
  | 2, [_, _, _, _, _] => true
  | 3, [_, _, _, _, x] => decide (x.toNat ≤ 1)
  | 4, [_] => true
  | _, _ => false

namespace Machine

open State

/-- A nozzle value of 1 to 4 is one. -/
theorem nozzleOf_isSome (v : Byte) : (nozzleOf v).isSome = decide (1 ≤ v.toNat ∧ v.toNat ≤ 4) := by
  revert v
  decide +kernel

/-- An OPERATOR frame is taken by takeOperator, whatever its payload. -/
theorem handOff_requestInstr (a : Addr) (payload : List Byte) (s : State) :
    ∃ act, handOff (requestInstr a payload) s = .next (s.takeOperator a act) := by
  unfold requestInstr
  repeat' split
  all_goals exact ⟨_, rfl⟩

/-- A management command of its own is taken by takeCommand, under its code and its level. -/
theorem exec_command {j : Instr} {a : Addr} {code : Byte} {least : Level} (s : State)
    (e : j.command = some (a, code, least)) : ∃ act, exec j s = .next (s.takeCommand a code least act) := by
  cases j with
  | status b x n o =>
    simp only [Instr.command] at e
    split at e
    · cases e
    · next other =>
      obtain ⟨rfl, rfl, rfl⟩ := e
      exact ⟨_, congrArg Host.Outcome.next (if_neg other)⟩
  | badFrame | screenDrop | carriageFrame | tagRead | nozzle | meterSample | headStatus | probe | post | hold | resume | stop
  | emergencyStop | manualAuth | receiveStart | malformedRequest | malformedCommand | authWindowExpiry | noFlowExpiry
  | meterSilenceExpiry | settleExpiry | postDelayExpiry | holdLimitExpiry | frameSent | startUp | digestDone | sweepDone
  | siteClockSecond | mainSupplyLoss | retentionSupplyFailure | storeValueLost => cases e
  | _ => obtain ⟨rfl, rfl, rfl⟩ := e; exact ⟨_, rfl⟩

/-- A MGMT_COMMAND frame is taken by takeMgmt, whatever its payload. -/
theorem handOff_commandInstr (a : Addr) (payload : List Byte) (s : State) :
    ∃ act, handOff (commandInstr a payload) s = .next (s.takeMgmt a act) := by
  rcases commandInstr_cases a payload with malformed | ⟨code, _, least, _, row⟩
  · rw [malformed]
    show ∃ act, Host.Outcome.next (s.refuseCommand a payload) = .next (s.takeMgmt a act)
    unfold refuseCommand
    split <;> exact ⟨_, rfl⟩
  · obtain ⟨act, e⟩ := exec_command s row
    exact ⟨_, (handOff_ownFrame (ownFrame_of_command row)).trans e⟩

/-- What a device frame is taken as: at the field port, in a form of its class, a frame for the owner of its kind; at the cab
port a request or a command; else a frame the screen drops. -/
theorem handOff_device {Q : Host.Outcome State Fault Refusal → Prop} {p : Port} {f : Frame} {s : State}
    (device : f.cls.val ≤ 12)
    (field : ∀ {ι : Type} (owner : State → Node → Option ι) (formOk : Bool) (act : ι → State → State), p = .field →
      f.cls.val ≤ 4 → (∀ u : State, (owner u f.src).isSome = u.ownedField f) → formOk = f.formOk →
      Q (.next (s.takeField ⟨f.dest, f.src⟩ owner formOk act)))
    (request : ∀ act, p = .cab → f.cls = 6 → Q (.next (s.takeOperator ⟨f.dest, f.src⟩ act)))
    (command : ∀ act, p = .cab → f.cls = 11 → Q (.next (s.takeMgmt ⟨f.dest, f.src⟩ act)))
    (dropped : Q (.next (s.dropFrame p f))) : Q (handOff (frameInstr p f) s) := by
  have head (other : f.cls.val ≠ 3) (u : State) : (u.headOwner f.src).isSome = u.ownedField f := (if_neg other).symm
  have probe (cls : f.cls.val = 3) (u : State) : (u.probeOwner f.src).isSome = u.ownedField f := (if_pos cls).symm
  unfold frameInstr
  rw [if_neg (by omega)]
  dsimp only
  split
  case h_1 cls payload => exact field _ _ _ rfl (by omega) (head (by omega)) (by simp [Frame.formOk, cls, payload])
  case h_2 cls payload =>
    exact field _ _ _ rfl (by omega) (head (by omega)) (by simp [Frame.formOk, cls, payload, nozzleOf_isSome])
  case h_3 cls payload => exact field _ _ _ rfl (by omega) (head (by omega)) (by simp [Frame.formOk, cls, payload])
  case h_4 cls payload => exact field _ _ _ rfl (by omega) (probe cls) (by simp [Frame.formOk, cls, payload])
  case h_5 cls payload => exact field _ _ _ rfl (by omega) (head (by omega)) (by simp [Frame.formOk, cls, payload])
  case h_6 cls =>
    obtain ⟨act, e⟩ := handOff_requestInstr ⟨f.dest, f.src⟩ f.payload s
    rw [e]
    exact request act rfl (Fin.ext cls)
  case h_7 cls =>
    obtain ⟨act, e⟩ := handOff_commandInstr ⟨f.dest, f.src⟩ f.payload s
    rw [e]
    exact command act rfl (Fin.ext cls)
  case h_8 => exact dropped

/-! ### The four drops (R141, R143 to R145) -/

@[simp] theorem countGood_ownedField (s : State) (p : Port) (f : Frame) : (s.countGood p).ownedField f = s.ownedField f := by
  cases p <;> rfl

section Drops

variable {p : Port} {f : Frame} {s : State} (on : s.power.main = true) (device : f.cls.val ≤ 12)

include on device

/-- From source 0 or 1 (R141). -/
theorem handOff_source (src : f.src.val < 2) :
    handOff (frameInstr p f) s = .next ((s.countGood p).dropStray p) := by
  refine handOff_device (Q := (· = _)) device (fun owner formOk act at_ _ _ _ => ?_) (fun act at_ _ => ?_)
    (fun act at_ _ => ?_) ?_
  · simp [takeField, on, src, at_]
  · simp [takeOperator, on, src, at_]
  · simp [takeMgmt, on, src, at_]
  · simp [dropFrame, on, src]

/-- In R143's cases. -/
theorem handOff_misdirected (src : 2 ≤ f.src.val) (mis : misdirected p f = true) :
    handOff (frameInstr p f) s = .next ((s.countGood p).dropMisdirected p) := by
  have known : ¬ f.src.val < 2 := Nat.not_lt.mpr src
  refine handOff_device (Q := (· = _)) device (fun owner formOk act at_ low _ _ => ?_) (fun act at_ cls => ?_)
    (fun act at_ cls => ?_) ?_
  · subst at_
    have dest : 2 ≤ f.dest.val := by simpa [misdirected, low, Nat.lt_iff_add_one_le] using mis
    simp [takeField, on, known, dest]
  · subst at_
    have dest : 2 ≤ f.dest.val := by simpa [misdirected, cls, Nat.lt_iff_add_one_le] using mis
    simp [takeOperator, on, known, dest]
  · subst at_
    have dest : f.dest ≠ 1 := by simpa [misdirected, cls] using mis
    simp [takeMgmt, on, known, dest]
  · simp [dropFrame, on, known, mis]

/-- At the field port, from a node without an owner of the frame's kind (R144). -/
theorem handOff_unowned (at_ : p = .field) (low : f.cls.val ≤ 4) (src : 2 ≤ f.src.val) (dest : f.dest.val < 2)
    (none : s.ownedField f = false) : handOff (frameInstr p f) s = .next ((s.countGood p).dropStray p) := by
  subst at_
  have known : ¬ f.src.val < 2 := Nat.not_lt.mpr src
  have mine : ¬ 2 ≤ f.dest.val := Nat.not_le.mpr dest
  refine handOff_device (Q := (· = _)) device (fun owner formOk act _ _ owned _ => ?_) nofun nofun ?_
  · have unowned : owner (s.countGood .field) f.src = Option.none := by
      rw [← Option.isSome_eq_false_iff.trans Option.isNone_iff_eq_none, owned, countGood_ownedField, none]
    simp [takeField, on, known, mine, unowned]
  · simp [dropFrame, on, known, misdirected, low, dest, none]

/-- At the field port, from its owner's node, failing the form check (R145, R182). -/
theorem handOff_formless (at_ : p = .field) (low : f.cls.val ≤ 4) (src : 2 ≤ f.src.val) (dest : f.dest.val < 2)
    (some : s.ownedField f = true) (bad : f.formOk = false) :
    handOff (frameInstr p f) s = .next ((s.countGood p).countScreened p) := by
  subst at_
  have known : ¬ f.src.val < 2 := Nat.not_lt.mpr src
  have mine : ¬ 2 ≤ f.dest.val := Nat.not_le.mpr dest
  refine handOff_device (Q := (· = _)) device (fun owner formOk act _ _ owned form => ?_) nofun nofun ?_
  · have found : (owner (s.countGood .field) f.src).isSome = true := by rw [owned, countGood_ownedField, some]
    obtain ⟨i, found⟩ := Option.isSome_iff_exists.mp found
    simp [takeField, on, known, mine, found, form, bad]
  · simp [dropFrame, on, known, misdirected, low, dest, some]

end Drops

/-- A stray frame raises three counters (R139, R142, R147). -/
theorem dropStray_eq (p : Port) (s : State) : (s.countGood p).dropStray p
    = (s.setPort p { s.port p with good := min ((s.port p).good + 1) 4294967295
                                   screened := min ((s.port p).screened + 1) 4294967295 }).setScreen
        { s.screen with stray := min (s.screen.stray + 1) 4294967295 } := by
  cases p <;> rfl

theorem dropMisdirected_eq (p : Port) (s : State) : (s.countGood p).dropMisdirected p
    = (s.setPort p { s.port p with good := min ((s.port p).good + 1) 4294967295
                                   screened := min ((s.port p).screened + 1) 4294967295 }).setScreen
        { s.screen with misdirected := min (s.screen.misdirected + 1) 4294967295 } := by
  cases p <;> rfl

/-- One screened out and counted in no count of the screen's raises two. -/
theorem countScreened_eq (p : Port) (s : State) : (s.countGood p).countScreened p
    = s.setPort p { s.port p with good := min ((s.port p).good + 1) 4294967295
                                  screened := min ((s.port p).screened + 1) 4294967295 } := by
  cases p <;> rfl

/-- R143's five cases. -/
theorem misdirected_iff {p : Port} {f : Frame} (device : f.cls.val ≤ 12) : misdirected p f = true ↔
    (f.cls.val ≤ 4 ∧ p = .cab) ∨ ((f.cls.val = 6 ∨ f.cls.val = 11) ∧ p = .field)
      ∨ (f.cls.val = 5 ∨ f.cls.val = 7 ∨ f.cls.val = 8 ∨ f.cls.val = 9 ∨ f.cls.val = 10 ∨ f.cls.val = 12)
      ∨ ((f.cls.val ≤ 4 ∨ f.cls.val = 6) ∧ f.dest ≠ 0 ∧ f.dest ≠ 1) ∨ (f.cls.val = 11 ∧ f.dest ≠ 1) := by
  have zero : f.dest = 0 ↔ f.dest.val = 0 := Fin.ext_iff
  have one : f.dest = 1 ↔ f.dest.val = 1 := Fin.ext_iff
  cases p <;> simp only [misdirected, Bool.not_eq_true', Bool.and_eq_false_iff, Bool.or_eq_false_iff, decide_eq_false_iff_not,
    beq_eq_false_iff_ne, ne_eq, zero, one, reduceCtorEq, and_true, and_false, false_or] <;> omega

/-- A raw device frame meets what its hand-off leaves. -/
theorem exec_screenDrop {p : Port} {f : Frame} {s : State} (short : f.payload.length ≤ 128) :
    exec (.screenDrop p f) s = handOff (frameInstr p f) s := by
  show receiveFrame p f s = _
  rw [receiveFrame, if_pos (by simpa [payloadOk] using short)]

/-- Settles O9: the source test, R143's cases, then the owner of the frame's kind, then the form check. -/
theorem deviceFramesAreScreened : Obligations.DeviceFramesAreScreened := by
  intro p f s on short device
  have fate {t u : State} (handed : handOff (frameInstr p f) s = .next t) (e : t = u) :
      exec (.screenDrop p f) s = .next u := (exec_screenDrop short).trans (handed.trans (congrArg _ e))
  refine ⟨fun src => fate (handOff_source on device src) (dropStray_eq p s), fun src cases => ?_,
    fun src low at_ dest => ?_⟩
  · exact fate (handOff_misdirected on device src ((misdirected_iff device).mpr cases)) (dropMisdirected_eq p s)
  · have mine : f.dest.val < 2 := by rcases dest with dest | dest <;> simp [dest]
    exact ⟨fun none => fate (handOff_unowned on device at_ low src mine none) (dropStray_eq p s),
      fun owned bad => fate (handOff_formless on device at_ low src mine owned bad) (countScreened_eq p s)⟩

end Machine
end Sys2Proof
end

section
/-! PROOF. Carriage frames (R148 to R150, R153, R158): the guard and the four tests of an entry, and the offer to the other
port. -/

namespace Sys2Proof.Machine

/-- What an idle guard asks of a hose: OFF or IDLE (R150). -/
theorem Phase.atRest_iff {ph : Phase} : ph.atRest = true ↔ ph = .off ∨ ph = .idle := by
  cases ph <;> simp [Phase.atRest]

namespace State

variable {s : State} {p : Port} {f : Frame}

/-! ### The four tests (R149, R150) -/

/-- HOSE_IDLE: the first byte names a hose at rest (R150). -/
theorem guardHolds_hoseIdle (s : State) (payload : List Byte) : s.guardHolds .hoseIdle payload = true ↔
    ∃ (b : Byte) (rest : List Byte) (h : HoseId), payload = b :: rest ∧ b.toNat = h.val
      ∧ ((s.hose h).phase = .off ∨ (s.hose h).phase = .idle) := by
  cases payload with
  | nil => simp [guardHolds]
  | cons b rest =>
    have reads : s.guardHolds .hoseIdle (b :: rest) = match finOf 6 b.toNat with
        | some h => (s.hose h).phase.atRest
        | none => false := rfl
    rw [reads]
    cases named : finOf 6 b.toNat with
    | some h =>
      rw [finOf_eq_some] at named
      rw [Phase.atRest_iff]
      refine ⟨fun idle => ⟨b, rest, h, rfl, named, idle⟩, ?_⟩
      rintro ⟨_, _, k, e, same, idle⟩
      obtain ⟨rfl, rfl⟩ := List.cons.inj e
      rwa [Fin.ext (named.symm.trans same)]
    | none =>
      refine ⟨nofun, ?_⟩
      rintro ⟨_, _, k, e, same, -⟩
      obtain ⟨rfl, rfl⟩ := List.cons.inj e
      have := finOf_eq_none.mp named
      omega

/-- A guard of R150, at the state in which the screen takes the frame. -/
theorem guardHolds_iff (s : State) (guard : Guard) (payload : List Byte) : s.guardHolds guard payload = true ↔
    match guard with
    | .always => True
    | .never => False
    | .hoseIdle => ∃ (b : Byte) (rest : List Byte) (h : HoseId), payload = b :: rest ∧ b.toNat = h.val
        ∧ ((s.hose h).phase = .off ∨ (s.hose h).phase = .idle)
    | .allIdle => ∀ h, (s.hose h).phase = .off ∨ (s.hose h).phase = .idle
    | .calOpen => s.resp.calProtect = false := by
  cases guard with
  | hoseIdle => exact guardHolds_hoseIdle s payload
  | allIdle => simp [guardHolds, Phase.atRest_iff]
  | always | never | calOpen => simp [guardHolds]

/-- The direction a port's frames take through an entry (R149). -/
theorem carriagePasses_iff (s : State) (p : Port) (f : Frame) (e : CarriageEntry) : s.carriagePasses p f e = true ↔
    f.dest ≠ 1 ∧ (match p with | .field => e.fieldToCab = true | .cab => e.cabToField = true)
      ∧ e.sources.getLsbD f.src.val = true ∧ s.guardHolds e.guard f.payload = true := by
  cases p <;> simp [carriagePasses, and_assoc]

/-- The count of a good frame has no part in the tests. -/
theorem countGood_carriagePasses (s : State) (q p : Port) (f : Frame) (e : CarriageEntry) :
    (s.countGood q).carriagePasses p f e = s.carriagePasses p f e := by
  cases q <;> rfl

/-! ### A carriage frame taken (R141, R149, R153) -/

theorem exec_carriageFrame (on : s.power.main = true) (short : f.payload.length ≤ 128) (carriage : 13 ≤ f.cls.val) :
    exec (.carriageFrame p f) s = .next (s.carriageArrival p f) := by
  show receiveFrame p f s = _
  rw [receiveFrame, if_pos (by simpa [payloadOk] using short), frameInstr, if_pos carriage]
  exact congrArg Host.Outcome.next (if_pos on)

theorem carriageArrival_source (src : f.src.val < 2) : s.carriageArrival p f = (s.countGood p).countScreened p := if_pos src

/-- From a node of 2 to 31 it is judged by the entry of its class. -/
theorem carriageArrival_judged {k : Fin 51} (src : 2 ≤ f.src.val) (cls : k.val + 13 = f.cls.val) :
    s.carriageArrival p f = if s.carriagePasses p f (vget s.screen.table k) then (s.countGood p).forward p f
      else (s.countGood p).countScreened p := by
  have entry : (s.countGood p).carriageEntry f.cls = some (vget s.screen.table k) := by
    rw [carriageEntry, finOf_eq_some.mpr (show f.cls.val - 13 = k.val by omega), countGood_screen]
    exact if_pos (by omega)
  rw [carriageArrival]
  simp only [if_neg (Nat.not_lt.mpr src), entry, countGood_carriagePasses]

/-- A frame that passed, where the other port has room. -/
theorem forward_room (room : (s.port p.other).room = true) : (s.countGood p).forward p f
    = (s.setPort p { s.port p with good := min ((s.port p).good + 1) 4294967295
                                   forwarded := min ((s.port p).forwarded + 1) 4294967295 }).setPort p.other
        ((s.port p.other).offerOrdinary f) := by
  cases p <;> exact if_pos room

/-- And where it has none: dropped and counted there. -/
theorem forward_full (room : (s.port p.other).room = false) : (s.countGood p).forward p f
    = (s.setPort p { s.port p with good := min ((s.port p).good + 1) 4294967295 }).setPort p.other
        { s.port p.other with dropped := min ((s.port p.other).dropped + 1) 4294967295 } := by
  have full : ¬ (s.port p.other).room = true := by simp [room]
  rw [← PortState.offerOrdinary_full (f := f) room]
  cases p <;> exact if_neg full

end State

open State

/-- Settles O10: the source test, then the entry's four tests, then the room at the other port. -/
theorem carriageFrameIsJudgedByItsEntry : Obligations.CarriageFrameIsJudgedByItsEntry := by
  intro p f s on short carriage received screened
  rw [exec_carriageFrame on short carriage]
  refine ⟨fun src => ?_, fun src k cls => ?_⟩
  · rw [carriageArrival_source src, countScreened_eq]
  · intro e atRest guardHolds passes
    have judged : s.carriagePasses p f e = true ↔ passes := by
      have tests := carriagePasses_iff s p f e
      rw [guardHolds_iff] at tests
      exact tests
    rw [carriageArrival_judged src cls]
    refine ⟨fun pass room => ?_, fun pass room => ?_, fun fail => ?_⟩
    · rw [if_pos (judged.mpr pass), forward_room room]
    · rw [if_pos (judged.mpr pass), forward_full room]
    · rw [if_neg (mt judged.mp fail), countScreened_eq]

end Sys2Proof.Machine
end

section
/-! PROOF. A frame reported sent (R155, R178), and the commands the responder turns away (R146, R159 to R161, R163, R184). -/

namespace Sys2Proof.Machine

namespace State

variable {s : State} {p : Port} {q : Queued}

/-! ### A frame reported sent (R155, R178) -/

/-- The answer of RESTART leads to a start-up (R178). -/
theorem exec_frameSent_restart (on : s.power.main = true) (sends : (s.port p).sending = some q)
    (restart : q.kind = .response true) : exec (.frameSent p) s = exec (.startUp s.power.pins) s := by
  show execFrameSent p s = .next (s.startUp s.power.pins)
  simp [execFrameSent, on, sends, restart]

/-- Any other frame frees the transmitter for the arbiter (R155). -/
theorem exec_frameSent_other (on : s.power.main = true) (sends : (s.port p).sending = some q)
    (other : q.kind ≠ .response true) : exec (.frameSent p) s = .next (s.setPort p (s.port p).sent) := by
  show execFrameSent p s = _
  simp [execFrameSent, on, sends, other]

end State

open State

/-- Settles O11: the port frees its transmitter, and the arbiter takes what it takes of the queue as it stands. -/
theorem sentFrameGivesWayToTheNext : Obligations.SentFrameGivesWayToTheNext := by
  intro p s q on sends
  have taken {t : PortState} (other : q.kind ≠ .response true)
      (takes : ({ s.port p with sending := none } : PortState).pump = t) :
      exec (.frameSent p) s = .next (s.setPort p t) := takes ▸ exec_frameSent_other on sends other
  refine ⟨exec_frameSent_restart on sends, fun other empty => taken other (PortState.pump_empty empty),
    fun other before it after waits control first => taken other (PortState.pump_control rfl waits control first),
    fun other it rest waits ordinary => taken other (PortState.pump_ordinary rfl waits ordinary)⟩

namespace State

variable {s : State} {a : Addr} {payload : List Byte}

/-! ### Commands turned away (R146, R159 to R161, R163) -/

/-- A command that finds a response waiting is dropped (R146). -/
theorem takeMgmt_waiting {act : State → State} (on : s.power.main = true) (src : 2 ≤ a.src.val) (dest : a.dest = 1)
    (waits : s.responseWaiting = true) : s.takeMgmt a act = (s.countGood .cab).countScreened .cab := by
  simp [takeMgmt, on, dest, waits, Nat.not_lt.mpr src]

/-- A command frame is taken as the row it spells. -/
theorem exec_commandFrame (f : Frame) (short : f.payload.length ≤ 128) (cls : f.cls = 11) :
    ∃ act, exec (frameInstr .cab f) s = .next (s.takeMgmt ⟨f.dest, f.src⟩ act) := by
  have spelled : frameInstr .cab f = commandInstr ⟨f.dest, f.src⟩ f.payload := by
    obtain ⟨dest, src, _, payload⟩ := f
    subst cls
    rfl
  rw [exec_frameInstr short, receiveFrame, if_pos (by simpa [payloadOk] using short), spelled]
  exact handOff_commandInstr ..

/-- A well-formed MALFORMED_COMMAND reaches the responder's refusal. -/
theorem exec_malformedCommand (wf : Instr.wf (.malformedCommand a payload) = true) :
    exec (.malformedCommand a payload) s = .next (s.refuseCommand a payload) := by
  simp only [Instr.wf, Bool.and_eq_true, beq_iff_eq] at wf
  obtain ⟨short, reads⟩ := wf
  have spelled : frameInstr .cab ⟨a.dest, a.src, 11, payload⟩ = commandInstr a payload := rfl
  show receiveFrame .cab ⟨a.dest, a.src, 11, payload⟩ s = _
  rw [receiveFrame, if_pos short, spelled, reads]
  rfl

/-- The ROLL_CALL options outside the listed ones, with either length (R184). -/
theorem oddRollCall_iff (payload : List Byte) : oddRollCall payload = true ↔
    ∃ o : Byte, 3 ≤ o.toNat ∧ (payload = [18#8, o] ∨ ∃ x y, payload = [18#8, o, x, y]) := by
  constructor
  · unfold oddRollCall
    split
    · next c o =>
      simp only [Bool.and_eq_true, beq_iff_eq, decide_eq_true_eq]
      rintro ⟨rfl, unlisted⟩
      exact ⟨o, unlisted, .inl rfl⟩
    · next c o x y =>
      simp only [Bool.and_eq_true, beq_iff_eq, decide_eq_true_eq]
      rintro ⟨rfl, unlisted⟩
      exact ⟨o, unlisted, .inr ⟨x, y, rfl⟩⟩
    · exact nofun
  · rintro ⟨o, unlisted, rfl | ⟨x, y, rfl⟩⟩ <;> simpa [oddRollCall] using unlisted

/-- What passes no form check is answered NACK, whatever is in flight (R159, R161). -/
theorem refuseCommand_nack (on : s.power.main = true) (src : 2 ≤ a.src.val) (dest : a.dest = 1)
    (none : s.responseWaiting = false) (plain : oddRollCall payload = false) :
    s.refuseCommand a payload = (s.countGood .cab).answer a.src .nack (payload.headD 0#8) .range [] := by
  rw [refuseCommand, if_neg (by simp [plain]), takeMgmt_reached on src dest none]

/-- An unlisted ROLL_CALL option is a command of OPERATOR that its owner refuses (R163, R184). -/
theorem refuseCommand_odd (odd : oddRollCall payload = true) :
    s.refuseCommand a payload = s.takeCommand a 18#8 .operator fun s => (s, fail .range) :=
  congrFun (if_pos odd) s

end State

open State

/-- Settles O12: a command waits for no response, then for the form check, then for what is in flight, then for its level. -/
theorem commandsAreRefusedByTheResponder : Obligations.CommandsAreRefusedByTheResponder := by
  refine ⟨fun f s on short cls src dest waits => ?_, fun i a code least s row on src dest none => ?_,
    fun a payload s wf on src dest none => ?_⟩
  · obtain ⟨act, e⟩ := exec_commandFrame (s := s) f short cls
    rw [e, takeMgmt_waiting on src dest waits]
    rfl
  · obtain ⟨act, e⟩ := exec_command s row
    rw [e]
    exact ⟨fun flight => congrArg _ (takeCommand_busy on src dest none flight),
      fun landed low => congrArg _ (takeCommand_level on src dest none landed low)⟩
  · intro odd
    rw [exec_malformedCommand wf]
    refine ⟨fun plain => ?_, fun o flight => ?_, fun o landed low => ?_, fun o landed level => ?_⟩
    · exact congrArg _ (refuseCommand_nack on src dest none (Bool.eq_false_iff.mpr (mt (oddRollCall_iff _).mp plain)))
    all_goals rw [refuseCommand_odd ((oddRollCall_iff _).mpr o)]
    · exact congrArg _ (takeCommand_busy on src dest none flight)
    · exact congrArg _ (takeCommand_level on src dest none landed low)
    · exact congrArg _ (takeCommand_ready ⟨on, src, dest, none, landed, level⟩)

end Sys2Proof.Machine
end

section
/-! PROOF. The privilege table (R162, R165, R178): SET_PRIVILEGE and a cold start alone change it; nodes 0 and 1 stay at NONE, and
no SET_PRIVILEGE takes the last node from SITE. -/

namespace Sys2Proof.Machine

/-- The rows that can start the part up: START_UP, and the report of a frame sent, RESTART's answer among them (R178). -/
def Instr.mayStart : Instr → Bool
  | .startUp _ | .frameSent _ => true
  | _ => false

theorem Instr.mayStart_iff {i : Instr} : Instr.mayStart i = true ↔ (∃ n, i = .startUp n) ∨ ∃ p, i = .frameSent p := by
  cases i <;> simp [Instr.mayStart]

namespace State

variable {s t g : State} {a : Addr}

/-! ### The node that alone holds SITE (R165) -/

theorem onlySite_iff (n : Node) :
    s.onlySite n = true ↔ s.levelOfNode n = .site ∧ ∀ k, k ≠ n → s.levelOfNode k ≠ .site := by
  simp [onlySite, or_iff_not_imp_left]

theorem onlySite_of_levels (same : g.resp.levels = s.resp.levels) (n : Node) : g.onlySite n = s.onlySite n := by
  simp only [onlySite, levelOfNode, same]

/-! ### What a command does to the table -/

/-- What anything but a start-up leaves of the privilege table: the table, or the table with one of the nodes 2 to 31 at another
level, which is SITE where that node alone held SITE (R165). -/
inductive Relevelled (s t : State) : Prop
  | kept (same : t.resp.levels = s.resp.levels)
  | written (n : Node) (l : Level) (high : 2 ≤ n.val) (left : s.onlySite n = true → l = .site)
      (levels : t.resp.levels = vset s.resp.levels n l)

namespace Relevelled

theorem of_after (r : Relevelled s g) (same : t.resp.levels = g.resp.levels) : Relevelled s t := by
  cases r with
  | kept e => exact .kept (same.trans e)
  | written n l high left e => exact .written n l high left (same.trans e)

theorem of_before (r : Relevelled g t) (same : g.resp.levels = s.resp.levels) : Relevelled s t := by
  cases r with
  | kept e => exact .kept (e.trans same)
  | written n l high left e =>
    exact .written n l high (fun only => left ((onlySite_of_levels same n).trans only)) (same ▸ e)

/-- Nodes 0 and 1 are out of its reach (R162). -/
theorem privilegesOk (r : Relevelled s t) (ok : s.PrivilegesOk) : t.PrivilegesOk := by
  cases r with
  | kept e => simpa only [PrivilegesOk, levelOfNode, e] using ok
  | written n l high left e =>
    have low {k : Node} (hk : k.val < 2) : t.levelOfNode k = s.levelOfNode k := by
      have other : k ≠ n := by rintro rfl; omega
      rw [levelOfNode, e, vget_vset_ne _ _ other, levelOfNode]
    exact ⟨(low (by decide)).trans ok.1, (low (by decide)).trans ok.2⟩

/-- A node at SITE stays: where the node written held it alone, the level written is SITE (R165). -/
theorem hasSite (r : Relevelled s t) (site : s.HasSite) : t.HasSite := by
  cases r with
  | kept e => simpa only [HasSite, levelOfNode, e] using site
  | written n l high left e =>
    have read (k : Node) : t.levelOfNode k = if k = n then l else s.levelOfNode k := by
      rw [levelOfNode, e, vget_vset, levelOfNode]
    by_cases another : ∃ k, k ≠ n ∧ s.levelOfNode k = .site
    · obtain ⟨k, other, held⟩ := another
      exact ⟨k, (read k).trans ((if_neg other).trans held)⟩
    · have others : ∀ k, k ≠ n → s.levelOfNode k ≠ .site := fun k other held => another ⟨k, other, held⟩
      obtain ⟨k, held⟩ := site
      obtain rfl : k = n := by_contra fun other => others k other held
      exact ⟨k, (read k).trans ((if_pos rfl).trans (left ((onlySite_iff k).mpr ⟨held, others⟩)))⟩

end Relevelled

/-! ### The reception of a frame, and the rows that leave the table alone -/

theorem sameLevels_received (s : State) : Received fun t => t.resp.levels = s.resp.levels where
  good _ _ e := by simpa using e
  bad _ _ e := by simpa using e
  screened _ _ e := by simpa using e
  screen _ _ e := e
  forward _ _ _ e := by simpa using e
  control _ _ _ e := e
  ordinary _ _ e := e

theorem relevelled_received (s : State) : Received (Relevelled s) where
  good _ _ r := r.of_after (by simp)
  bad _ _ r := r.of_after (by simp)
  screened _ _ r := r.of_after (by simp)
  screen _ _ r := r.of_after rfl
  forward _ _ _ r := r.of_after (by simp)
  control _ _ _ r := r.of_after rfl
  ordinary _ _ r := r.of_after rfl

theorem takeCommand_levels {code : Byte} {least : Level} {act : State → State × Reply}
    (owner : ∀ g, (act g).1.resp.levels = g.resp.levels) : (s.takeCommand a code least act).resp.levels = s.resp.levels :=
  (sameLevels_received s).takeCommand rfl fun g e => (owner g).trans e

theorem takeOperator_levels {act : State → State} (owner : ∀ g, (act g).resp.levels = g.resp.levels) :
    (s.takeOperator a act).resp.levels = s.resp.levels :=
  (sameLevels_received s).takeOperator rfl fun g e => (owner g).trans e

theorem takeHoseRequest_levels {kind : RequestKind} {hose : Byte} {act : HoseId → State → State}
    (owner : ∀ h g, (act h g).resp.levels = g.resp.levels) :
    (s.takeHoseRequest a kind hose act).resp.levels = s.resp.levels :=
  (sameLevels_received s).takeHoseRequest rfl fun h g e => (owner h g).trans e

theorem takeField_levels {ι : Type} {owner : State → Node → Option ι} {formOk : Bool} {act : ι → State → State}
    (keeps : ∀ i g, (act i g).resp.levels = g.resp.levels) :
    (s.takeField a owner formOk act).resp.levels = s.resp.levels :=
  (sameLevels_received s).takeField rfl fun i g e => (keeps i g).trans e

theorem expiry_levels {h : HoseId} {timer : Timers → Option Nat} {inPhase : Phase → Bool} {act : State → State}
    (owner : (act s).resp.levels = s.resp.levels) : (s.expiry h timer inPhase act).resp.levels = s.resp.levels :=
  expiry_elim (P := fun t => t.resp.levels = s.resp.levels) rfl fun _ _ => owner

/-! ### The responder's own commands -/

theorem cmdSetProtection_levels (flags : Byte) : (s.cmdSetProtection flags).1.resp.levels = s.resp.levels := by
  unfold cmdSetProtection
  repeat' split
  all_goals rfl

theorem cmdDigest_levels (node : Node) (selector : Byte) :
    (s.cmdDigest node selector).1.resp.levels = s.resp.levels := by
  unfold cmdDigest
  split <;> rfl

/-- A WIPE keeps the privilege table (R177). -/
theorem cmdWipe_levels : s.cmdWipe.1.resp.levels = s.resp.levels := by
  unfold cmdWipe
  repeat' split
  all_goals rfl

/-- SET_PRIVILEGE writes one level, and not over the last SITE (R165). -/
theorem cmdSetPrivilege_relevelled (node level : Byte) : Relevelled s (s.cmdSetPrivilege node level).1 := by
  unfold cmdSetPrivilege
  split
  · next n l _ _ =>
    split
    · exact .kept rfl
    · next high =>
      split
      · exact .kept rfl
      · next lone => exact .written n l (Nat.not_lt.mp high) (by simpa using lone) rfl
  · exact .kept rfl

theorem takeCommand_setPrivilege_relevelled (node level : Byte) :
    Relevelled s (s.takeCommand a 4#8 .site (cmdSetPrivilege node level)) := by
  have r := relevelled_received s
  have start : Relevelled s s := .kept rfl
  have good := r.good _ .cab start
  exact takeCommand_elim start (r.stray _ start) (r.misdirected _ start) (r.screened _ _ good) (fun _ _ => r.answer good ..)
    fun _ _ => r.reply ((cmdSetPrivilege_relevelled node level).of_before (by simp)) ..

/-! ### Start-ups (R162, R180) -/

/-- A warm start keeps the table. -/
theorem warmStart_levels (straps : Node) : (s.warmStart straps).resp.levels = s.resp.levels := by
  obtain ⟨-, -, -, -, -, resp, -⟩ := warmStart_units (s := s) (straps := straps)
  rw [resp]

theorem startUp_privilegesOk (straps : Node) (ok : s.PrivilegesOk) : (s.startUp straps).PrivilegesOk := by
  unfold startUp
  split
  · exact (Relevelled.kept (warmStart_levels straps)).privilegesOk ok
  · have cold (n : Node) (low : n.val < 2) : (s.coldStart straps).levelOfNode n = .none := by
      rw [coldStart_eq]
      exact (vget_coldLevels n).trans (if_neg fun named => by omega)
    exact ⟨cold 0 (by decide), cold 1 (by decide)⟩

theorem startUp_hasSite (straps : Node) (valid : s.storeValid = true) (site : s.HasSite) : (s.startUp straps).HasSite := by
  rw [startUp, if_pos valid]
  exact (Relevelled.kept (warmStart_levels straps)).hasSite site

end State

open State

/-! ### Every command -/

/-- Every row of its own that starts nothing up leaves the table, or writes one level. -/
theorem row_relevelled (j : Instr) (s : State) (raw : Instr.raw j = false) (runs : Instr.mayStart j = false) :
    ∃ t, exec j s = .next t ∧ Relevelled s t := by
  cases j with
  | badFrame | screenDrop | carriageFrame | malformedRequest | malformedCommand => cases raw
  | startUp | frameSent => cases runs
  | setPrivilege => exact ⟨_, rfl, takeCommand_setPrivilege_relevelled ..⟩
  | tagRead => exact ⟨_, rfl, .kept (takeField_levels fun _ _ => by rw [tagReadEvent_only])⟩
  | nozzle => exact ⟨_, rfl, .kept (takeField_levels fun _ _ => by split <;> simp)⟩
  | meterSample | headStatus => exact ⟨_, rfl, .kept (takeField_levels fun _ _ => by simp)⟩
  | probe => exact ⟨_, rfl, .kept (takeField_levels fun _ _ => by rw [probeEvent_only])⟩
  | post | hold | resume | stop => exact ⟨_, rfl, .kept (takeHoseRequest_levels fun _ _ => by simp)⟩
  | emergencyStop => exact ⟨_, rfl, .kept (takeOperator_levels fun _ => by split <;> simp)⟩
  | manualAuth => exact ⟨_, rfl, .kept (takeOperator_levels fun _ => by rw [manualRequest_only])⟩
  | receiveStart => exact ⟨_, rfl, .kept (takeOperator_levels fun _ => by rw [receiveRequest_only])⟩
  | authWindowExpiry | noFlowExpiry | meterSilenceExpiry | settleExpiry | postDelayExpiry | holdLimitExpiry =>
    exact ⟨_, rfl, .kept (expiry_levels (by simp))⟩
  | digestDone => exact ⟨_, rfl, .kept (by split <;> rfl)⟩
  | sweepDone =>
    refine ⟨_, rfl, .kept ?_⟩
    split
    · next work _ _ =>
      show (State.sweepMark (work, s)).2.resp.levels = s.resp.levels
      rw [sweepMark_snd_only]
    · rfl
  | identify | queryEmpty | restart | readLog | rollCallRead => exact ⟨_, rfl, .kept (takeCommand_levels fun _ => by simp)⟩
  | setClock | sweep | openPeriod | rollCallStart | rollCallStop | siteResume =>
    exact ⟨_, rfl, .kept (takeCommand_levels fun _ => rfl)⟩
  | setProtection => exact ⟨_, rfl, .kept (takeCommand_levels fun _ => cmdSetProtection_levels _)⟩
  | digest => exact ⟨_, rfl, .kept (takeCommand_levels fun _ => cmdDigest_levels ..)⟩
  | wipe => exact ⟨_, rfl, .kept (takeCommand_levels fun _ => cmdWipe_levels)⟩
  | status a x n o =>
    refine ⟨_, rfl, .kept ?_⟩
    split
    · exact takeCommand_levels fun _ => by rw [cmdStatusCounterClear_fst_only]
    · exact takeCommand_levels fun _ => by simp
  | statusCounterClear => exact ⟨_, rfl, .kept (takeCommand_levels fun _ => by rw [cmdStatusCounterClear_fst_only])⟩
  | loadMachine => exact ⟨_, rfl, .kept (takeCommand_levels fun _ => by rw [cmdLoadMachine_fst_only])⟩
  | deleteMachine => exact ⟨_, rfl, .kept (takeCommand_levels fun _ => by rw [cmdDeleteMachine_fst_only])⟩
  | readMachineByTag => exact ⟨_, rfl, .kept (takeCommand_levels fun _ => by rw [cmdReadByTag_fst_only])⟩
  | readMachineByIndex => exact ⟨_, rfl, .kept (takeCommand_levels fun _ => by rw [cmdReadByIndex_fst_only])⟩
  | setAllowance => exact ⟨_, rfl, .kept (takeCommand_levels fun _ => by rw [cmdSetAllowance_fst_only])⟩
  | clearStrikes => exact ⟨_, rfl, .kept (takeCommand_levels fun _ => by rw [cmdClearStrikes_fst_only])⟩
  | setStrikePolicy => exact ⟨_, rfl, .kept (takeCommand_levels fun _ => by rw [cmdSetStrikePolicy_fst_only])⟩
  | loadHoseProfile => exact ⟨_, rfl, .kept (takeCommand_levels fun _ => by rw [cmdLoadHoseProfile_fst_only])⟩
  | siteStop => exact ⟨_, rfl, .kept (takeCommand_levels fun _ => by rw [cmdSiteStop_fst_only])⟩
  | loadCalibration => exact ⟨_, rfl, .kept (takeCommand_levels fun _ => by rw [cmdLoadCalibration_fst_only])⟩
  | loadGrade => exact ⟨_, rfl, .kept (takeCommand_levels fun _ => by rw [cmdLoadGrade_fst_only])⟩
  | loadCompartment => exact ⟨_, rfl, .kept (takeCommand_levels fun _ => by rw [cmdLoadCompartment_fst_only])⟩
  | ackRestock => exact ⟨_, rfl, .kept (takeCommand_levels fun _ => by rw [cmdAckRestock_fst_only])⟩
  | setStock => exact ⟨_, rfl, .kept (takeCommand_levels fun _ => by rw [cmdSetStock_fst_only])⟩
  | reconcile => exact ⟨_, rfl, .kept (takeCommand_levels fun _ => by rw [cmdReconcile_fst_only])⟩
  | loadTariff => exact ⟨_, rfl, .kept (takeCommand_levels fun _ => by rw [cmdLoadTariff_fst_only])⟩
  | loadClassRate => exact ⟨_, rfl, .kept (takeCommand_levels fun _ => by rw [cmdLoadClassRate_fst_only])⟩
  | releaseLog => exact ⟨_, rfl, .kept (takeCommand_levels fun _ => by rw [cmdReleaseLog_fst_only])⟩
  | readCentres => exact ⟨_, rfl, .kept (takeCommand_levels fun _ => by rw [cmdReadCentres_fst_only])⟩
  | clearCentres => exact ⟨_, rfl, .kept (takeCommand_levels fun _ => by rw [cmdClearCentres_fst_only])⟩
  | rearm => exact ⟨_, rfl, .kept (takeCommand_levels fun _ => by rw [cmdRearm_fst_only])⟩
  | loadFrameClass => exact ⟨_, rfl, .kept (takeCommand_levels fun _ => by rw [cmdLoadFrameClass_fst_only])⟩
  | siteClockSecond | mainSupplyLoss | retentionSupplyFailure => exact ⟨_, rfl, .kept (by split <;> rfl)⟩
  | storeValueLost entry change => exact ⟨_, rfl, .kept (by cases entry <;> rfl)⟩

/-- A command that starts nothing up leaves the table, or writes one level: no frame is handed off as a start-up. -/
theorem exec_relevelled {i : Instr} {s t : State} (runs : Instr.mayStart i = false) (e : exec i s = .next t) :
    Relevelled s t := by
  have row (j : Instr) (raw : Instr.raw j = false) (runs : Instr.mayStart j = false) (u : State) (eu : exec j s = .next u) :
      Relevelled s u := by
    obtain ⟨v, ev, r⟩ := row_relevelled j s raw runs
    obtain rfl := Host.Outcome.next.inj (ev.symm.trans eu)
    exact r
  cases raw : Instr.raw i with
  | false => exact row i raw runs t e
  | true =>
    refine (relevelled_received s).raw raw (.kept rfl) (fun j own => row j ?_ ?_) e <;>
    · cases j <;> first | rfl | cases own

/-- One of the two rows that can start the part up does so, or leaves the table. -/
theorem exec_mayStart {i : Instr} {s t : State} (starts : Instr.mayStart i = true) (e : exec i s = .next t) :
    Relevelled s t ∨ ∃ straps, t = s.startUp straps := by
  cases i with
  | startUp straps =>
    obtain rfl := Host.Outcome.next.inj e
    exact .inr ⟨straps, rfl⟩
  | frameSent p =>
    obtain rfl := Host.Outcome.next.inj e
    split
    · split
      · exact .inr ⟨_, rfl⟩
      · cases p <;> exact .inl (.kept rfl)
    · exact .inl (.kept rfl)
  | _ => cases starts

/-- A step leaves the table, writes one level, or is a start-up by one of the two rows. -/
theorem step_relevelled {s t : State} (e : step s = .next t) : Relevelled s t
    ∨ ∃ i rest straps, s.pending = i :: rest ∧ Instr.mayStart i = true ∧ t = (s.setPending rest).startUp straps := by
  unfold step at e
  split at e
  · obtain rfl := Host.Outcome.next.inj e
    exact .inl (.kept (by rw [sweepTick_resp]))
  · next i rest queue =>
    cases starts : Instr.mayStart i with
    | false => exact .inl ((exec_relevelled starts e).of_before rfl)
    | true =>
      rcases exec_mayStart starts e with r | ⟨straps, rfl⟩
      · exact .inl (r.of_before rfl)
      · exact .inr ⟨i, rest, straps, queue, starts, rfl⟩

/-- Settles O60: a step writes one level as R165 has it, or starts the part up: a warm start keeps the table, a cold start leaves
nodes 0 and 1 at NONE. -/
theorem stepKeepsPrivileges : Obligations.StepKeepsPrivileges := by
  refine ⟨fun s t ok e => ?_, fun s t site valid e => ?_⟩
  · rcases step_relevelled e with r | ⟨i, rest, straps, -, -, rfl⟩
    · exact r.privilegesOk ok
    · exact startUp_privilegesOk (s := s.setPending rest) straps ok
  · rcases step_relevelled e with r | ⟨i, rest, straps, queue, starts, rfl⟩
    · exact r.hasSite site
    · exact startUp_hasSite (s := s.setPending rest) straps (valid i rest queue (Instr.mayStart_iff.mp starts)) site

end Sys2Proof.Machine
end

section
/-! PROOF. SET_CLOCK, SET_PRIVILEGE and SET_PROTECTION (R165, R167, R169): their operands as numbers and sets, and their refusals in
order. -/

namespace Sys2Proof.Machine

/-! ### The operands (10.6) -/

theorem levelOf_code {b : Byte} {l : Level} (e : b.toNat = l.code) : levelOf b = some l := by
  obtain rfl : b = BitVec.ofNat 8 l.code := by rw [← e, BitVec.ofNat_toNat, BitVec.setWidth_eq]
  cases l <;> rfl

theorem levelOf_eq_none {b : Byte} (big : 3 < b.toNat) : levelOf b = none := by
  have not (v : Byte) (le : v.toNat ≤ 3) : b ≠ v := by rintro rfl; omega
  simp [levelOf, not 0#8 (by decide), not 1#8 (by decide), not 2#8 (by decide), not 3#8 (by decide)]

/-- A set of the two flags is a number up to 3. -/
theorem beyondFlags_iff (flags : Byte) : flags &&& 0xFC#8 ≠ 0#8 ↔ 3 < flags.toNat := by
  revert flags
  decide

theorem protectionSet_within : ∀ cal table : Bool, protectionSet cal table &&& 0xFC#8 = 0#8 := by decide

theorem protectionSet_cal : ∀ cal table : Bool, (protectionSet cal table).getLsbD 0 = cal := by decide

theorem protectionSet_table : ∀ cal table : Bool, (protectionSet cal table).getLsbD 1 = table := by decide

namespace State

variable {s : State} {node level : Byte} {n : Node} {l : Level}

/-! ### SET_PRIVILEGE (R165) -/

theorem cmdSetPrivilege_range (out : node.toNat < 2 ∨ 31 < node.toNat ∨ 3 < level.toNat) :
    s.cmdSetPrivilege node level = (s, fail .range) := by
  unfold cmdSetPrivilege
  split
  · next n l named listed =>
    have node_eq : node.toNat = n.val := finOf_eq_some.mp named
    rcases out with low | high | big
    · exact if_pos (node_eq ▸ low)
    · omega
    · rw [levelOf_eq_none big] at listed
      cases listed
  · rfl

section InRange

variable (named : node.toNat = n.val) (listed : level.toNat = l.code) (high : 2 ≤ n.val)

include named listed high

theorem cmdSetPrivilege_inRange : s.cmdSetPrivilege node level =
    if s.onlySite n && l != .site then (s, fail .state)
    else (s.setResp { s.resp with levels := vset s.resp.levels n l }, passOk [node, level]) := by
  unfold cmdSetPrivilege
  rw [finOf_eq_some.mpr named, levelOf_code listed]
  exact if_neg (Nat.not_lt.mpr high)

theorem cmdSetPrivilege_lone (lone : s.onlySite n = true) (lower : l ≠ .site) :
    s.cmdSetPrivilege node level = (s, fail .state) :=
  (cmdSetPrivilege_inRange named listed high).trans (if_pos (by simp [lone, lower]))

theorem cmdSetPrivilege_sets (left : ¬ s.onlySite n = true ∨ l = .site) : s.cmdSetPrivilege node level =
    (s.setResp { s.resp with levels := vset s.resp.levels n l }, passOk [node, level]) :=
  (cmdSetPrivilege_inRange named listed high).trans (if_neg (by simpa [imp_iff_not_or] using left))

end InRange

/-! ### SET_PROTECTION (R167) -/

theorem cmdSetProtection_range {flags : Byte} (big : 3 < flags.toNat) : s.cmdSetProtection flags = (s, fail .range) :=
  if_pos ((beyondFlags_iff flags).mpr big)

theorem cmdSetProtection_flags (cal table : Bool) : s.cmdSetProtection (protectionSet cal table) =
    if (s.resp.calProtect && !cal) || (s.resp.tableProtect && !table) then (s, fail .protectedFlag)
    else (s.setResp { s.resp with calProtect := cal, tableProtect := table }, passOk [protectionSet cal table]) := by
  unfold cmdSetProtection
  rw [if_neg (not_not.mpr (protectionSet_within cal table)), protectionSet_cal, protectionSet_table]
  rfl

end State

open State

/-- Settles O48: each command by its operands, and a level or a flag lowered by what it would undo. -/
theorem clockPrivilegeAndProtection : Obligations.ClockPrivilegeAndProtection := by
  intro a s ready g
  refine ⟨fun v => ?_, fun node level n l named listed high => ?_, fun node level out => ?_, fun flags big => ?_,
    fun cal table => ?_⟩
  · exact takeCommand_answered (act := cmdSetClock v) ready rfl
  · intro lone
    have only : g.onlySite n = true ↔ lone := onlySite_iff n
    refine ⟨fun alone lower => ?_, fun left => ?_⟩
    · exact takeCommand_answered ready (cmdSetPrivilege_lone (s := g) named listed high (only.mpr alone) lower)
    · exact takeCommand_answered ready (cmdSetPrivilege_sets (s := g) named listed high (left.imp_left (mt only.mp)))
  · exact takeCommand_answered ready (cmdSetPrivilege_range out)
  · exact takeCommand_answered ready (cmdSetProtection_range big)
  · intro flags
    have answer := cmdSetProtection_flags (s := s.countGood .cab) cal table
    refine ⟨fun cleared => ?_, fun keepsCal keepsTable => ?_⟩
    · exact takeCommand_answered ready (answer.trans (if_pos (by simpa using cleared)))
    · exact takeCommand_answered ready (answer.trans (if_neg (by simpa using ⟨keepsCal, keepsTable⟩)))

end Sys2Proof.Machine
end

section
/-! PROOF. DIGEST (R160, R173, R185): a listed selector is in flight, and DIGEST_DONE answers the CRC over the covered bytes, form by
form. -/

namespace Sys2Proof.Machine

/-! ### Selectors (10.6) -/

theorem selectorOf_code (x : Selector) : selectorOf (BitVec.ofNat 8 x.code) = some x := by cases x <;> rfl

theorem selectorOf_eq_none {b : Byte} (out : b = 0#8 ∨ 6 < b.toNat) : selectorOf b = none := by
  have not (v : Byte) (le : 1 ≤ v.toNat ∧ v.toNat ≤ 6) : b ≠ v := by
    rintro rfl
    rcases out with rfl | big
    · exact absurd le.1 (by decide)
    · omega
  simp [selectorOf, not 1#8 (by decide), not 2#8 (by decide), not 3#8 (by decide), not 4#8 (by decide), not 5#8 (by decide),
    not 6#8 (by decide)]

/-! ### The covered forms (R185) -/

/-- Forms of one length, one for each item of a fixed array. -/
theorem forms_length {α : Type} {n k : Nat} {form : α → List Byte} (len : ∀ x, (form x).length = n) (v : Vector α k) :
    (v.toList.map form).flatten.length = k * n := by
  rw [flatten_map_length len, Vector.length_toList]

/-- An optional item's form under its presence byte has one length, present or absent. -/
theorem presentForm_map_length {α : Type} {n : Nat} {form : α → List Byte} (len : ∀ x, (form x).length = n) (v : Option α) :
    (presentForm n (v.map form)).length = n + 1 := by
  refine presentForm_length n _ fun bytes e => ?_
  obtain ⟨x, -, rfl⟩ := Option.map_eq_some_iff.mp e
  exact len x

namespace State

variable {s : State} {a : Addr} {node : Node}

theorem digestBytes_length (x : Selector) : (s.digestBytes x).length = match x with
    | .machines => 16 * s.inUseCount | .tariff => 70 | .calibration => 190 | .carriage => 306 | .hoses => 168
    | .compartments => 112 := by
  cases x with
  | machines =>
    show s.machineForms.flatten.length = _
    rw [machineForms, flatten_map_length (fun i => Loaded.bytes_length _), Nat.mul_comm]
    rfl
  | tariff =>
    simp only [digestBytes, List.length_append, forms_length (beN_length _), StrikePolicy.bytes_length]
  | calibration =>
    simp only [digestBytes, List.length_append, forms_length (beN_length _),
      forms_length fun y : Hose => presentForm_map_length Calibration.bytes_length y.cal]
  | carriage => simp only [digestBytes, forms_length CarriageEntry.bytes_length]
  | hoses =>
    simp only [digestBytes, forms_length fun y : Hose => presentForm_map_length Profile.bytes_length y.profile]
  | compartments =>
    simp only [digestBytes, forms_length fun y : Compartment => presentForm_map_length Settings.bytes_length y.settings]

/-! ### DIGEST and its end (R173) -/

theorem cmdDigest_listed (x : Selector) : s.cmdDigest node (BitVec.ofNat 8 x.code) =
    (s.setResp { s.resp with inFlight := some (.digest node x) }, .later) := by
  rw [cmdDigest, selectorOf_code]

theorem cmdDigest_unlisted {b : Byte} (out : b = 0#8 ∨ 6 < b.toNat) : s.cmdDigest node b = (s, fail .range) := by
  rw [cmdDigest, selectorOf_eq_none out]

theorem exec_digestDone {x : Selector} (on : s.power.main = true) (flight : s.resp.inFlight = some (.digest node x)) :
    exec .digestDone s
      = .next ((s.setResp { s.resp with inFlight := none }).answer node .pass 6#8 .ok (s.digestData x)) := by
  show execDigestDone s = _
  rw [execDigestDone, on, flight]

end State

open State

/-- Settles O49: DIGEST by its selector; the bytes of R185 are those the CRC is formed over, selector by selector. -/
theorem digestAnswersTheCrc : Obligations.DigestAnswersTheCrc := by
  refine ⟨fun a s x ready => ?_, fun a s x ready out => ?_, fun s node x on flight => ?_⟩
  · show Host.Outcome.next (s.takeCommand a 6#8 .supervisor (cmdDigest a.src _)) = _
    rw [takeCommand_ready ready, cmdDigest_listed]
    rfl
  · exact takeCommand_answered ready (cmdDigest_unlisted out)
  · intro inUse present policy bytes count
    have form (n : Nat) (v : Option (List Byte)) : present n v = presentForm n v := by cases v <;> rfl
    have covered : s.digestBytes x = bytes := by
      cases x <;> simp only [digestBytes, machineForms, toList_map_ids, StrikePolicy.bytes, ← form,
        ← List.append_assoc] <;> rfl
    have items : s.digestCount x = count := by cases x <;> rfl
    refine ⟨?_, ?_⟩
    · rw [exec_digestDone on flight, digestData, covered, items]
    · rw [← covered, digestBytes_length]
      cases x <;> rfl

end Sys2Proof.Machine
end

section
/-! PROOF. WIPE and RESTART (R176 to R178). -/

namespace Sys2Proof.Machine

namespace State

variable {s : State}

/-! ### WIPE (R176, R177) -/

theorem cmdWipe_logged (stored : s.billing.stored ≠ []) : s.cmdWipe = (s, fail .logNotEmpty) :=
  if_pos fun none => stored (storedCount_eq_zero_iff.mp (beq_iff_eq.mpr none))

theorem cmdWipe_empty (empty : s.billing.stored = []) : s.cmdWipe =
    if s.anyHose (fun x => !x.phase.atRest) then (s, fail .busy) else (s.wiped, passOk []) :=
  if_neg (not_not.mpr (beq_iff_eq.mp (storedCount_eq_zero_iff.mpr empty)))

/-- Some hose is neither OFF nor IDLE. -/
theorem anyHose_busy_iff :
    s.anyHose (fun x => !x.phase.atRest) = true ↔ ∃ h, (s.hose h).phase ≠ .off ∧ (s.hose h).phase ≠ .idle := by
  simp [anyHose_iff, ← Bool.not_eq_true, Phase.atRest_iff]

end State

open State

/-- Settles O50: the two refusals of WIPE in their order, the wiped tables, and RESTART's answer alone. -/
theorem wipeEmptiesTheSiteTables : Obligations.WipeEmptiesTheSiteTables := by
  intro a s ready g
  refine ⟨fun stored => ?_, fun empty busy => ?_, fun empty rest => ?_, ?_⟩
  · exact takeCommand_answered ready (cmdWipe_logged stored)
  · exact takeCommand_answered ready ((cmdWipe_empty (s := g) empty).trans (if_pos (anyHose_busy_iff.mpr busy)))
  · have atRest : ¬ g.anyHose (fun x => !x.phase.atRest) = true := by
      rw [anyHose_busy_iff]
      rintro ⟨h, off, idle⟩
      exact (rest h).elim off idle
    exact takeCommand_answered ready ((cmdWipe_empty (s := g) empty).trans (if_neg atRest))
  · exact congrArg Host.Outcome.next (takeCommand_ready ready)

end Sys2Proof.Machine
end

section
/-! PROOF. Decode and encode agree (R182, R184, 10.2, 10.5): a frame is read as the row that writes it. The multi-byte
numbers come back by rd2_be2, rd4_be4 and rd6_be6; code and length pick the row. -/

namespace Sys2Proof

/-! ### The forms, read back field by field (10.3, 10.5) -/

theorem commandInstr_loadMachine (a : Addr) (m : MachineForm) :
    commandInstr a ([10#8] ++ m.bytes) = .loadMachine a m := by
  show Instr.loadMachine a ⟨rd6 _ _ _ _ _ _, rd2 _ _, _, _, _, _, rd4 _ _ _ _⟩ = _
  rw [rd6_be6, rd2_be2, rd4_be4]

theorem commandInstr_setStrikePolicy (a : Addr) (policy : PolicyForm) :
    commandInstr a ([17#8] ++ policy.bytes) = .setStrikePolicy a policy := by
  show Instr.setStrikePolicy a ⟨_, _, _, _, rd2 _ _⟩ = _
  rw [rd2_be2]

theorem commandInstr_loadHoseProfile (a : Addr) (hose : Byte) (profile : ProfileForm) :
    commandInstr a ([20#8, hose] ++ profile.bytes) = .loadHoseProfile a hose profile := by
  show Instr.loadHoseProfile a hose ⟨_, _, _, rd2 _ _, rd4 _ _ _ _, rd4 _ _ _ _, rd2 _ _, rd2 _ _, rd2 _ _, rd2 _ _, _, _,
    rd2 _ _, rd2 _ _⟩ = _
  simp only [rd2_be2, rd4_be4]

theorem commandInstr_loadCalibration (a : Addr) (hose : Byte) (cal : CalForm) :
    commandInstr a ([23#8, hose] ++ cal.bytes) = .loadCalibration a hose cal := by
  show Instr.loadCalibration a hose ⟨rd4 _ _ _ _, rd2 _ _, rd2 _ _, rd2 _ _, rd4 _ _ _ _, rd4 _ _ _ _, rd4 _ _ _ _,
    rd4 _ _ _ _, rd2 _ _⟩ = _
  simp only [rd2_be2, rd4_be4]

theorem commandInstr_loadCompartment (a : Addr) (comp : Byte) (form : CompForm) :
    commandInstr a ([25#8, comp] ++ form.bytes) = .loadCompartment a comp form := by
  show Instr.loadCompartment a comp ⟨_, _, rd4 _ _ _ _, rd4 _ _ _ _, rd4 _ _ _ _, rd4 _ _ _ _, rd4 _ _ _ _, rd4 _ _ _ _, _⟩
    = _
  simp only [rd4_be4]

theorem commandInstr_loadTariff (a : Addr) (prices : PriceForm) :
    commandInstr a ([30#8] ++ prices.bytes) = .loadTariff a prices := by
  show Instr.loadTariff a ⟨rd4 _ _ _ _, rd4 _ _ _ _, rd4 _ _ _ _, rd4 _ _ _ _, rd4 _ _ _ _, rd4 _ _ _ _, rd4 _ _ _ _,
    rd4 _ _ _ _⟩ = _
  simp only [rd4_be4]

theorem commandInstr_loadFrameClass (a : Addr) (cls : Byte) (form : CarriageForm) :
    commandInstr a ([37#8, cls] ++ form.bytes) = .loadFrameClass a cls form := by
  show Instr.loadFrameClass a cls ⟨_, rd4 _ _ _ _, _⟩ = _
  rw [rd4_be4]

/-! ### Payloads -/

variable {i : Instr} {a : Addr} {payload : List Byte}

/-- A STATUS with an option other than 1 is no counter clear. -/
theorem commandInstr_status {a : Addr} {x n o : Byte} (other : o ≠ 1#8) :
    commandInstr a [2#8, x, n, o] = .status a x n o :=
  if_neg other

/-- Reading undoes writing for the command table of 10.5: the code and the length of each row's payload are its own. -/
theorem commandInstr_commandPayload (wf : i.wf = true) (written : i.commandPayload = some (a, payload)) :
    commandInstr a payload = i := by
  cases i with
  | malformedCommand =>
    cases written
    simp only [Instr.wf, Bool.and_eq_true, beq_iff_eq] at wf
    obtain ⟨_, malformed⟩ := wf
    exact malformed
  | status => cases written; exact commandInstr_status (bne_iff_ne.mp wf)
  | loadMachine => cases written; exact commandInstr_loadMachine ..
  | setStrikePolicy => cases written; exact commandInstr_setStrikePolicy ..
  | loadHoseProfile => cases written; exact commandInstr_loadHoseProfile ..
  | loadCalibration => cases written; exact commandInstr_loadCalibration ..
  | loadCompartment => cases written; exact commandInstr_loadCompartment ..
  | loadTariff => cases written; exact commandInstr_loadTariff ..
  | loadFrameClass => cases written; exact commandInstr_loadFrameClass ..
  | setAllowance _ tag volume =>
    cases written
    exact congrArg₂ (Instr.setAllowance a) (rd6_be6 tag) (rd4_be4 volume)
  | deleteMachine _ tag => cases written; exact congrArg (Instr.deleteMachine a) (rd6_be6 tag)
  | readMachineByTag _ tag => cases written; exact congrArg (Instr.readMachineByTag a) (rd6_be6 tag)
  | clearStrikes _ tag => cases written; exact congrArg (Instr.clearStrikes a) (rd6_be6 tag)
  | setClock _ seconds => cases written; exact congrArg (Instr.setClock a) (rd4_be4 seconds)
  | ackRestock _ comp reference => cases written; exact congrArg (Instr.ackRestock a comp) (rd4_be4 reference)
  | setStock _ comp volume => cases written; exact congrArg (Instr.setStock a comp) (rd4_be4 volume)
  | readLog _ seq => cases written; exact congrArg (Instr.readLog a) (rd4_be4 seq)
  | releaseLog _ seq => cases written; exact congrArg (Instr.releaseLog a) (rd4_be4 seq)
  | readMachineByIndex _ start => cases written; exact congrArg (Instr.readMachineByIndex a) (rd2_be2 start)
  | rollCallRead _ start => cases written; exact congrArg (Instr.rollCallRead a) (rd2_be2 start)
  | loadGrade _ grade beta => cases written; exact congrArg (Instr.loadGrade a grade) (rd2_be2 beta)
  | loadClassRate _ cls fraction => cases written; exact congrArg (Instr.loadClassRate a cls) (rd2_be2 fraction)
  | rearm _ causes => cases written; exact congrArg (Instr.rearm a) (rd2_be2 causes)
  | identify | statusCounterClear | setPrivilege | setProtection | digest | queryEmpty | wipe | restart | openPeriod | sweep
  | rollCallStart | rollCallStop | siteStop | siteResume | reconcile | readCentres | clearCentres => cases written; rfl
  | _ => cases written

/-- Reading undoes writing for the request table of 10.2. -/
theorem requestInstr_requestPayload (wf : i.wf = true) (written : i.requestPayload = some (a, payload)) :
    requestInstr a payload = i := by
  cases i with
  | malformedRequest =>
    cases written
    simp only [Instr.wf, Bool.and_eq_true, beq_iff_eq] at wf
    obtain ⟨_, malformed⟩ := wf
    exact malformed
  | manualAuth _ hose centre cls presence machine reference =>
    cases written
    exact congrArg₂ (Instr.manualAuth a hose centre cls presence) (rd2_be2 machine) (rd4_be4 reference)
  | receiveStart _ hose volume presence reference =>
    cases written
    exact congrArg₂ (Instr.receiveStart a hose · presence ·) (rd4_be4 volume) (rd4_be4 reference)
  | post | hold | resume | stop | emergencyStop => cases written; rfl
  | _ => cases written

/-! ### Frames -/

/-- A carriage class makes a frame a CARRIAGE_FRAME, whatever its port and payload. -/
theorem frameInstr_carriage {p : Port} {f : Frame} (carriage : 13 ≤ f.cls.val) : frameInstr p f = .carriageFrame p f :=
  if_pos carriage

/-- A MGMT_COMMAND frame is read as its command. -/
theorem frameInstr_mgmtCommand (a : Addr) (payload : List Byte) :
    frameInstr .cab ⟨a.dest, a.src, 11, payload⟩ = commandInstr a payload := rfl

/-- Settles O6: the class picks the payload's table, and each table reads back what its rows write. -/
theorem frameIsReadAsItsCommand : Obligations.FrameIsReadAsItsCommand := by
  intro i p f notDrop wf written
  unfold Instr.linkFrame at written
  split at written
  case h_1 q g => exact absurd rfl (notDrop q g)
  case h_2 =>
    cases written
    simp only [Instr.wf, Bool.and_eq_true, decide_eq_true_eq] at wf
    obtain ⟨carriage, _⟩ := wf
    exact frameInstr_carriage carriage
  case h_3 a tag hours quality =>
    cases written
    exact congrArg₂ (Instr.tagRead a · · quality) (rd6_be6 tag) (rd4_be4 hours)
  case h_4 => cases written; rfl
  case h_5 a seq total temp =>
    cases written
    exact congrArg₂ (Instr.meterSample a seq) (rd2_be2 total) (rd2_be2 temp)
  case h_6 a volume status => cases written; exact congrArg (Instr.probe a · status) (rd4_be4 volume)
  case h_7 => cases written; rfl
  case h_8 =>
    split at written
    · next a payload request =>
      cases written
      exact (Machine.frameInstr_operator a payload).trans (requestInstr_requestPayload wf request)
    · split at written
      · next a payload command =>
        cases written
        exact (frameInstr_mgmtCommand a payload).trans (commandInstr_commandPayload wf command)
      · cases written

end Sys2Proof
end

section
/-! PROOF. One step (section 9.1): the command at the front runs on the rest of the queue, every command answers a next state,
and none touches the queue it was taken from. -/

namespace Sys2Proof.Machine

/-- Where every row of its own answers next with a property that the reception keeps, so does every command. -/
theorem Received.exec_next {P : State → Prop} (r : Received P)
    (rows : ∀ j s, Instr.raw j = false → P s → ∃ t, Machine.exec j s = .next t ∧ P t) (i : Instr) (s : State) (h : P s) :
    ∃ t, Machine.exec i s = .next t ∧ P t := by
  obtain ⟨t, e⟩ : ∃ t, Machine.exec i s = .next t :=
    exec_elim (Q := fun o => ∃ t, o = .next t) i s ⟨_, rfl⟩ (fun _ => ⟨_, rfl⟩) (fun _ _ => ⟨_, rfl⟩) (fun _ _ => ⟨_, rfl⟩)
      (fun _ => ⟨_, rfl⟩) (fun _ _ => ⟨_, rfl⟩) fun j raw => (rows j s raw h).imp fun _ => And.left
  refine ⟨t, e, r.exec (fun j u raw hu v ev => ?_) i s t h e⟩
  obtain ⟨w, ew, hw⟩ := rows j u raw hu
  exact Host.Outcome.next.inj (ew.symm.trans ev) ▸ hw

namespace State

variable {s : State} {a : Addr}

/-! ### The queue of waiting commands -/

/-- The reception of a frame and the frames queued in answer leave the queue of commands alone. -/
theorem samePending_received (s : State) : Received fun t => t.pending = s.pending where
  good _ _ e := by simpa using e
  bad _ _ e := by simpa using e
  screened _ _ e := by simpa using e
  screen _ _ e := e
  forward _ _ _ e := by simpa using e
  control _ _ _ e := e
  ordinary _ _ e := e

theorem takeCommand_pending {code : Byte} {least : Level} {act : State → State × Reply}
    (owner : ∀ g, (act g).1.pending = g.pending) : (s.takeCommand a code least act).pending = s.pending :=
  (samePending_received s).takeCommand rfl fun g e => (owner g).trans e

theorem takeOperator_pending {act : State → State} (owner : ∀ g, (act g).pending = g.pending) :
    (s.takeOperator a act).pending = s.pending :=
  (samePending_received s).takeOperator rfl fun g e => (owner g).trans e

theorem takeHoseRequest_pending {kind : RequestKind} {hose : Byte} {act : HoseId → State → State}
    (owner : ∀ h g, (act h g).pending = g.pending) : (s.takeHoseRequest a kind hose act).pending = s.pending :=
  (samePending_received s).takeHoseRequest rfl fun h g e => (owner h g).trans e

theorem takeField_pending {ι : Type} {owner : State → Node → Option ι} {formOk : Bool} {act : ι → State → State}
    (keeps : ∀ i g, (act i g).pending = g.pending) : (s.takeField a owner formOk act).pending = s.pending :=
  (samePending_received s).takeField rfl fun i g e => (keeps i g).trans e

theorem expiry_pending {h : HoseId} {timer : Timers → Option Nat} {inPhase : Phase → Bool} {act : State → State}
    (owner : (act s).pending = s.pending) : (s.expiry h timer inPhase act).pending = s.pending :=
  expiry_elim (P := fun t => t.pending = s.pending) rfl fun _ _ => owner

/-- A warm or a cold start leaves it too: the queue is the model's own (log entry 1). -/
@[simp] theorem startUp_pending (straps : Node) : (s.startUp straps).pending = s.pending := by
  unfold startUp
  split
  · exact warmStart_pending s straps
  · exact setCause_pending ..

/-! ### Idle steps -/

/-- Without a SWEEP in flight at a powered part time brings nothing. -/
theorem sweepTick_still (still : s.power.main = false ∨ ∀ node work, s.resp.inFlight ≠ some (.sweep node work)) :
    s.sweepTick = s := by
  unfold sweepTick
  split
  · next node work on flight =>
    rcases still with off | none
    · rw [on] at off
      cases off
    · exact absurd flight (none node work)
  · rfl

end State

open State

theorem step_front {s : State} {c : Instr} {rest : List Instr} (queue : s.pending = c :: rest) :
    step s = exec c (s.setPending rest) := by
  unfold step
  rw [queue]

/-- Every row of its own answers next and leaves the queue of commands as it was. -/
theorem row_pending (j : Instr) (s : State) (raw : Instr.raw j = false) :
    ∃ t, exec j s = .next t ∧ t.pending = s.pending := by
  cases j with
  | badFrame | screenDrop | carriageFrame | malformedRequest | malformedCommand => cases raw
  | tagRead => exact ⟨_, rfl, takeField_pending fun _ _ => by rw [tagReadEvent_only]⟩
  | nozzle => exact ⟨_, rfl, takeField_pending fun _ _ => by split <;> simp⟩
  | meterSample | headStatus => exact ⟨_, rfl, takeField_pending fun _ _ => by simp⟩
  | probe => exact ⟨_, rfl, takeField_pending fun _ _ => by rw [probeEvent_only]⟩
  | post | hold | resume | stop => exact ⟨_, rfl, takeHoseRequest_pending fun _ _ => by simp⟩
  | emergencyStop => exact ⟨_, rfl, takeOperator_pending fun _ => by split <;> simp⟩
  | manualAuth => exact ⟨_, rfl, takeOperator_pending fun _ => by rw [manualRequest_only]⟩
  | receiveStart => exact ⟨_, rfl, takeOperator_pending fun _ => by rw [receiveRequest_only]⟩
  | authWindowExpiry | noFlowExpiry | meterSilenceExpiry | settleExpiry | postDelayExpiry | holdLimitExpiry =>
    exact ⟨_, rfl, expiry_pending (by simp)⟩
  | frameSent p =>
    refine ⟨_, rfl, ?_⟩
    split
    · split
      · exact startUp_pending _
      · cases p <;> rfl
    · rfl
  | startUp straps => exact ⟨_, rfl, startUp_pending straps⟩
  | digestDone => exact ⟨_, rfl, by split <;> rfl⟩
  | sweepDone =>
    refine ⟨_, rfl, ?_⟩
    split
    · next work _ _ =>
      show (State.sweepMark (work, s)).2.pending = s.pending
      rw [sweepMark_snd_only]
    · rfl
  | identify | queryEmpty | restart | readLog | rollCallRead => exact ⟨_, rfl, takeCommand_pending fun _ => by simp⟩
  | setClock | sweep | openPeriod | rollCallStart | rollCallStop | siteResume =>
    exact ⟨_, rfl, takeCommand_pending fun _ => rfl⟩
  | status a x n o =>
    refine ⟨_, rfl, ?_⟩
    split
    · exact takeCommand_pending fun _ => by rw [cmdStatusCounterClear_fst_only]
    · exact takeCommand_pending fun _ => by simp
  | statusCounterClear => exact ⟨_, rfl, takeCommand_pending fun _ => by rw [cmdStatusCounterClear_fst_only]⟩
  | setPrivilege => exact ⟨_, rfl, takeCommand_pending fun _ => by rw [cmdSetPrivilege_fst_only]⟩
  | setProtection => exact ⟨_, rfl, takeCommand_pending fun _ => by rw [cmdSetProtection_fst_only]⟩
  | digest => exact ⟨_, rfl, takeCommand_pending fun _ => by rw [cmdDigest_fst_only]⟩
  | wipe => exact ⟨_, rfl, takeCommand_pending fun _ => by rw [cmdWipe_fst_only]⟩
  | loadMachine => exact ⟨_, rfl, takeCommand_pending fun _ => by rw [cmdLoadMachine_fst_only]⟩
  | deleteMachine => exact ⟨_, rfl, takeCommand_pending fun _ => by rw [cmdDeleteMachine_fst_only]⟩
  | readMachineByTag => exact ⟨_, rfl, takeCommand_pending fun _ => by rw [cmdReadByTag_fst_only]⟩
  | readMachineByIndex => exact ⟨_, rfl, takeCommand_pending fun _ => by rw [cmdReadByIndex_fst_only]⟩
  | setAllowance => exact ⟨_, rfl, takeCommand_pending fun _ => by rw [cmdSetAllowance_fst_only]⟩
  | clearStrikes => exact ⟨_, rfl, takeCommand_pending fun _ => by rw [cmdClearStrikes_fst_only]⟩
  | setStrikePolicy => exact ⟨_, rfl, takeCommand_pending fun _ => by rw [cmdSetStrikePolicy_fst_only]⟩
  | loadHoseProfile => exact ⟨_, rfl, takeCommand_pending fun _ => by rw [cmdLoadHoseProfile_fst_only]⟩
  | siteStop => exact ⟨_, rfl, takeCommand_pending fun _ => by rw [cmdSiteStop_fst_only]⟩
  | loadCalibration => exact ⟨_, rfl, takeCommand_pending fun _ => by rw [cmdLoadCalibration_fst_only]⟩
  | loadGrade => exact ⟨_, rfl, takeCommand_pending fun _ => by rw [cmdLoadGrade_fst_only]⟩
  | loadCompartment => exact ⟨_, rfl, takeCommand_pending fun _ => by rw [cmdLoadCompartment_fst_only]⟩
  | ackRestock => exact ⟨_, rfl, takeCommand_pending fun _ => by rw [cmdAckRestock_fst_only]⟩
  | setStock => exact ⟨_, rfl, takeCommand_pending fun _ => by rw [cmdSetStock_fst_only]⟩
  | reconcile => exact ⟨_, rfl, takeCommand_pending fun _ => by rw [cmdReconcile_fst_only]⟩
  | loadTariff => exact ⟨_, rfl, takeCommand_pending fun _ => by rw [cmdLoadTariff_fst_only]⟩
  | loadClassRate => exact ⟨_, rfl, takeCommand_pending fun _ => by rw [cmdLoadClassRate_fst_only]⟩
  | releaseLog => exact ⟨_, rfl, takeCommand_pending fun _ => by rw [cmdReleaseLog_fst_only]⟩
  | readCentres => exact ⟨_, rfl, takeCommand_pending fun _ => by rw [cmdReadCentres_fst_only]⟩
  | clearCentres => exact ⟨_, rfl, takeCommand_pending fun _ => by rw [cmdClearCentres_fst_only]⟩
  | rearm => exact ⟨_, rfl, takeCommand_pending fun _ => by rw [cmdRearm_fst_only]⟩
  | loadFrameClass => exact ⟨_, rfl, takeCommand_pending fun _ => by rw [cmdLoadFrameClass_fst_only]⟩
  | siteClockSecond | mainSupplyLoss | retentionSupplyFailure => exact ⟨_, rfl, by split <;> rfl⟩
  | storeValueLost entry change => exact ⟨_, rfl, by cases entry <;> rfl⟩

/-- Settles O2: the reception of a frame leaves the queue alone, and so does every row of its own. -/
theorem everyCommandCompletes : Obligations.EveryCommandCompletes := fun i s =>
  (samePending_received s).exec_next
    (fun j u raw same => (row_pending j u raw).imp fun _ ⟨next, kept⟩ => ⟨next, kept.trans same⟩) i s rfl

/-- Settles O1: by the queue's two shapes, and on the empty one time brings nothing without a SWEEP at a powered part. -/
theorem stepTakesTheFrontCommand : Obligations.StepTakesTheFrontCommand := fun _ =>
  ⟨fun _ _ queue => step_front queue,
    fun idle still => (step_idle idle).trans (congrArg Host.Outcome.next (sweepTick_still still))⟩

end Sys2Proof.Machine
end
